-- ==== Sys2Proof/Word.lean ====
section
/-! DEFINITION. Words of the hub: bytes, the numbers of its numbered things, and tables of a fixed size. -/

namespace Sys2Proof

/-- One byte of a frame (R159). -/
abbrev Byte := BitVec 8

/-- A value of the time base counter, in microseconds (R4). -/
abbrev Micros := BitVec 32

/-- Clients 0 to 3, equal to the number of the link that serves them (00_scope, Clients and links). -/
abbrev Client := Fin 4

/-- Field lines L0 to L23. -/
abbrev LineNo := Fin 24

/-- The three groups of eight field lines. -/
abbrev LineGroup := Fin 3

/-- Route entries 0 to 47. -/
abbrev EntryNo := Fin 48

/-- The six banks of route entries. -/
abbrev BankNo := Fin 6

/-- FIRST groups 0 to 31 (R47). -/
abbrev GroupNo := Fin 32

/-- Indexes of the record pool, 0 to 127 (R53). -/
abbrev RecIndex := Fin 128

/-- Post slots 0 to 3 of one sender (R146). -/
abbrev SlotNo := Fin 4

/-- Escalation profiles 0 to 3 (R117). -/
abbrev ProfileNo := Fin 4

/-- Priorities 0 to 7, 7 the highest. -/
abbrev Priority := Fin 8

/-- A set of classes 0 to 15 or of flags 0 to 15: one flag each, flag n at position n. -/
abbrev FlagSet := BitVec 16

/-- A fixed number of like things, as a list that carries its length. -/
structure Table (n : Nat) (α : Type) where
  data : List α
  size : data.length = n
  deriving DecidableEq, Repr

namespace Table

variable {n : Nat} {α : Type}

def get (t : Table n α) (i : Fin n) : α := t.data[i.val]'(by rw [t.size]; exact i.isLt)

def set (t : Table n α) (i : Fin n) (v : α) : Table n α :=
  ⟨t.data.set i.val v, by rw [List.length_set]; exact t.size⟩

/-- The table whose entry i is `f i`. -/
def build (f : Fin n → α) : Table n α := ⟨List.ofFn f, List.length_ofFn⟩

/-- The table whose entries are all `v`. -/
def const (v : α) : Table n α := ⟨List.replicate n v, List.length_replicate⟩

end Table

end Sys2Proof
end

