-- ==== Sys2Proof/Config.lean ====
section
/-! DEFINITION. What is fixed for one hub: the sizes and times the manual gives, and the strap settings a board chooses.
No rule of the manual leaves a result value undefined, so there is no free value here. -/

namespace Sys2Proof

/-- The UNROUTED strap (R174). -/
inductive UnroutedStrap where
  | drop
  | supervisor
  deriving DecidableEq, Repr

/-- The LINEDEF strap (R174, R17). -/
inductive LineDefStrap where
  | off
  | edge
  deriving DecidableEq, Repr

/-- The RATE strap: 115,200 or 921,600 baud (R174). -/
inductive RateStrap where
  | baud115200
  | baud921600
  deriving DecidableEq, Repr

/-- The four strap pins (R174). -/
structure Straps where
  supsel : Client
  unrouted : UnroutedStrap
  lineDef : LineDefStrap
  rate : RateStrap
  deriving DecidableEq, Repr

/-- The levels at the strap pins, which are inputs: as they stand now, and as each later board reset of the hub's own finds them, in
order; when these are used up the pins stand as they last did. A level between two samplings has no effect (R174; log entry 8). -/
structure PinLevels where
  now : Straps
  later : List Straps
  deriving DecidableEq, Repr

/-- The levels at the next board reset of the hub's own. -/
def PinLevels.next (p : PinLevels) : PinLevels :=
  match p.later with
  | [] => p
  | x :: rest => ⟨x, rest⟩

namespace Config

/-- Places of the intake queue (R6). -/
def intakePlaces : Nat := 16

/-- Records each client may take whenever one is free (R61). -/
def reserve : Nat := 4

/-- POOL_LOW is raised at this many free records or fewer (R14). -/
def poolLowAt : Nat := 8

/-- POOL_LOW is armed again at this many free records or more (R14). -/
def poolRearmAt : Nat := 32

/-- Reply places of one link (R162). -/
def replyPlaces : Nat := 2

/-- The largest LEN of a frame (R159). -/
def maxPayload : Nat := 48

/-- The gap limit in microseconds (R160). -/
def gapLimit : Nat := 2000

/-- Microseconds of one millisecond tick (R4). -/
def tickMicros : Nat := 1000

/-- The client-reset pulse of a power-on or board reset, in ms (R131). -/
def boardPulseMs : Nat := 10

/-- The board-reset output's pulse, in ms (R126). -/
def outputPulseMs : Nat := 20

/-- The spacing of counted heartbeats, in ms (R141). -/
def spacingMs : Nat := 10

/-- Counted heartbeats that complete a rejoin (R142). -/
def rejoinBeats : Nat := 16

/-- The score from which an attached client is WARNED (R134). -/
def warnedAt : Nat := 96

/-- The score from which an attached client is RESTRICTED (R134). -/
def restrictedAt : Nat := 128

end Config

end Sys2Proof
end

