-- ==== Sys2Proof/Syntax.lean ====
section
/-! DEFINITION. The commands of the hub: one constructor per row of spec/opcode_table.json. -/

namespace Sys2Proof

/-- A client's two contexts (R97). -/
inductive ContextName where
  | operate
  | service
  deriving DecidableEq, Repr

/-- The request kinds a client may send (R170). -/
inductive RequestKind where
  | ready
  | ack
  | exchange
  | contextSet
  | timerSet
  | raise
  | post
  | withdraw
  | signal
  | heartbeat
  | rejoin
  | query
  | routeWrite
  | bankSet
  | lineSet
  | profileSet
  | clientSet
  | routeRead
  | lineRead
  | profileRead
  | clientRead
  | force
  | freeze
  | sleep
  | wake
  | resetHub
  | noteSet
  | status
  deriving DecidableEq, Repr

/-- How the request that a request command names reaches its link controller (log entry 6).
`sent tag payload`: the client sends the frame now, and the link takes the request in the same step when no older one waits.
`waiting`: the link takes the request that its oldest held reply place already holds. -/
inductive Arrival where
  | sent (tag : Byte) (payload : List Byte)
  | waiting
  deriving DecidableEq, Repr

/-- The commands. The table gives them no operands: each carries what its rule says the event brings. -/
inductive Instr where
  /-- POWER_ON (R175): supply is applied, with the strap pins as they stand then and later (log entry 8), and the raw level of line n
  (position n). -/
  | powerOn (pins : PinLevels) (raw : BitVec 24)
  /-- RESET_INPUT_ASSERTED (R176): the reset input is asserted, with the strap pins as they stand then and later (log entry 8). -/
  | resetInputAsserted (pins : PinLevels)
  /-- MILLISECOND_TICK (R4): time passes to the next tick, which is taken. -/
  | millisecondTick
  /-- RAW_LEVEL_CHANGE (R18): line `l` takes the raw level `level` (true for 1). -/
  | rawLevelChange (l : LineNo) (level : Bool)
  /-- DEBOUNCE_EXPIRY (R18). -/
  | debounceExpiry (l : LineNo)
  /-- REPEAT_TIMER_EXPIRY (R26). -/
  | repeatTimerExpiry (l : LineNo)
  /-- CONTEXT_TIMER_EXPIRY (R100). -/
  | contextTimerExpiry (c : Client) (k : ContextName)
  /-- ROUTE_TAKE (R10). -/
  | routeTake
  /-- HOLD_OFF_EXPIRY (R111). -/
  | holdOffExpiry (c : Client)
  /-- DEADLINE_EXPIRY (R122): the DEADLINE timer of client c's presented record. -/
  | deadlineExpiry (c : Client)
  /-- DELAY_EXPIRY (R123): the DELAY timer of client c's presented record. -/
  | delayExpiry (c : Client)
  /-- CLIENT_RESET_PULSE_EXPIRY (R127). -/
  | clientResetPulseExpiry (c : Client)
  /-- BOARD_RESET_PULSE_EXPIRY (R131). -/
  | boardResetPulseExpiry
  /-- BOARD_RESET_OUTPUT_EXPIRY (R126). -/
  | boardResetOutputExpiry
  /-- SPACING_TIMER_EXPIRY (R141). -/
  | spacingTimerExpiry (c : Client)
  /-- RECEIVED_BYTE (R160): byte `b` is received on link c. -/
  | receivedByte (c : Client) (b : Byte)
  /-- GAP_TIMEOUT (R160): no further byte comes on link c until the gap limit has passed. -/
  | gapTimeout (c : Client)
  /-- TRANSMISSION_END (R165): the last byte of the frame in transmission on link c is sent. -/
  | transmissionEnd (c : Client)
  /-- READY (R82): A client declares READY. -/
  | ready (c : Client) (a : Arrival)
  /-- ACK (R84): A client acknowledges a handle DONE or DECLINE. -/
  | ack (c : Client) (a : Arrival)
  /-- EXCHANGE (R102): A client changes its active context. -/
  | exchange (c : Client) (a : Arrival)
  /-- CONTEXT_SET (R99): A client sets the class set and threshold of one of its contexts. -/
  | contextSet (c : Client) (a : Arrival)
  /-- TIMER_SET (R101): A client sets one of its context timers. -/
  | timerSet (c : Client) (a : Arrival)
  /-- RAISE (R15): A client raises an event. -/
  | raise (c : Client) (a : Arrival)
  /-- POST (R147): A client posts a payload to another client. -/
  | post (c : Client) (a : Arrival)
  /-- WITHDRAW (R151): A sender takes back a queued post. -/
  | withdraw (c : Client) (a : Arrival)
  /-- SIGNAL (R154): A client signals flags to another client. -/
  | signal (c : Client) (a : Arrival)
  /-- HEARTBEAT (R142): A client sends a heartbeat. -/
  | heartbeat (c : Client) (a : Arrival)
  /-- REJOIN (R141): A client asks to be attached again. -/
  | rejoin (c : Client) (a : Arrival)
  /-- QUERY (R169): A client reads its own delivery state. -/
  | query (c : Client) (a : Arrival)
  /-- ROUTE_WRITE (R51): A client writes one route entry. -/
  | routeWrite (c : Client) (a : Arrival)
  /-- BANK_SET (R38): A client opens or closes a bank. -/
  | bankSet (c : Client) (a : Arrival)
  /-- LINE_SET (R28): A client configures a field line. -/
  | lineSet (c : Client) (a : Arrival)
  /-- PROFILE_SET (R118): A client sets an escalation profile. -/
  | profileSet (c : Client) (a : Arrival)
  /-- CLIENT_SET (R167): A client sets the settings of a client. -/
  | clientSet (c : Client) (a : Arrival)
  /-- ROUTE_READ (R52): A client reads one route entry. -/
  | routeRead (c : Client) (a : Arrival)
  /-- LINE_READ (R30): A client reads a field line. -/
  | lineRead (c : Client) (a : Arrival)
  /-- PROFILE_READ (R119): A client reads an escalation profile. -/
  | profileRead (c : Client) (a : Arrival)
  /-- CLIENT_READ (R168): A client reads the settings and state of a client. -/
  | clientRead (c : Client) (a : Arrival)
  /-- FORCE_ATTACH (R144): FORCE with operation ATTACH. -/
  | forceAttach (c : Client) (a : Arrival)
  /-- FORCE_DETACH (R144): FORCE with operation DETACH. -/
  | forceDetach (c : Client) (a : Arrival)
  /-- FORCE_RESET (R130): FORCE with operation RESET. -/
  | forceReset (c : Client) (a : Arrival)
  /-- FREEZE (R182): A client sets FROZEN. -/
  | freeze (c : Client) (a : Arrival)
  /-- SLEEP (R180): A client moves the hub to SLEEP_PENDING. -/
  | sleep (c : Client) (a : Arrival)
  /-- WAKE (R180): A client returns the hub to RUN. -/
  | wake (c : Client) (a : Arrival)
  /-- RESET_HUB (R178): A client makes a board reset pending. -/
  | resetHub (c : Client) (a : Arrival)
  /-- NOTE_SET (R179): A client writes the retained note. -/
  | noteSet (c : Client) (a : Arrival)
  /-- STATUS (R183): A client reads the hub's state. -/
  | status (c : Client) (a : Arrival)
  /-- RESET_INPUT_RELEASE (R176): the reset input passes to released. -/
  | resetInputRelease
  deriving DecidableEq, Repr

end Sys2Proof
end

