-- ==== Sys2Proof/Decode.lean ====
section
/-! DEFINITION. No row of spec/opcode_table.json gives bits (its "fields" are empty and it has no pattern): the hub is a block
without an instruction word, so no word spells a command. The bytes of a request frame are read by the link's receiver
(Machine/Links.lean) and its fields by Machine/Operands.lean. -/

namespace Sys2Proof

/-- The command that a word spells by the table's bits: none, since no row gives bits. -/
def decodeTableWord (_nbits _w : Nat) : Option Instr := none

end Sys2Proof
end

