-- ==== Sys2Proof/Machine/Types.lean ====
section
/-! DEFINITION. The kinds of data the blocks of the hub hold, block by block, as plain data with the manual's names. -/

namespace Sys2Proof.Machine

/-! ## Events (chapter 1) -/

/-- An event's key (R1). -/
structure Key where
  source : BitVec 6
  cls : BitVec 4
  code : BitVec 12
  deriving DecidableEq, Repr

/-- An event descriptor: a key and a created time (R1). -/
structure Descriptor where
  key : Key
  created : Micros
  deriving DecidableEq, Repr

/-- The types of hub notice (R11). -/
inductive NoticeType where
  | health
  | drop
  | escalated
  | unclaimed
  | clientReset
  | overrun
  | poolLow
  deriving DecidableEq, Repr

/-! ## Time base (R4) -/

/-- The millisecond timers of the hub, each decreased by one at a tick while it counts. -/
inductive Timer where
  | debounce (l : LineNo)
  | repeatInterval (l : LineNo)
  | context (c : Client) (k : ContextName)
  | holdOff (c : Client)
  | stage (c : Client)
  | pulse (c : Client)
  | boardPulse
  | boardOutput
  | spacing (c : Client)
  deriving DecidableEq, Repr

/-- The microsecond counter, the microseconds since the last tick (1000 while a tick is due and not yet taken; log entry 40), and the
timers whose decrease of a tick moment now begun has already been taken (none when no tick moment is begun; log entry 3). -/
structure TimeBase where
  counter : Micros
  divider : Nat
  ticked : List Timer
  deriving DecidableEq, Repr

/-! ## Field lines (chapter 2) -/

inductive LineMode where
  | disabled
  | edge
  | level
  | groupEdge
  deriving DecidableEq, Repr

inductive Polarity where
  | activeLow
  | activeHigh
  deriving DecidableEq, Repr

/-- A line's configuration (R16); times in ms. -/
structure LineConfig where
  mode : LineMode
  polarity : Polarity
  debounce : Nat
  interval : Nat
  cls : BitVec 4
  code : BitVec 12
  deriving DecidableEq, Repr

/-- A line's latch; a PENDING line holds its descriptor (R20). -/
inductive Latch where
  | armed
  | pending (d : Descriptor)
  | outstanding
  deriving DecidableEq, Repr

/-- One field line: levels as 1 = true; a timer at 0 is idle or run out (R18, R26, R30). -/
structure Line where
  config : LineConfig
  raw : Bool
  accepted : Bool
  debounceLeft : Nat
  latch : Latch
  queued : Nat
  disposed : Bool
  repeatLeft : Nat
  deriving DecidableEq, Repr

/-! ## Route table (chapter 3) -/

inductive RouteMode where
  | each
  | first
  deriving DecidableEq, Repr

/-- A route entry (R33); `targets` has one flag per client. -/
structure RouteEntry where
  enabled : Bool
  matchSource : BitVec 6
  careSource : BitVec 6
  matchClass : BitVec 4
  careClass : BitVec 4
  matchCode : BitVec 12
  careCode : BitVec 12
  targets : BitVec 4
  mode : RouteMode
  priority : Priority
  urgent : Bool
  fallback : Option Client
  profile : ProfileNo
  deriving DecidableEq, Repr

inductive BankState where
  | closed
  | opened
  deriving DecidableEq, Repr

/-- An IN_USE group of the FIRST group table (R47); a FREE group is `none` in the table. -/
structure FirstGroup where
  live : Nat
  done : Bool
  entry : EntryNo
  deriving DecidableEq, Repr

/-! ## Delivery store (chapter 4) -/

/-- A record's handle (R54). -/
structure Handle where
  index : RecIndex
  gen : Byte
  deriving DecidableEq, Repr

inductive RecState where
  | queued
  | presented
  | suspended
  deriving DecidableEq, Repr

/-- A record's mode, with the group of a FIRST copy. -/
inductive RecMode where
  | each
  | first (g : GroupNo)
  deriving DecidableEq, Repr

/-- The route entry that matched, or UNROUTED, or DIRECT. -/
inductive Hit where
  | entry (e : EntryNo)
  | unrouted
  | direct
  deriving DecidableEq, Repr

inductive Stage where
  | waiting
  | deadline
  | delay
  | spent
  deriving DecidableEq, Repr

/-- The escalation state of a record (R120); `left` is the stage time remaining in ms. -/
structure Escalation where
  stage : Stage
  left : Nat
  expired : Bool
  asserting : Bool
  deriving DecidableEq, Repr

/-- A record that is not FREE (R53); the payload is empty for every record but a post, the flags for every record but a signal. -/
structure Record where
  state : RecState
  owner : Client
  key : Key
  priority : Priority
  urgent : Bool
  mode : RecMode
  hit : Hit
  profile : ProfileNo
  fallback : Option Client
  count : Nat
  created : Micros
  interrupted : Bool
  resumed : Bool
  esc : Option Escalation
  payload : List Byte
  flags : FlagSet
  deriving DecidableEq, Repr

/-- One place of the pool: a FREE record keeps its generation and nothing else (R53). -/
structure PoolSlot where
  gen : Byte
  held : Option Record
  deriving DecidableEq, Repr

/-- A client's drop counter and losses-since-READY count (R67). -/
structure DropCounts where
  total : Nat
  sinceReady : Nat
  deriving DecidableEq, Repr

/-- A request to the store (R60): the fields a new record takes from it. -/
structure StoreRequest where
  owner : Client
  key : Key
  priority : Priority
  urgent : Bool
  mode : RecMode
  hit : Hit
  profile : ProfileNo
  fallback : Option Client
  created : Micros
  payload : List Byte
  deriving DecidableEq, Repr

/-- Why a record is freed, as reported to PST (R69). -/
inductive FreeCause where
  | ackDone
  | ackDecline
  | drop
  | other
  deriving DecidableEq, Repr

/-! ## Presentation (chapter 5) -/

/-- PRS's items for one client (R74). -/
structure Presentation where
  ready : Bool
  gateOpen : Bool
  lastRecalled : Option Handle
  deriving DecidableEq, Repr

/-- The disposition of an ACK (R84). -/
inductive Disposition where
  | done
  | decline
  deriving DecidableEq, Repr

/-! ## Contexts (chapter 6) -/

inductive TimerMode where
  | off
  | once
  | periodic
  deriving DecidableEq, Repr

/-- One context of one client: its filter and its timer (R97). -/
structure ContextState where
  classes : FlagSet
  threshold : Priority
  timerMode : TimerMode
  left : Nat
  reload : Nat
  deriving DecidableEq, Repr

/-- CTX's items for one client (R97). -/
structure ClientContexts where
  operate : ContextState
  service : ContextState
  suspended : Option Handle
  active : ContextName
  holdOff : Bool
  holdOffLeft : Nat
  holdOffTime : Nat
  deriving DecidableEq, Repr

/-- The cause a CONTEXT frame carries (R107). -/
inductive ContextCause where
  | request
  | forced
  | reset
  deriving DecidableEq, Repr

/-! ## Escalation (chapter 7) -/

inductive Action where
  | noteOnly
  | attention
  | clientReset
  | attentionThenReset
  | boardReset
  deriving DecidableEq, Repr

/-- An escalation profile (R117); delay code n stands for 16 * 2^n ms (R118). -/
structure Profile where
  deadline : Nat
  action : Action
  delayCode : Fin 8
  deriving DecidableEq, Repr

/-- A client's last reset cause (R131). -/
inductive ResetCause where
  | escalation
  | forced
  | board
  deriving DecidableEq, Repr

/-- ESC's items for one client; a line is asserted when true. -/
structure ClientLines where
  attention : Bool
  resetLine : Bool
  pulseLeft : Nat
  pulseWidth : Nat
  lastCause : ResetCause
  deriving DecidableEq, Repr

/-- The pulse of power-on and board reset and the board-reset output (R126, R131). -/
structure BoardLines where
  pulseLeft : Nat
  output : Bool
  outputLeft : Nat
  deriving DecidableEq, Repr

/-! ## Health (chapter 8) -/

inductive Health where
  | healthy
  | warned
  | restricted
  | detached
  | rejoining
  deriving DecidableEq, Repr

/-- HLT's items for one client (R132). -/
structure ClientHealth where
  score : Nat
  health : Health
  rejoin : Nat
  spacingLeft : Nat
  deriving DecidableEq, Repr

/-! ## Posts and signals (chapter 9) -/

/-- A post slot (R146). -/
inductive PostSlot where
  | empty
  | waiting (target : Client) (h : Handle)
  | orphaned (target : Client) (h : Handle)
  deriving DecidableEq, Repr

/-- The outcome of a post in a SLOTS frame (R150). -/
inductive PostOutcome where
  | none
  | taken
  | declined
  | lost
  deriving DecidableEq, Repr

/-- One entry of a SLOTS frame (R150). -/
structure SlotsEntry where
  outcome : PostOutcome
  number : Nat
  deriving DecidableEq, Repr

/-- PST's items for one client, as sender (slots) and as target (R146, R153). -/
structure ClientPosts where
  slots : Table 4 PostSlot
  pendingFlags : FlagSet
  postProfile : ProfileNo
  signalProfile : ProfileNo
  deriving DecidableEq, Repr

/-! ## Links (chapter 10) -/

/-- Status codes (R171). -/
inductive Status where
  | ok
  | denied
  | frozen
  | bankOpen
  | badField
  | badKind
  | busy
  | same
  | noSlot
  | poolFull
  | backlog
  | detached
  | notDetached
  | stale
  | takenElsewhere
  | tooLate
  | notWaiting
  | withdrawn
  deriving DecidableEq, Repr

/-- A REPLY frame: the request's tag and kind byte, the status and the result fields (R163). -/
structure Reply where
  tag : Byte
  kind : Byte
  status : Status
  result : List Byte
  deriving DecidableEq, Repr

/-- What a DELIVER frame carries (R78); `body` is a post's payload or a signal's flag set. -/
structure DeliverFields where
  handle : Handle
  key : Key
  priority : Priority
  urgent : Bool
  count : Nat
  interrupted : Bool
  resumed : Bool
  created : Micros
  hit : Hit
  body : List Byte
  deriving DecidableEq, Repr

/-- The frames the hub sends on its own (R164). -/
inductive HubFrame where
  | deliver (d : DeliverFields)
  | recall (h : Handle)
  | context (active : ContextName) (cause : ContextCause) (suspended : Option Handle)
  | slots (entries : Table 4 SlotsEntry)
  deriving DecidableEq, Repr

/-- A frame in transmission. -/
inductive TxFrame where
  | reply (r : Reply)
  | hub (f : HubFrame)
  deriving DecidableEq, Repr

/-- A request accepted into a reply place and not yet taken (R162), with the time its last byte was accepted (R5). -/
structure Request where
  kind : RequestKind
  tag : Byte
  payload : List Byte
  accepted : Micros
  deriving DecidableEq, Repr

/-- A link's receiver (R160). In BODY `len` is LEN and `got` the bytes KIND, TAG and payload so far, in order;
in CHECK `hi` is the first CHECK byte once it has come. -/
inductive Receiver where
  | hunt
  | length
  | body (len : Byte) (got : List Byte)
  | check (len : Byte) (got : List Byte) (hi : Option Byte)
  deriving DecidableEq, Repr

/-- A link controller (R160, R162, R164, R165, R161). `requests` and `replies` hold the reply places, `hub` the hub frames
waiting to be sent, oldest first; `tx` is the frame in transmission. -/
structure Link where
  receiver : Receiver
  stamp : Micros
  requests : List Request
  replies : List Reply
  hub : List HubFrame
  tx : Option TxFrame
  frameErrors : Nat
  overruns : Nat
  gaps : Nat
  deriving DecidableEq, Repr

/-! ## Supervision (chapters 10 and 11) -/

/-- The kind of the latest reset of the hub (R177). -/
inductive CauseKind where
  | powerOn
  | pin
  | escalation
  | request
  deriving DecidableEq, Repr

/-- The reset cause record (R177). -/
structure CauseRecord where
  kind : CauseKind
  client : Option Client
  count : Nat
  deriving DecidableEq, Repr

/-- The four privileges (R166). -/
inductive Privilege where
  | configure
  | control
  | post
  | raise
  deriving DecidableEq, Repr

/-- A client's set of privileges (R166). -/
structure PrivilegeSet where
  configure : Bool
  control : Bool
  post : Bool
  raise : Bool
  deriving DecidableEq, Repr

inductive HubMode where
  | run
  | sleepPending
  | sleep
  deriving DecidableEq, Repr

/-- SUP's items. `pins` are the strap pin levels, now and at later resets (log entry 8), `straps` the values in effect (R174).
`resetInput` is true when asserted. -/
structure Supervisor where
  pins : PinLevels
  straps : Straps
  mode : HubMode
  frozen : Bool
  cause : CauseRecord
  note : BitVec 32
  privileges : Table 4 PrivilegeSet
  poolLowArmed : Bool
  resetPending : Option Client
  resetInput : Bool
  deriving DecidableEq, Repr

end Sys2Proof.Machine
end

