-- ==== Sys2Proof/Machine/Flags.lean ====
section
/-! DEFINITION. Counts, checks and the numbers that stand for names: saturating counts, the fault score's states, the CHECK of
a frame, and the values of status codes, kinds and named fields. -/

namespace Sys2Proof.Machine

/-- A saturating count: it rises by `k` and stops at `limit` (00_scope, Numbers and time). -/
def satAdd (limit n k : Nat) : Nat := min limit (n + k)

/-- A 16-bit count that stops at 65,535 rises by one. -/
def up16 (n : Nat) : Nat := satAdd 65535 n 1

/-- A count that stops at 255 rises by one. -/
def up8 (n : Nat) : Nat := satAdd 255 n 1

/-! ## Health (R134) -/

/-- The health state of an attached client of this score. -/
def healthOfScore (score : Nat) : Health :=
  if score < Config.warnedAt then .healthy
  else if score < Config.restrictedAt then .warned
  else .restricted

/-- HEALTHY, WARNED or RESTRICTED (00_scope, Clients and links). -/
def Health.attached : Health → Bool
  | .healthy => true
  | .warned => true
  | .restricted => true
  | .detached => false
  | .rejoining => false

/-- HEALTHY or WARNED (R41, R136). -/
def Health.sound : Health → Bool
  | .healthy => true
  | .warned => true
  | .restricted => false
  | .detached => false
  | .rejoining => false

/-- R142, R168. -/
def Health.code : Health → Nat
  | .healthy => 0
  | .warned => 1
  | .restricted => 2
  | .detached => 3
  | .rejoining => 4

/-! ## Numbers of named values -/

/-- R11. -/
def NoticeType.code : NoticeType → Nat
  | .health => 1
  | .drop => 2
  | .escalated => 3
  | .unclaimed => 4
  | .clientReset => 5
  | .overrun => 6
  | .poolLow => 7

/-- R117. -/
def Action.code : Action → Nat
  | .noteOnly => 0
  | .attention => 1
  | .clientReset => 2
  | .attentionThenReset => 3
  | .boardReset => 4

/-- R131. -/
def ResetCause.code : ResetCause → Nat
  | .escalation => 0
  | .forced => 1
  | .board => 2

/-- R2, R82. -/
def contextCode : ContextName → Nat
  | .operate => 0
  | .service => 1

/-- R107. -/
def ContextCause.code : ContextCause → Nat
  | .request => 0
  | .forced => 1
  | .reset => 2

/-- R16. -/
def LineMode.code : LineMode → Nat
  | .disabled => 0
  | .edge => 1
  | .level => 2
  | .groupEdge => 3

/-- R16. -/
def Polarity.code : Polarity → Nat
  | .activeLow => 0
  | .activeHigh => 1

/-- R28. -/
def Latch.code : Latch → Nat
  | .armed => 0
  | .pending _ => 1
  | .outstanding => 2

/-- R38, R52. -/
def BankState.code : BankState → Nat
  | .closed => 0
  | .opened => 1

/-- R172. -/
def RouteMode.code : RouteMode → Nat
  | .each => 0
  | .first => 1

/-- R172: the hit byte of DELIVER. -/
def Hit.code : Hit → Nat
  | .entry e => e.val
  | .unrouted => 64
  | .direct => 65

/-- R169: 0 is kept for no presented record. -/
def Stage.code : Stage → Nat
  | .waiting => 1
  | .deadline => 2
  | .delay => 3
  | .spent => 4

/-- R169. -/
def PostSlot.code : PostSlot → Nat
  | .empty => 0
  | .waiting _ _ => 1
  | .orphaned _ _ => 2

/-- R150. -/
def PostOutcome.code : PostOutcome → Nat
  | .none => 0
  | .taken => 1
  | .declined => 2
  | .lost => 3

/-- R177. -/
def CauseKind.code : CauseKind → Nat
  | .powerOn => 0
  | .pin => 1
  | .escalation => 2
  | .request => 3

/-- R180. -/
def HubMode.code : HubMode → Nat
  | .run => 0
  | .sleepPending => 1
  | .sleep => 2

/-- R174. -/
def unroutedCode : UnroutedStrap → Nat
  | .drop => 0
  | .supervisor => 1

/-- R174. -/
def lineDefCode : LineDefStrap → Nat
  | .off => 0
  | .edge => 1

/-- R174. -/
def rateCode : RateStrap → Nat
  | .baud115200 => 0
  | .baud921600 => 1

/-- R171. -/
def Status.code : Status → Nat
  | .ok => 0
  | .denied => 1
  | .frozen => 2
  | .bankOpen => 3
  | .badField => 4
  | .badKind => 5
  | .busy => 6
  | .same => 7
  | .noSlot => 8
  | .poolFull => 9
  | .backlog => 10
  | .detached => 11
  | .notDetached => 12
  | .stale => 13
  | .takenElsewhere => 14
  | .tooLate => 15
  | .notWaiting => 16
  | .withdrawn => 17

/-- The KIND value of a request (R170). -/
def kindByte : RequestKind → Byte
  | .ready => 0x01
  | .ack => 0x02
  | .exchange => 0x03
  | .contextSet => 0x04
  | .timerSet => 0x05
  | .raise => 0x06
  | .post => 0x07
  | .withdraw => 0x08
  | .signal => 0x09
  | .heartbeat => 0x0A
  | .rejoin => 0x0B
  | .query => 0x0C
  | .routeWrite => 0x20
  | .bankSet => 0x21
  | .lineSet => 0x22
  | .profileSet => 0x23
  | .clientSet => 0x24
  | .routeRead => 0x30
  | .lineRead => 0x31
  | .profileRead => 0x32
  | .clientRead => 0x33
  | .force => 0x40
  | .freeze => 0x41
  | .sleep => 0x42
  | .wake => 0x43
  | .resetHub => 0x44
  | .noteSet => 0x45
  | .status => 0x50

/-- Every request kind, in the order of R170's table. -/
def requestKinds : List RequestKind :=
  [.ready, .ack, .exchange, .contextSet, .timerSet, .raise, .post, .withdraw, .signal, .heartbeat, .rejoin, .query,
   .routeWrite, .bankSet, .lineSet, .profileSet, .clientSet, .routeRead, .lineRead, .profileRead, .clientRead, .force,
   .freeze, .sleep, .wake, .resetHub, .noteSet, .status]

/-- The request kind a KIND byte names, if any (R162, R170). -/
def kindOfByte (b : Byte) : Option RequestKind := requestKinds.find? fun k => kindByte k = b

/-- The KIND value of a hub frame (R170). -/
def HubFrame.kindByte : HubFrame → Byte
  | .deliver _ => 0x81
  | .recall _ => 0x82
  | .context _ _ _ => 0x83
  | .slots _ => 0x84

/-- The KIND value of a REPLY (R170). -/
def replyKindByte : Byte := 0x80

/-! ## The CHECK of a frame (R159) -/

/-- One position: the polynomial x^16 + x^12 + x^5 + 1, most significant bit first. -/
def crcShift (crc : BitVec 16) : BitVec 16 :=
  if crc.getLsbD 15 then (crc <<< 1) ^^^ 0x1021#16 else crc <<< 1

/-- One byte, most significant bit first. -/
def crcByte (crc : BitVec 16) (b : Byte) : BitVec 16 :=
  let x := crc ^^^ ((b.zeroExtend 16) <<< 8)
  crcShift (crcShift (crcShift (crcShift (crcShift (crcShift (crcShift (crcShift x)))))))

/-- The CRC-16 over `bytes`, with initial value all ones and no final inversion. -/
def crc16 (bytes : List Byte) : BitVec 16 := bytes.foldl crcByte 0xFFFF#16

end Sys2Proof.Machine
end

