-- ==== Sys2Proof/Machine/ResetValues.lean ====
section
/-! DEFINITION. The value each block's state takes at power-on and at board reset, as its chapter gives it (R175 step 3). -/

namespace Sys2Proof.Machine

/-- R4. -/
def timeAtReset : TimeBase := ⟨0, 0, []⟩

/-- The default configuration of line `l` (R17). -/
def lineConfigAtReset (d : LineDefStrap) (l : LineNo) : LineConfig where
  mode := match d with
    | .edge => .edge
    | .off => .disabled
  polarity := .activeLow
  debounce := 4
  interval := 50
  cls := 0
  code := BitVec.ofNat 12 l.val

/-- R32, R17; the accepted level takes the raw level. -/
def lineAtReset (d : LineDefStrap) (l : LineNo) (raw : Bool) : Line where
  config := lineConfigAtReset d l
  raw := raw
  accepted := raw
  debounceLeft := 0
  latch := .armed
  queued := 0
  disposed := false
  repeatLeft := 0

/-- R34. -/
def entryAtReset : RouteEntry where
  enabled := false
  matchSource := 0
  careSource := 0
  matchClass := 0
  careClass := 0
  matchCode := 0
  careCode := 0
  targets := 0
  mode := .each
  priority := 0
  urgent := false
  fallback := none
  profile := 0

/-- R73: FREE, generation 0. -/
def slotAtReset : PoolSlot := ⟨0, none⟩

/-- R73. -/
def dropsAtReset : DropCounts := ⟨0, 0⟩

/-- R96. -/
def presentationAtReset : Presentation := ⟨false, true, none⟩

/-- R116: also the value a client reset gives a context. -/
def contextAtReset : ContextState := ⟨BitVec.allOnes 16, 0, .off, 0, 1000⟩

/-- R116. -/
def contextsAtReset : ClientContexts := ⟨contextAtReset, contextAtReset, none, .operate, false, 0, 20⟩

/-- R117. -/
def profileAtReset (p : ProfileNo) : Profile :=
  match p with
  | 0 => ⟨1000, .noteOnly, 4⟩
  | 1 => ⟨500, .attention, 4⟩
  | 2 => ⟨200, .attentionThenReset, 4⟩
  | 3 => ⟨0, .noteOnly, 4⟩

/-- R131: the reset line is asserted for the common 10 ms pulse, so the client's own pulse timer stands at 0. -/
def clientLinesAtReset : ClientLines := ⟨false, true, 0, 10, .board⟩

/-- R131, R126: the common pulse, with the board-reset output as given. -/
def boardLinesAtReset (output : Bool) (outputLeft : Nat) : BoardLines := ⟨Config.boardPulseMs, output, outputLeft⟩

/-- R145. -/
def healthAtReset : ClientHealth := ⟨0, .healthy, 0, 0⟩

/-- R157. -/
def postsAtReset : ClientPosts := ⟨Table.const .empty, 0, 0, 0⟩

/-- R173. -/
def linkAtReset : Link := ⟨.hunt, 0, [], [], [], none, 0, 0, 0⟩

/-- R166: all four for the supervising client, POST and RAISE for each other. -/
def privilegesAtReset (supsel c : Client) : PrivilegeSet :=
  if c = supsel then ⟨true, true, true, true⟩ else ⟨false, false, true, true⟩

/-- R175 steps 1 and 4, R177, R180, R182: the straps are sampled, the cause record is written, the mode is RUN, FROZEN is
clear, POOL_LOW is armed and no RESET_HUB is pending. -/
def supervisorAtReset (pins : PinLevels) (cause : CauseRecord) (note : BitVec 32) (resetInput : Bool) : Supervisor where
  pins := pins
  straps := pins.now
  mode := .run
  frozen := false
  cause := cause
  note := note
  privileges := Table.build (privilegesAtReset pins.now.supsel)
  poolLowArmed := true
  resetPending := none
  resetInput := resetInput

/-- The strap levels of State.reset: every strap at its value 0 (log entry 9). -/
def strapsOfReset : PinLevels := ⟨⟨0, .drop, .off, .baud115200⟩, []⟩

end Sys2Proof.Machine
end

