-- ==== Sys2Proof/Machine/State.lean ====
section
/-! DEFINITION. The state of the hub, as plain data; the machine right after power-on; the reasons a step can stop. -/

namespace Sys2Proof.Machine

/-- The hub's state, block by block (00_scope, Block overview). -/
structure State where
  /-- TMB (R4). -/
  time : TimeBase
  /-- LIN: the 24 lines (R16 to R26). -/
  lines : Table 24 Line
  /-- LIN: masked-edge counters of groups 0 to 2 (R27). -/
  masked : Table 3 Nat
  /-- RTE: the intake queue, head first (R6). -/
  intake : List Descriptor
  /-- RTE: the waiting expiries of context timers, entry n for source 28 + n (R8). -/
  waiting : Table 8 (Option Descriptor)
  /-- RTE: the lost-notice counter (R12). -/
  lostNotices : Nat
  /-- RTE: the unrouted counter (R39). -/
  unrouted : Nat
  /-- RTE: the route table (R33). -/
  entries : Table 48 RouteEntry
  /-- RTE: bank states (R37). -/
  banks : Table 6 BankState
  /-- RTE: the FIRST group table; a FREE group is none (R47). -/
  groups : Table 32 (Option FirstGroup)
  /-- DST: the record pool (R53). -/
  pool : Table 128 PoolSlot
  /-- DST: one ordered queue per client, front first (R57). -/
  queues : Table 4 (List RecIndex)
  /-- DST: drop counts (R67). -/
  drops : Table 4 DropCounts
  /-- PRS (R74). -/
  presentation : Table 4 Presentation
  /-- CTX (R97). -/
  contexts : Table 4 ClientContexts
  /-- ESC: the four profiles (R117). -/
  profiles : Table 4 Profile
  /-- ESC: each client's lines, pulse and last reset cause (R125, R127, R131). -/
  clientLines : Table 4 ClientLines
  /-- ESC: the common reset pulse and the board-reset output (R126, R131). -/
  board : BoardLines
  /-- HLT (R132). -/
  health : Table 4 ClientHealth
  /-- PST (R146, R153). -/
  posts : Table 4 ClientPosts
  /-- SUP (chapter 11, R166). -/
  sup : Supervisor
  /-- LNK0 to LNK3 (chapter 10). -/
  links : Table 4 Link
  /-- The commands that wait, first in first out. -/
  pending : List Instr
  deriving DecidableEq, Repr

/-- Reasons the hub stops with a fault: none, since no rule of the manual stops it (log entry 28). -/
inductive Fault where
  deriving DecidableEq, Repr

/-- Reasons a step is refused. -/
inductive Refusal where
  /-- Raised by exec for a command that has no meaning yet; no command of this model is in that case. Safe: the model stops
  where the hub goes on. -/
  | notModelled (mnemonic : String)
  deriving DecidableEq, Repr

/-- The hub right after power-on (R175), with every strap at its value 0, every raw level 0 and the reset input released
(log entries 9 and 10), and no command waiting. -/
def State.reset : State where
  time := timeAtReset
  lines := Table.build fun l => lineAtReset strapsOfReset.now.lineDef l false
  masked := Table.const 0
  intake := []
  waiting := Table.const none
  lostNotices := 0
  unrouted := 0
  entries := Table.const entryAtReset
  banks := Table.const .closed
  groups := Table.const none
  pool := Table.const slotAtReset
  queues := Table.const []
  drops := Table.const dropsAtReset
  presentation := Table.const presentationAtReset
  contexts := Table.const contextsAtReset
  profiles := Table.build profileAtReset
  clientLines := Table.const clientLinesAtReset
  board := boardLinesAtReset false 0
  health := Table.const healthAtReset
  posts := Table.const postsAtReset
  sup := supervisorAtReset strapsOfReset ⟨.powerOn, none, 0⟩ 0 false
  links := Table.const linkAtReset
  pending := []

end Sys2Proof.Machine
end

