-- ==== Sys2Proof/Machine/Ops.lean ====
section
/-! DEFINITION. The named operations over the hub's state that every block uses: one update per field of State, the reads the
rules name (attached, held count, free count, the presented record), and the order of a client's queue. -/

namespace Sys2Proof.Machine

/-! ## Updates, one per field -/

namespace State

def setTime (s : State) (v : TimeBase) : State := { s with time := v }

def setLine (s : State) (i : LineNo) (v : Line) : State := { s with lines := s.lines.set i v }

def setMasked (s : State) (i : LineGroup) (v : Nat) : State := { s with masked := s.masked.set i v }

def setIntake (s : State) (v : List Descriptor) : State := { s with intake := v }

def setWaiting (s : State) (i : Fin 8) (v : Option Descriptor) : State := { s with waiting := s.waiting.set i v }

def setLostNotices (s : State) (v : Nat) : State := { s with lostNotices := v }

def setUnrouted (s : State) (v : Nat) : State := { s with unrouted := v }

def setEntry (s : State) (i : EntryNo) (v : RouteEntry) : State := { s with entries := s.entries.set i v }

def setBank (s : State) (i : BankNo) (v : BankState) : State := { s with banks := s.banks.set i v }

def setGroup (s : State) (i : GroupNo) (v : Option FirstGroup) : State := { s with groups := s.groups.set i v }

def setSlot (s : State) (i : RecIndex) (v : PoolSlot) : State := { s with pool := s.pool.set i v }

def setQueue (s : State) (i : Client) (v : List RecIndex) : State := { s with queues := s.queues.set i v }

def setDrops (s : State) (i : Client) (v : DropCounts) : State := { s with drops := s.drops.set i v }

def setPresentation (s : State) (i : Client) (v : Presentation) : State := { s with presentation := s.presentation.set i v }

def setContexts (s : State) (i : Client) (v : ClientContexts) : State := { s with contexts := s.contexts.set i v }

def setProfile (s : State) (i : ProfileNo) (v : Profile) : State := { s with profiles := s.profiles.set i v }

def setClientLines (s : State) (i : Client) (v : ClientLines) : State := { s with clientLines := s.clientLines.set i v }

def setBoard (s : State) (v : BoardLines) : State := { s with board := v }

def setHealth (s : State) (i : Client) (v : ClientHealth) : State := { s with health := s.health.set i v }

def setPosts (s : State) (i : Client) (v : ClientPosts) : State := { s with posts := s.posts.set i v }

def setSup (s : State) (v : Supervisor) : State := { s with sup := v }

def setLink (s : State) (i : Client) (v : Link) : State := { s with links := s.links.set i v }

def setPending (s : State) (v : List Instr) : State := { s with pending := v }

/-! ## Reads -/

abbrev line (s : State) (i : LineNo) : Line := s.lines.get i

abbrev slot (s : State) (i : RecIndex) : PoolSlot := s.pool.get i

abbrev queue (s : State) (i : Client) : List RecIndex := s.queues.get i

abbrev dropsOf (s : State) (i : Client) : DropCounts := s.drops.get i

abbrev presentationOf (s : State) (i : Client) : Presentation := s.presentation.get i

abbrev contextsOf (s : State) (i : Client) : ClientContexts := s.contexts.get i

abbrev clientLinesOf (s : State) (i : Client) : ClientLines := s.clientLines.get i

abbrev healthOf (s : State) (i : Client) : ClientHealth := s.health.get i

abbrev postsOf (s : State) (i : Client) : ClientPosts := s.posts.get i

abbrev link (s : State) (i : Client) : Link := s.links.get i

/-- The time base counter's value now (R4). -/
abbrev now (s : State) : Micros := s.time.counter

abbrev mode (s : State) : HubMode := s.sup.mode

/-- The record at a pool index, or none when it is FREE (R53). -/
abbrev record (s : State) (i : RecIndex) : Option Record := (s.slot i).held

/-- The handle of the record at a pool index (R54). -/
def handleAt (s : State) (i : RecIndex) : Handle := ⟨i, (s.slot i).gen⟩

/-- Replace the record at an index; its generation stays. -/
def setRecord (s : State) (i : RecIndex) (r : Option Record) : State := s.setSlot i ⟨(s.slot i).gen, r⟩

def attached (s : State) (c : Client) : Bool := (s.healthOf c).health.attached

end State

/-! ## Lists of the numbered things, in ascending order -/

def clients : List Client := [0, 1, 2, 3]

def slotNos : List SlotNo := [0, 1, 2, 3]

def lineNos : List LineNo := List.finRange 24

def recIndexes : List RecIndex := List.finRange 128

/-! ## Keys -/

/-- The field line whose events have this source, if it is a line's (R2). -/
def lineOfSource (src : BitVec 6) : Option LineNo := if h : src.toNat < 24 then some ⟨src.toNat, h⟩ else none

/-- A hub notice, or a record made from one: class 15 is kept for them (R3). -/
def Key.isNotice (k : Key) : Bool := k.cls = 15

/-- A post's record: source 37 to 40 (R2). -/
def Key.isPost (k : Key) : Bool := 37 ≤ k.source.toNat && k.source.toNat ≤ 40

/-- A signal record: source 41 (R2). -/
def Key.isSignal (k : Key) : Bool := k.source = 41

/-- The client that sent the post of a post's key: source less 37 (R2). -/
def Key.postSender (k : Key) : Client := Fin.ofNat 4 (k.source.toNat - 37)

/-- The slot of a post's key: its code (R2). -/
def Key.postSlot (k : Key) : SlotNo := Fin.ofNat 4 k.code.toNat

/-- The group of eight a line belongs to (00_scope, Field lines). -/
def lineGroup (l : LineNo) : LineGroup := ⟨l.val / 8, by omega⟩

/-- The place of a context's timer among the eight: its source less 28 (R2). -/
def timerNo (c : Client) (k : ContextName) : Fin 8 :=
  match k with
  | .operate => ⟨2 * c.val, by omega⟩
  | .service => ⟨2 * c.val + 1, by omega⟩

/-! ## The pool and the queues (R56, R57, R59) -/

/-- The number of FREE records. -/
def freeCount (s : State) : Nat := s.pool.data.countP fun p => p.held.isNone

def ownedBy (c : Client) (p : PoolSlot) : Bool := p.held.any fun r => r.owner = c

/-- The number of a client's records that are not FREE. -/
def heldCount (s : State) (c : Client) : Nat := s.pool.data.countP (ownedBy c)

/-- The number of a client's QUEUED records: the length of its queue (R57). -/
def queuedCount (s : State) (c : Client) : Nat := (s.queue c).length

/-- Some record that is not FREE meets `p`. -/
def holdsRecord (s : State) (p : Record → Bool) : Bool := s.pool.data.any fun x => x.held.any p

/-- The index of client c's record in state `st`, the lowest one. -/
def recordIn (s : State) (c : Client) (st : RecState) : Option RecIndex :=
  recIndexes.find? fun i => (s.record i).any fun r => r.owner = c && r.state = st

/-- Client c's PRESENTED record. -/
def presentedOf (s : State) (c : Client) : Option RecIndex := recordIn s c .presented

/-- Client c's SUSPENDED record. -/
def suspendedOf (s : State) (c : Client) : Option RecIndex := recordIn s c .suspended

/-- The record a handle names for client c in state `st` (R85): index and generation both equal. -/
def namedRecord (s : State) (c : Client) (st : RecState) (h : Handle) : Option Record :=
  if (s.slot h.index).gen = h.gen then (s.record h.index).filter fun r => r.owner = c && r.state = st else none

/-- The place behind the last record that meets `geq`, counted from the front; 0 when none does (R57). -/
def placeBehind (geq : RecIndex → Bool) : List RecIndex → Nat
  | [] => 0
  | i :: rest => if rest.any geq then placeBehind geq rest + 1 else if geq i then 1 else 0

def insertAt (k : Nat) (i : RecIndex) (q : List RecIndex) : List RecIndex := q.take k ++ i :: q.drop k

/-- The record at `i` has a priority equal to or higher than `p`. -/
def atLeast (s : State) (p : Priority) (i : RecIndex) : Bool := (s.record i).any fun r => p ≤ r.priority

/-- A record of priority `p` enters client c's queue behind the last record of equal or higher priority (R57). -/
def enqueue (s : State) (c : Client) (p : Priority) (i : RecIndex) : State :=
  s.setQueue c (insertAt (placeBehind (atLeast s p) (s.queue c)) i (s.queue c))

/-- A record enters client c's queue at the front (R58). -/
def enqueueFront (s : State) (c : Client) (i : RecIndex) : State := s.setQueue c (i :: s.queue c)

/-- A record leaves client c's queue; the others keep their order. -/
def dequeue (s : State) (c : Client) (i : RecIndex) : State := s.setQueue c ((s.queue c).filter (· ≠ i))

/-- The record at `i` moves forward to the place of its new priority `p`, or stays (R59). -/
def moveUp (s : State) (c : Client) (p : Priority) (i : RecIndex) : State :=
  let others := (s.queue c).filter (· ≠ i)
  s.setQueue c (insertAt (min ((s.queue c).idxOf i) (placeBehind (atLeast s p) others)) i others)

/-- The QUEUED EACH record of this key in client c's queue other than `skip` (R62, R70). -/
def sameKeyQueued (s : State) (c : Client) (k : Key) (skip : Option RecIndex) : Option RecIndex :=
  (s.queue c).find? fun i =>
    some i ≠ skip && (s.record i).any fun r => r.state = .queued && r.mode = .each && r.key = k

/-- Client c may take a record from the free records (R61). -/
def mayTake (s : State) (c : Client) : Bool :=
  1 ≤ freeCount s &&
    (heldCount s c < Config.reserve ||
      ((clients.filter (· ≠ c)).map fun d => Config.reserve - heldCount s d).sum + 1 ≤ freeCount s)

end Sys2Proof.Machine
end

