-- ==== Sys2Proof/Machine/Intake.lean ====
section
/-! DEFINITION. Offers to the intake queue (R6, R7, R8, R12), and the counting of lost notices and of drops. -/

namespace Sys2Proof.Machine

/-- All 16 places of the intake queue are taken (R6). -/
def intakeFull (s : State) : Bool := Config.intakePlaces ≤ s.intake.length

/-- A descriptor joins the tail of the intake queue (R6). -/
def placeEvent (s : State) (d : Descriptor) : State := s.setIntake (s.intake ++ [d])

/-- A notice is lost and counted (R12, R13). -/
def loseNotice (s : State) : State := s.setLostNotices (up16 s.lostNotices)

/-- The key of a hub notice (R11). -/
def noticeKey (t : NoticeType) (detail : Nat) : Key := ⟨36, 15, BitVec.ofNat 12 (256 * t.code + detail)⟩

/-- A hub notice is offered: it joins the tail, or is lost when the queue is full (R12). -/
def offerNotice (t : NoticeType) (detail : Nat) (s : State) : State :=
  if intakeFull s then loseNotice s else placeEvent s ⟨noticeKey t detail, s.now⟩

/-- The detail of a notice about a client: 16 * client + value (R11). -/
def clientDetail (c : Client) (v : Nat) : Nat := 16 * c.val + v

/-- The key of a context timer's event (R2). -/
def timerKey (c : Client) (k : ContextName) : Key := ⟨BitVec.ofNat 6 (28 + (timerNo c k).val), 14, 0⟩

/-- A context timer that has run out offers its event; with the queue full it gets a waiting expiry, or the expiry is merged
into the one it has (R8, R100). -/
def offerTimerEvent (c : Client) (k : ContextName) (s : State) : State :=
  if intakeFull s then
    match s.waiting.get (timerNo c k) with
    | some _ => s
    | none => s.setWaiting (timerNo c k) (some ⟨timerKey c k, s.now⟩)
  else placeEvent s ⟨timerKey c k, s.now⟩

/-- One drop is counted against client c, with its DROP notice, or a lost notice when the class is 15 (R67, R13). -/
def dropFor (c : Client) (k : Key) (s : State) : State :=
  let s := s.setDrops c ⟨up16 (s.dropsOf c).total, up8 (s.dropsOf c).sinceReady⟩
  if k.isNotice then loseNotice s else offerNotice .drop c.val s

/-- The POOL_LOW test made at an allocation (R14). -/
def poolLowTest (s : State) : State :=
  if s.sup.poolLowArmed ∧ freeCount s ≤ Config.poolLowAt then
    offerNotice .poolLow (freeCount s) (s.setSup { s.sup with poolLowArmed := false })
  else s

/-- The POOL_LOW test made at a free (R14). -/
def poolRearmTest (s : State) : State :=
  if s.sup.poolLowArmed = false ∧ Config.poolRearmAt ≤ freeCount s then s.setSup { s.sup with poolLowArmed := true } else s

end Sys2Proof.Machine
end

