-- ==== Sys2Proof/WellFormed.lean ====
section
/-! DEFINITION. Which commands a client can send. Every operand in a `Fin` or `BitVec` type is in range by its type; what is
left to check is a request frame sent whole: its LEN (R159), and for the three rows of the FORCE kind its operation byte. -/

namespace Sys2Proof

/-- A frame carries at most 48 payload bytes (R159). -/
def Arrival.wellFormed : Arrival → Bool
  | .sent _ payload => payload.length ≤ Config.maxPayload
  | .waiting => true

/-- The operation byte of a FORCE request names operation `op`, or no operation at all (R130; log entry 7). -/
def forceNames (op : Byte) (payload : List Byte) : Bool :=
  match payload with
  | [] => true
  | b :: _ => b = op || 2 < b.toNat

/-- A FORCE request sent whole is of the row that names it. -/
def Arrival.forceWellFormed (op : Byte) : Arrival → Bool
  | .sent tag payload => (Arrival.sent tag payload).wellFormed && forceNames op payload
  | .waiting => true

def Instr.wellFormed : Instr → Bool
  | .powerOn _ _ => true
  | .resetInputAsserted _ => true
  | .millisecondTick => true
  | .rawLevelChange _ _ => true
  | .debounceExpiry _ => true
  | .repeatTimerExpiry _ => true
  | .contextTimerExpiry _ _ => true
  | .routeTake => true
  | .holdOffExpiry _ => true
  | .deadlineExpiry _ => true
  | .delayExpiry _ => true
  | .clientResetPulseExpiry _ => true
  | .boardResetPulseExpiry => true
  | .boardResetOutputExpiry => true
  | .spacingTimerExpiry _ => true
  | .receivedByte _ _ => true
  | .gapTimeout _ => true
  | .transmissionEnd _ => true
  | .ready _ a => a.wellFormed
  | .ack _ a => a.wellFormed
  | .exchange _ a => a.wellFormed
  | .contextSet _ a => a.wellFormed
  | .timerSet _ a => a.wellFormed
  | .raise _ a => a.wellFormed
  | .post _ a => a.wellFormed
  | .withdraw _ a => a.wellFormed
  | .signal _ a => a.wellFormed
  | .heartbeat _ a => a.wellFormed
  | .rejoin _ a => a.wellFormed
  | .query _ a => a.wellFormed
  | .routeWrite _ a => a.wellFormed
  | .bankSet _ a => a.wellFormed
  | .lineSet _ a => a.wellFormed
  | .profileSet _ a => a.wellFormed
  | .clientSet _ a => a.wellFormed
  | .routeRead _ a => a.wellFormed
  | .lineRead _ a => a.wellFormed
  | .profileRead _ a => a.wellFormed
  | .clientRead _ a => a.wellFormed
  | .forceAttach _ a => a.forceWellFormed 0
  | .forceDetach _ a => a.forceWellFormed 1
  | .forceReset _ a => a.forceWellFormed 2
  | .freeze _ a => a.wellFormed
  | .sleep _ a => a.wellFormed
  | .wake _ a => a.wellFormed
  | .resetHub _ a => a.wellFormed
  | .noteSet _ a => a.wellFormed
  | .status _ a => a.wellFormed
  | .resetInputRelease => true

end Sys2Proof
end

