-- ==== Sys2Proof/Machine/Operands.lean ====
section
/-! DEFINITION. The operands of requests: fields of more than one byte (most significant byte first, R159), the fields each
request's payload must hold, and the byte layouts of replies and frames. A parser answers none where its rule says BAD_FIELD
on the payload alone; what depends on the hub's state is checked by the request's own rule. -/

namespace Sys2Proof.Machine

/-! ## Bytes -/

def byte (n : Nat) : Byte := BitVec.ofNat 8 n

def be16 (n : Nat) : List Byte := [byte (n / 256), byte n]

def be24 (n : Nat) : List Byte := [byte (n / 65536), byte (n / 256), byte n]

def be32 (n : Nat) : List Byte := [byte (n / 16777216), byte (n / 65536), byte (n / 256), byte n]

def num16 (a b : Byte) : Nat := a.toNat * 256 + b.toNat

def num24 (a b c : Byte) : Nat := (a.toNat * 256 + b.toNat) * 256 + c.toNat

def num32 (a b c d : Byte) : Nat := ((a.toNat * 256 + b.toNat) * 256 + c.toNat) * 256 + d.toNat

def bit (b : Bool) : Byte := if b then 1 else 0

/-- A field of values 0 to n - 1 read from a byte. -/
def below (n : Nat) (b : Byte) : Option (Fin n) := if h : b.toNat < n then some ⟨b.toNat, h⟩ else none

/-- A field no 0, yes 1. -/
def flagField (b : Byte) : Option Bool := if b = 0 then some false else if b = 1 then some true else none

/-- A code of 0 to 4095 in two bytes. -/
def codeField (a b : Byte) : Option (BitVec 12) :=
  if num16 a b < 4096 then some (BitVec.ofNat 12 (num16 a b)) else none

/-- A handle, or index 255 and generation 255 for none (R163). -/
def handleBytes : Option Handle → List Byte
  | some h => [byte h.index.val, h.gen]
  | none => [255, 255]

/-! ## Request payloads -/

def contextField (b : Byte) : Option ContextName :=
  if b = 0 then some .operate else if b = 1 then some .service else none

/-- A request without fields. -/
def parseEmpty : List Byte → Option Unit
  | [] => some ()
  | _ => none

/-- A request of one field of one byte below `n`. -/
def parseIndex (n : Nat) : List Byte → Option (Fin n)
  | [b] => below n b
  | _ => none

/-- ACK (R84). -/
def parseAck : List Byte → Option (Handle × Disposition)
  | [i, g, d] => do
    let i ← below 128 i
    let d ← flagField d
    return (⟨i, g⟩, if d then .decline else .done)
  | _ => none

/-- EXCHANGE (R102). -/
def parseExchange : List Byte → Option ContextName
  | [b] => contextField b
  | _ => none

/-- CONTEXT_SET (R99). -/
def parseContextSet : List Byte → Option (ContextName × FlagSet × Priority)
  | [k, hi, lo, t] => do
    let k ← contextField k
    let t ← below 8 t
    return (k, BitVec.ofNat 16 (num16 hi lo), t)
  | _ => none

/-- What TIMER_SET sets (R101). -/
structure TimerSetting where
  mode : TimerMode
  time : Nat
  reload : Nat
  deriving DecidableEq, Repr

/-- The table of R101: the time and reload must agree with the mode. -/
def timerSetting (mode : Byte) (time reload : Nat) : Option TimerSetting :=
  if mode = 0 then (if time = 0 ∧ reload = 0 then some ⟨.off, 0, 0⟩ else none)
  else if mode = 1 then (if 0 < time ∧ reload = 0 then some ⟨.once, time, 0⟩ else none)
  else if mode = 2 then (if 0 < time ∧ 0 < reload then some ⟨.periodic, time, reload⟩ else none)
  else none

/-- TIMER_SET (R101). -/
def parseTimerSet : List Byte → Option (ContextName × TimerSetting)
  | [k, m, t2, t1, t0, r2, r1, r0] => do
    let k ← contextField k
    let t ← timerSetting m (num24 t2 t1 t0) (num24 r2 r1 r0)
    return (k, t)
  | _ => none

/-- RAISE (R15). -/
def parseRaise : List Byte → Option (BitVec 4 × BitVec 12)
  | [c, hi, lo] => do
    let c ← below 12 c
    let code ← codeField hi lo
    return (BitVec.ofNat 4 c.val, code)
  | _ => none

/-- What POST carries (R147). -/
structure PostFields where
  target : Client
  priority : Priority
  urgent : Bool
  payload : List Byte
  deriving DecidableEq, Repr

/-- POST from `sender` (R147): 1 to 32 payload bytes, and not to the sender itself. -/
def parsePost (sender : Client) : List Byte → Option PostFields
  | t :: p :: u :: b :: rest => do
    let t ← below 4 t
    let p ← below 8 p
    let u ← flagField u
    if t = sender ∨ 31 < rest.length then none else return ⟨t, p, u, b :: rest⟩
  | _ => none

/-- What SIGNAL carries (R154). -/
structure SignalFields where
  target : Client
  priority : Priority
  urgent : Bool
  flags : FlagSet
  deriving DecidableEq, Repr

/-- SIGNAL from `sender` (R154): a set of flags that is not empty, and not to the sender itself. -/
def parseSignal (sender : Client) : List Byte → Option SignalFields
  | [t, p, u, hi, lo] => do
    let t ← below 4 t
    let p ← below 8 p
    let u ← flagField u
    if t = sender ∨ num16 hi lo = 0 then none else return ⟨t, p, u, BitVec.ofNat 16 (num16 hi lo)⟩
  | _ => none

/-- A fallback: a client, or 255 for none (R172). -/
def fallbackField (b : Byte) : Option (Option Client) := if b = 255 then some none else (below 4 b).map some

/-- ROUTE_WRITE (R51, R172). -/
def parseRouteWrite : List Byte → Option (EntryNo × RouteEntry)
  | [e, en, ms, cs, mc, cc, md1, md0, cd1, cd0, tg, mo, pr, ur, fb, pf] => do
    let e ← below 48 e
    let en ← flagField en
    let ms ← below 64 ms
    let cs ← below 64 cs
    let mc ← below 16 mc
    let cc ← below 16 cc
    let md ← codeField md1 md0
    let cd ← codeField cd1 cd0
    let tg ← below 16 tg
    let mo ← flagField mo
    let pr ← below 8 pr
    let ur ← flagField ur
    let fb ← fallbackField fb
    let pf ← below 4 pf
    if en ∧ tg.val = 0 then none
    else return (e, {
      enabled := en
      matchSource := BitVec.ofNat 6 ms.val
      careSource := BitVec.ofNat 6 cs.val
      matchClass := BitVec.ofNat 4 mc.val
      careClass := BitVec.ofNat 4 cc.val
      matchCode := md
      careCode := cd
      targets := BitVec.ofNat 4 tg.val
      mode := if mo then .first else .each
      priority := pr
      urgent := ur
      fallback := fb
      profile := pf })
  | _ => none

/-- BANK_SET (R38). -/
def parseBankSet : List Byte → Option (BankNo × BankState)
  | [b, st] => do
    let b ← below 6 b
    let st ← flagField st
    return (b, if st then .opened else .closed)
  | _ => none

/-- What LINE_SET carries (R28). -/
structure LineSetFields where
  line : LineNo
  config : LineConfig
  clearGroup : Bool
  deriving DecidableEq, Repr

def lineModeField (b : Byte) : Option LineMode :=
  if b = 0 then some .disabled else if b = 1 then some .edge else if b = 2 then some .level
  else if b = 3 then some .groupEdge else none

/-- LINE_SET (R28): a repeat interval of 0 and a class above 11 are refused. -/
def parseLineSet : List Byte → Option LineSetFields
  | [l, m, p, d, r, c, hi, lo, g] => do
    let l ← below 24 l
    let m ← lineModeField m
    let p ← flagField p
    let c ← below 12 c
    let code ← codeField hi lo
    let g ← flagField g
    if r = 0 then none
    else return ⟨l, ⟨m, if p then .activeHigh else .activeLow, d.toNat, r.toNat, BitVec.ofNat 4 c.val, code⟩, g⟩
  | _ => none

def actionField (b : Byte) : Option Action :=
  if b = 0 then some .noteOnly else if b = 1 then some .attention else if b = 2 then some .clientReset
  else if b = 3 then some .attentionThenReset else if b = 4 then some .boardReset else none

/-- PROFILE_SET (R118). -/
def parseProfileSet : List Byte → Option (ProfileNo × Profile)
  | [p, hi, lo, a, d] => do
    let p ← below 4 p
    let a ← actionField a
    let d ← below 8 d
    return (p, ⟨num16 hi lo, a, d⟩)
  | _ => none

/-- What CLIENT_SET carries (R167). -/
structure ClientSetFields where
  client : Client
  privileges : PrivilegeSet
  holdOffTime : Nat
  pulseWidth : Nat
  postProfile : ProfileNo
  signalProfile : ProfileNo
  deriving DecidableEq, Repr

/-- The privilege byte (R167): one flag each, from the least significant position CONFIGURE, CONTROL, POST, RAISE. -/
def privilegeField (b : Byte) : Option PrivilegeSet :=
  if b.toNat < 16 then some ⟨b.getLsbD 0, b.getLsbD 1, b.getLsbD 2, b.getLsbD 3⟩ else none

def PrivilegeSet.all (p : PrivilegeSet) : Bool := p.configure && p.control && p.post && p.raise

/-- CLIENT_SET (R167); `supsel` is the supervising client, whose privilege byte must name all four. -/
def parseClientSet (supsel : Client) : List Byte → Option ClientSetFields
  | [c, pv, hi, lo, w, pp, sp] => do
    let c ← below 4 c
    let pv ← privilegeField pv
    let pp ← below 4 pp
    let sp ← below 4 sp
    if (c = supsel ∧ pv.all = false) ∨ 1000 < num16 hi lo ∨ w = 0 then none
    else return ⟨c, pv, num16 hi lo, w.toNat, pp, sp⟩
  | _ => none

/-- NOTE_SET (R179). -/
def parseNoteSet : List Byte → Option (BitVec 32)
  | [a, b, c, d] => some (BitVec.ofNat 32 (num32 a b c d))
  | _ => none

/-- FORCE with operation ATTACH (R144). -/
def parseForceAttach : List Byte → Option Client
  | [op, c] => if op = 0 then below 4 c else none
  | _ => none

/-- FORCE with operation DETACH (R144): not the supervising client. -/
def parseForceDetach (supsel : Client) : List Byte → Option Client
  | [op, c] => if op = 1 then (below 4 c).filter (· ≠ supsel) else none
  | _ => none

/-- FORCE with operation RESET (R130): not the requester itself. -/
def parseForceReset (requester : Client) : List Byte → Option Client
  | [op, c] => if op = 2 then (below 4 c).filter (· ≠ requester) else none
  | _ => none

/-! ## Layouts of frames the hub sends -/

/-- The ROUTE_WRITE layout (R172), also the entry of a ROUTE_READ reply (R52). -/
def entryBytes (e : EntryNo) (r : RouteEntry) : List Byte :=
  [byte e.val, bit r.enabled, byte r.matchSource.toNat, byte r.careSource.toNat, byte r.matchClass.toNat,
   byte r.careClass.toNat] ++ be16 r.matchCode.toNat ++ be16 r.careCode.toNat ++
  [byte r.targets.toNat, byte r.mode.code, byte r.priority.val, bit r.urgent,
   match r.fallback with
   | some f => byte f.val
   | none => 255,
   byte r.profile.val]

/-- The DELIVER payload (R172). -/
def deliverPayload (d : DeliverFields) : List Byte :=
  [byte d.handle.index.val, d.handle.gen, byte d.key.source.toNat, byte d.key.cls.toNat] ++ be16 d.key.code.toNat ++
  [byte (d.priority.val + if d.urgent then 128 else 0), byte d.count,
   byte ((if d.interrupted then 1 else 0) + if d.resumed then 2 else 0)] ++ be32 d.created.toNat ++
  [byte d.hit.code, byte d.body.length] ++ d.body

/-- The payload of a SLOTS frame (R170). -/
def slotsPayload (t : Table 4 SlotsEntry) : List Byte :=
  t.data.flatMap fun e => [byte e.outcome.code, byte e.number]

def HubFrame.payload : HubFrame → List Byte
  | .deliver d => deliverPayload d
  | .recall h => handleBytes (some h)
  | .context k cause h => [byte (contextCode k), byte cause.code] ++ handleBytes h
  | .slots t => slotsPayload t

/-- A frame from SYNC to CHECK (R159, R172). -/
def frameBytes (kind tag : Byte) (payload : List Byte) : List Byte :=
  let body := byte payload.length :: kind :: tag :: payload
  (0xD4#8 :: body) ++ be16 (crc16 body).toNat

/-- The bytes of a frame in transmission: a REPLY has its request's tag, every other frame tag 0 (R159, R163). -/
def TxFrame.bytes : TxFrame → List Byte
  | .reply r => frameBytes replyKindByte r.tag (r.kind :: byte r.status.code :: r.result)
  | .hub f => frameBytes f.kindByte 0 f.payload

end Sys2Proof.Machine
end

