-- ==== Sys2Proof/Machine/Outbound.lean ====
section
/-! DEFINITION. The hub frames of a link's outbound queue: placed, updated in place, removed (R80, R92, R107, R150, R164). -/

namespace Sys2Proof.Machine

def HubFrame.isDeliver : HubFrame → Bool
  | .deliver _ => true
  | .recall _ => false
  | .context _ _ _ => false
  | .slots _ => false

def TxFrame.isDeliver : TxFrame → Bool
  | .reply _ => false
  | .hub f => f.isDeliver

/-- The DELIVER frame of this handle. -/
def HubFrame.delivers (h : Handle) : HubFrame → Bool
  | .deliver d => d.handle = h
  | .recall _ => false
  | .context _ _ _ => false
  | .slots _ => false

/-- A frame of the same kind waits: `f` takes its place and its age; otherwise `f` is placed as the youngest (R164). -/
def placeOrUpdate (f : HubFrame) (q : List HubFrame) : List HubFrame :=
  if q.any fun g => g.kindByte = f.kindByte then q.map fun g => if g.kindByte = f.kindByte then f else g else q ++ [f]

/-- A hub frame is placed in link c's outbound queue, or updated in place. -/
def placeHubFrame (c : Client) (f : HubFrame) (s : State) : State :=
  s.setLink c { s.link c with hub := placeOrUpdate f (s.link c).hub }

/-- A DELIVER frame is held in link c's outbound queue or is in transmission on link c (R75). -/
def deliverBusy (s : State) (c : Client) : Bool :=
  (s.link c).hub.any HubFrame.isDeliver || (s.link c).tx.any TxFrame.isDeliver

/-- Link c's outbound queue holds the unsent DELIVER frame of this handle. -/
def deliverUnsent (s : State) (c : Client) (h : Handle) : Bool := (s.link c).hub.any (HubFrame.delivers h)

/-- The unsent DELIVER frame of this handle is removed from link c's outbound queue (R80). -/
def removeDeliver (c : Client) (h : Handle) (s : State) : State :=
  s.setLink c { s.link c with hub := (s.link c).hub.filter fun f => !f.delivers h }

/-- The unsent SLOTS frame of a link, if it holds one. -/
def unsentSlots (q : List HubFrame) : Option (Table 4 SlotsEntry) :=
  q.findSome? fun f =>
    match f with
    | .slots t => some t
    | .deliver _ => none
    | .recall _ => none
    | .context _ _ _ => none

/-- A post outcome for slot `n` of sender `p` is entered into the unsent SLOTS frame, or into a new one (R150). -/
def reportOutcome (p : Client) (n : SlotNo) (o : PostOutcome) (s : State) : State :=
  match unsentSlots (s.link p).hub with
  | some t => placeHubFrame p (.slots (t.set n ⟨o, up8 (t.get n).number⟩)) s
  | none => placeHubFrame p (.slots ((Table.const ⟨.none, 0⟩).set n ⟨o, 1⟩)) s

end Sys2Proof.Machine
end

