-- ==== Sys2Proof/Machine/Presentation.lean ====
section
/-! DEFINITION. PRS: which record is presented, and presenting it (R75 to R78); the gate (R81); waking the hub (R95, R181). -/

namespace Sys2Proof.Machine

/-- The settings of one of a client's contexts. -/
def ClientContexts.get (x : ClientContexts) : ContextName → ContextState
  | .operate => x.operate
  | .service => x.service

def ClientContexts.set (x : ClientContexts) (k : ContextName) (v : ContextState) : ClientContexts :=
  match k with
  | .operate => { x with operate := v }
  | .service => { x with service := v }

/-- A context accepts a record (R97). -/
def ContextState.accepts (x : ContextState) (r : Record) : Bool :=
  x.classes.getLsbD r.key.cls.toNat && x.threshold ≤ r.priority

/-- The active context of a client (R97). -/
def activeContext (s : State) (c : Client) : ContextState := (s.contextsOf c).get (s.contextsOf c).active

/-- A record qualifies for presentation to client c (R76). -/
def qualifies (s : State) (c : Client) (r : Record) : Bool :=
  (activeContext s c).accepts r && ((s.healthOf c).health ≠ .restricted || r.urgent || 4 ≤ r.priority)

/-- The first record of client c's queue that qualifies. -/
def firstQualifying (s : State) (c : Client) : Option RecIndex :=
  (s.queue c).find? fun i => (s.record i).any (qualifies s c)

/-- The conditions of R75 other than a qualifying record. -/
def mayPresent (s : State) (c : Client) : Bool :=
  (s.presentationOf c).ready && s.attached c && (s.presentationOf c).gateOpen && s.mode = .run && !deliverBusy s c

/-- A record's escalation state as a presentation begins (R78, R121). -/
def escAtPresentation (r : Record) : Escalation :=
  if r.resumed then r.esc.getD ⟨.waiting, 0, false, false⟩ else ⟨.waiting, 0, false, false⟩

/-- The record as it is presented: a signal record takes its owner's pending flags as its snapshot (R78, R155). -/
def asPresented (s : State) (c : Client) (r : Record) : Record :=
  { r with
    state := .presented
    esc := some (escAtPresentation r)
    flags := if r.key.isSignal then (s.postsOf c).pendingFlags else r.flags }

/-- What the DELIVER frame of a record carries (R78). -/
def deliverFields (h : Handle) (r : Record) : DeliverFields where
  handle := h
  key := r.key
  priority := r.priority
  urgent := r.urgent
  count := r.count
  interrupted := r.interrupted
  resumed := r.resumed
  created := r.created
  hit := r.hit
  body := if r.key.isSignal then be16 r.flags.toNat else r.payload

def setGate (c : Client) (isOpen : Bool) (s : State) : State :=
  s.setPresentation c { s.presentationOf c with gateOpen := isOpen }

def setPendingFlags (c : Client) (f : FlagSet) (s : State) : State :=
  s.setPosts c { s.postsOf c with pendingFlags := f }

/-- The record `r` at index `i` is presented to client c (R78). -/
def present (c : Client) (i : RecIndex) (r : Record) (s : State) : State :=
  let r' := asPresented s c r
  let s := dequeue (s.setRecord i (some r')) c i
  let s := if r.key.isSignal then setPendingFlags c 0 s else s
  placeHubFrame c (.deliver (deliverFields (s.handleAt i) r')) (setGate c false s)

/-- PRS examines client c (R75). -/
def examine (c : Client) (s : State) : State :=
  if mayPresent s c then
    match firstQualifying s c with
    | some i =>
      match s.record i with
      | some r => present c i r s
      | none => s
    | none => s
  else s

/-- Client c's gate opens, and PRS examines c at once (R81). -/
def openGate (c : Client) (s : State) : State := examine c (setGate c true s)

/-- PRS examines every client, in ascending order (R95). -/
def examineAll (s : State) : State := clients.foldl (fun s c => examine c s) s

def setMode (m : HubMode) (s : State) : State := s.setSup { s.sup with mode := m }

/-- A wake cause sets a hub in SLEEP to RUN (R181). -/
def rouse (s : State) : State := if s.mode = .sleep then setMode .run s else s

/-- An operation that began in the mode `before` is complete: if a wake cause came within it, PRS now examines every client (R95, R181;
log entry 39). -/
def completeWake (before : HubMode) (s : State) : State := if before = .sleep ∧ s.mode = .run then examineAll s else s

/-- A wake cause that is no part of a larger operation: a hub in SLEEP returns to RUN and PRS examines every client (R181). -/
def wakeHub (s : State) : State := completeWake s.mode (rouse s)

end Sys2Proof.Machine
end

