-- ==== Sys2Proof/Machine/Contexts.lean ====
section
/-! DEFINITION. CTX: suspension (R104), the exchange to SERVICE (R103), the forced-exchange condition and its examination
(R108 to R110), and what follows when a record enters a queue (R59, R109). -/

namespace Sys2Proof.Machine

def setAttention (c : Client) (on : Bool) (s : State) : State :=
  s.setClientLines c { s.clientLinesOf c with attention := on }

/-- The record of client c in state `st`, with its index. -/
def heldIn (s : State) (c : Client) (st : RecState) : Option (RecIndex × Record) :=
  (recordIn s c st).bind fun i => (s.record i).map fun r => (i, r)

/-- Client c's PRESENTED record `r` is suspended: its stage stays frozen in it, the attention line is released, and an unsent
DELIVER frame is removed (R104, R80). -/
def suspend (c : Client) (i : RecIndex) (r : Record) (s : State) : State :=
  removeDeliver c (s.handleAt i) ((setAttention c false s).setRecord i (some { r with state := .suspended }))

/-- The active context becomes SERVICE with this suspended handle, and hold-off is cleared (R103 steps 1 and 2). -/
def enterService (c : Client) (h : Option Handle) (s : State) : State :=
  s.setContexts c { s.contextsOf c with suspended := h, active := .service, holdOff := false, holdOffLeft := 0 }

/-- The exchange from OPERATE to SERVICE, its reply left out (R103). -/
def exchangeToService (c : Client) (cause : ContextCause) (s : State) : State :=
  match heldIn s c .presented with
  | some (i, r) =>
    let h := some (s.handleAt i)
    openGate c (placeHubFrame c (.context .service cause h) (enterService c h (suspend c i r s)))
  | none => examine c (placeHubFrame c (.context .service cause none) (enterService c none s))

/-- Client c's queue holds an urgent record that SERVICE accepts (R108). -/
def urgentForService (s : State) (c : Client) : Bool :=
  (s.queue c).any fun i => (s.record i).any fun r => r.urgent && (s.contextsOf c).service.accepts r

/-- The forced-exchange condition (R108). -/
def forcedCondition (s : State) (c : Client) : Bool :=
  (s.presentationOf c).ready && s.attached c && (s.contextsOf c).active = .operate && !(s.contextsOf c).holdOff &&
    urgentForService s c

/-- CTX examines the forced-exchange condition of client c (R109, R110), in SLEEP as in every other mode (the model's choice where a gap
failure leads to a record's entry in SLEEP, log entry 42). -/
def ctxExamine (c : Client) (s : State) : State := if forcedCondition s c then exchangeToService c .forced s else s

/-- What DST's report of an entry into client c's queue, or of a rise in it, leads to: CTX first, then PRS (R59, R109). -/
def entered (c : Client) (s : State) : State := examine c (ctxExamine c s)

end Sys2Proof.Machine
end

