-- ==== Sys2Proof/Machine/Lines.lean ====
section
/-! DEFINITION. LIN: levels and debounce (R18, R19), the latch and its reports (R20 to R22), the line modes (R23 to R27), and
what an accepted LINE_SET does (R29). -/

namespace Sys2Proof.Machine

/-- R19. -/
def Line.active (x : Line) : Bool :=
  match x.config.polarity with
  | .activeLow => !x.accepted
  | .activeHigh => x.accepted

/-- A line's descriptor joins the intake queue, or waits in the line's latch (R20, R7). -/
def placeLineEvent (l : LineNo) (d : Descriptor) (s : State) : State :=
  if intakeFull s then s.setLine l { s.line l with latch := .pending d }
  else (placeEvent s d).setLine l { s.line l with latch := .outstanding, queued := (s.line l).queued + 1 }

/-- A line offers a descriptor; in SLEEP the offer wakes the hub (R31). -/
def offerLineEvent (l : LineNo) (d : Descriptor) (s : State) : State := wakeHub (placeLineEvent l d s)

/-- The descriptor a line forms now (R20). -/
def lineEvent (l : LineNo) (s : State) : Descriptor :=
  ⟨⟨BitVec.ofNat 6 l.val, (s.line l).config.cls, (s.line l).config.code⟩, s.now⟩

/-- As a line raises an event its disposed mark is cleared (R22) and, for a LEVEL line, the repeat timer is started (R24, R26). -/
def startRaise (l : LineNo) (s : State) : State :=
  let x := s.line l
  s.setLine l { x with disposed := false, repeatLeft := if x.config.mode = .level then x.config.interval else x.repeatLeft }

/-- A line raises an event (R20). -/
def raiseLine (l : LineNo) (s : State) : State := offerLineEvent l (lineEvent l s) (startRaise l s)

/-- A line raises an event within an operation that frees records: a hub in SLEEP is set to RUN, and PRS's examination of every client
is left to the end of that operation (R60, R137, R181; log entry 39). -/
def raiseWithin (l : LineNo) (s : State) : State := rouse (placeLineEvent l (lineEvent l s) (startRaise l s))

/-- An ARMED line raises; otherwise the activation is merged into the current event (R23, R24). -/
def raiseIfArmed (l : LineNo) (s : State) : State :=
  match (s.line l).latch with
  | .armed => raiseLine l s
  | .pending _ => s
  | .outstanding => s

/-- Another GROUP_EDGE line of the line's group is active (R27). -/
def groupBusy (l : LineNo) (s : State) : Bool :=
  lineNos.any fun m => m ≠ l && lineGroup m = lineGroup l && (s.line m).config.mode = .groupEdge && (s.line m).active

/-- A line passes from inactive to active (R19, R23, R24, R27). -/
def activation (l : LineNo) (s : State) : State :=
  match (s.line l).config.mode with
  | .disabled => s
  | .edge => raiseIfArmed l s
  | .level => raiseIfArmed l s
  | .groupEdge =>
    if groupBusy l s then s.setMasked (lineGroup l) (up8 (s.masked.get (lineGroup l))) else raiseIfArmed l s

/-- A LEVEL line in OUTSTANDING, disposed and inactive, returns to ARMED (R25). -/
def rearmLevel (l : LineNo) (s : State) : State :=
  let x := s.line l
  if x.config.mode = .level ∧ x.latch = .outstanding ∧ x.disposed = true ∧ x.active = false then
    s.setLine l { x with latch := .armed, disposed := false }
  else s

/-- A line passes from active to inactive (R23, R25, R27). -/
def deactivation (l : LineNo) (s : State) : State := rearmLevel l s

/-- The activity of a line has changed from `before`, or has not. -/
def activityChange (l : LineNo) (before : Bool) (s : State) : State :=
  if (s.line l).active = before then s else if before then deactivation l s else activation l s

/-- The raw level is accepted and the debounce timer is idle (R18). -/
def acceptLevel (l : LineNo) (s : State) : State :=
  let x := s.line l
  activityChange l x.active (s.setLine l { x with accepted := x.raw, debounceLeft := 0 })

/-- The raw level changes to `level` (R18). -/
def changeRawLevel (l : LineNo) (level : Bool) (s : State) : State :=
  let x := s.line l
  if x.raw = level then s
  else if level = x.accepted then s.setLine l { x with raw := level, debounceLeft := 0 }
  else if x.debounceLeft ≠ 0 then s.setLine l { x with raw := level }
  else if x.config.debounce = 0 then acceptLevel l (s.setLine l { x with raw := level })
  else s.setLine l { x with raw := level, debounceLeft := x.config.debounce }

/-- A LEVEL line that is OUTSTANDING, disposed and active re-raises when its repeat timer has run out (R26). -/
def reRaise (l : LineNo) (s : State) : State :=
  let x := s.line l
  if x.config.mode = .level ∧ x.latch = .outstanding ∧ x.disposed = true ∧ x.active = true ∧ x.repeatLeft = 0 then
    raiseLine l s
  else s

/-- The repeat timer runs out (R26). -/
def repeatRunsOut (l : LineNo) (s : State) : State := reRaise l (s.setLine l { s.line l with repeatLeft := 0 })

/-- RTE reports the take of a descriptor of the line (R21). -/
def lineTaken (l : LineNo) (s : State) : State :=
  let x := s.line l
  let n := x.queued - 1
  let edge : Bool := x.config.mode = .edge || x.config.mode = .groupEdge
  s.setLine l { x with queued := n, latch := if n = 0 ∧ x.latch = .outstanding ∧ edge then .armed else x.latch }

/-- The store reports "disposed" to the line (R22), within the operation that leaves it no record of the line's source: a LEVEL line whose
current event has been taken sets its mark, and then returns to ARMED (R25), or re-raises when its repeat timer has run out (R26). -/
def lineDisposed (l : LineNo) (s : State) : State :=
  let x := s.line l
  if x.config.mode = .level ∧ x.latch = .outstanding ∧ x.queued = 0 then
    let s := s.setLine l { x with disposed := true }
    if x.active = false then rearmLevel l s else if x.repeatLeft = 0 then raiseWithin l s else s
  else s

/-- The store's report for a source: made to a line when no record of that source is left (R22). -/
def reportDisposed (src : BitVec 6) (s : State) : State :=
  match lineOfSource src with
  | some l => if holdsRecord s fun r => r.key.source = src then s else lineDisposed l s
  | none => s

/-! ## An accepted LINE_SET (R29) -/

/-- A running timer under a new time: the new time less the time already run. -/
def retimed (old new left : Nat) : Nat := new - (old - left)

/-- Step 2 of R29: a change of mode. -/
def lineModeChange (l : LineNo) (s : State) : State :=
  s.setLine l { s.line l with latch := .armed, disposed := false, repeatLeft := 0 }

/-- Step 3 of R29, debounce: the raw level is accepted when the new time has already run. -/
def lineRetimeDebounce (l : LineNo) (old : LineConfig) (s : State) : State :=
  let x := s.line l
  if x.debounceLeft = 0 then s
  else
    let left := retimed old.debounce x.config.debounce x.debounceLeft
    s.setLine l { x with debounceLeft := left, accepted := if left = 0 then x.raw else x.accepted }

/-- Step 3 of R29, repeat: the timer runs out when the new interval has already run. -/
def lineRetimeRepeat (l : LineNo) (old : LineConfig) (s : State) : State :=
  let x := s.line l
  if x.repeatLeft = 0 then s
  else
    let left := retimed old.interval x.config.interval x.repeatLeft
    if left = 0 then repeatRunsOut l s else s.setLine l { x with repeatLeft := left }

/-- R29: the configuration is replaced at once, and the line's state is brought into line with it, step by step. -/
def configureLine (l : LineNo) (cfg : LineConfig) (clearGroup : Bool) (s : State) : State :=
  let old := s.line l
  let sameMode : Bool := cfg.mode = old.config.mode
  let s := if clearGroup then s.setMasked (lineGroup l) 0 else s
  let s := s.setLine l { old with config := cfg }
  let s := if sameMode then s else lineModeChange l s
  let s := lineRetimeRepeat l old.config (lineRetimeDebounce l old.config s)
  if sameMode then activityChange l old.active s
  else if cfg.mode = .level ∧ (s.line l).active = true then raiseLine l s
  else s

end Sys2Proof.Machine
end

