-- ==== Sys2Proof/Machine/Store.lean ====
section
/-! DEFINITION. DST: frees and their reports (R68, R69), making (R54, R63), coalescing (R62), displacement (R65), the requests of
routing (R60, R64), return to the front and merging (R58, R70), and transfer (R72). -/

namespace Sys2Proof.Machine

/-! ## Frees -/

/-- The record `r` at index `i` leaves the pool and, when it is QUEUED, its owner's queue (R68). -/
def release (i : RecIndex) (r : Record) (s : State) : State :=
  let s := s.setRecord i none
  if r.state = .queued then dequeue s r.owner i else s

/-- A group whose live copy count has come to 0 ends: PRS decides how (R93, R13), and it returns to FREE (R49). -/
def endGroup (g : GroupNo) (x : FirstGroup) (k : Key) (s : State) : State :=
  let s := if x.done then s else if k.isNotice then loseNotice s else offerNotice .unclaimed x.entry.val s
  s.setGroup g none

/-- A copy of group `g` is freed (R49). -/
def groupLosesCopy (g : GroupNo) (k : Key) (s : State) : State :=
  match s.groups.get g with
  | some x => if x.live ≤ 1 then endGroup g x k s else s.setGroup g (some { x with live := x.live - 1 })
  | none => s

/-- The outcome a free's cause gives a WAITING slot (R149); none is not reported. -/
def FreeCause.outcome : FreeCause → PostOutcome
  | .ackDone => .taken
  | .ackDecline => .declined
  | .drop => .lost
  | .other => .none

def setPostSlot (p : Client) (n : SlotNo) (v : PostSlot) (s : State) : State :=
  s.setPosts p { s.postsOf p with slots := (s.postsOf p).slots.set n v }

/-- PST settles the slot that holds the handle of a freed post record (R149). -/
def settlePost (k : Key) (h : Handle) (cause : FreeCause) (s : State) : State :=
  match (s.postsOf k.postSender).slots.get k.postSlot with
  | .empty => s
  | .waiting _ h' =>
    if h' = h then
      let s := setPostSlot k.postSender k.postSlot .empty s
      if cause.outcome = .none then s else reportOutcome k.postSender k.postSlot cause.outcome s
    else s
  | .orphaned _ h' => if h' = h then setPostSlot k.postSender k.postSlot .empty s else s

/-- Report 1 of R69: to RTE, for a FIRST copy. -/
def reportCopy (r : Record) (s : State) : State :=
  match r.mode with
  | .first g => groupLosesCopy g r.key s
  | .each => s

/-- Report 2 of R69: to PST. -/
def reportPost (r : Record) (h : Handle) (cause : FreeCause) (s : State) : State :=
  if r.key.isPost then settlePost r.key h cause s else s

/-- Report 4 of R69: to PRS. -/
def reportPresented (r : Record) (h : Handle) (s : State) : State :=
  if r.state = .presented then removeDeliver r.owner h s else s

/-- A free with the first four reports of R69, in their order. -/
def freeUntested (i : RecIndex) (r : Record) (cause : FreeCause) (s : State) : State :=
  let h := s.handleAt i
  reportPresented r h (reportDisposed r.key.source (reportPost r h cause (reportCopy r (release i r s))))

/-- A free of the record `r` at index `i` as a step of a larger operation, which answers a wake at its own end (R68, R69). -/
def freeWithin (i : RecIndex) (r : Record) (cause : FreeCause) (s : State) : State :=
  poolRearmTest (freeUntested i r cause s)

/-- A free of the record `r` at index `i`, with PRS's examinations when its report to a line wakes the hub (R68, R69, R181). -/
def freeRecord (i : RecIndex) (r : Record) (cause : FreeCause) (s : State) : State :=
  completeWake s.mode (freeWithin i r cause s)

/-! ## Making and coalescing -/

/-- The lowest-numbered FREE index (R54). -/
def lowestFree (s : State) : Option RecIndex := recIndexes.find? fun i => (s.record i).isNone

/-- The fields of a new record (R53, R63). -/
def recordOf (q : StoreRequest) : Record where
  state := .queued
  owner := q.owner
  key := q.key
  priority := q.priority
  urgent := q.urgent
  mode := q.mode
  hit := q.hit
  profile := q.profile
  fallback := q.fallback
  count := 1
  created := q.created
  interrupted := false
  resumed := false
  esc := none
  payload := q.payload
  flags := 0

/-- A group's live copy count rises by one (R48). -/
def groupGainsCopy (m : RecMode) (s : State) : State :=
  match m with
  | .each => s
  | .first g =>
    match s.groups.get g with
    | some x => s.setGroup g (some { x with live := x.live + 1 })
    | none => s

/-- A new record is made at index `i`, its generation raised by one (R54, R63); the POOL_LOW test follows (R14). -/
def makeAt (i : RecIndex) (q : StoreRequest) (s : State) : State :=
  let s := s.setSlot i ⟨(s.slot i).gen + 1, some (recordOf q)⟩
  poolLowTest (groupGainsCopy q.mode (enqueue s q.owner q.priority i))

/-- The index a request may take by R61, the lowest FREE one. -/
def grantedIndex (s : State) (c : Client) : Option RecIndex := if mayTake s c then lowestFree s else none

/-- The record `r` at `i` takes in `count` more events of this priority and urgent mark, and moves if its priority rose
(R62, R72, R59). -/
def foldInto (i : RecIndex) (r : Record) (count : Nat) (p : Priority) (u : Bool) (s : State) : State :=
  let r' := { r with count := satAdd 255 r.count count, priority := max r.priority p, urgent := r.urgent || u }
  let s := s.setRecord i (some r')
  if r.priority < p then moveUp s r.owner p i else s

/-- The priority or the urgent mark of `r` rises when it takes in an event of this priority and urgent mark (R59). -/
def rises (r : Record) (p : Priority) (u : Bool) : Bool := r.priority < p || (u && !r.urgent)

/-- The QUEUED EACH record of client c with this key, with its index (R62). -/
def sameKeyRecord (s : State) (c : Client) (k : Key) (skip : Option RecIndex) : Option (RecIndex × Record) :=
  (sameKeyQueued s c k skip).bind fun i => (s.record i).map fun r => (i, r)

/-- A request is coalesced into `r` (R62), and a rise is reported (R59). -/
def coalesce (i : RecIndex) (r : Record) (p : Priority) (u : Bool) (s : State) : State :=
  let s := foldInto i r 1 p u s
  if rises r p u then entered r.owner s else s

/-! ## Requests of routing -/

/-- A record that an urgent request may displace (R65). -/
def displaceable (s : State) (i : RecIndex) : Bool :=
  (s.record i).any fun r => r.state = .queued && !r.urgent && r.mode = .each && r.key.source.toNat < 37

/-- The last displaceable record of client c's queue (R65). -/
def displacementCandidate (s : State) (c : Client) : Option (RecIndex × Record) :=
  ((s.queue c).reverse.find? (displaceable s)).bind fun i => (s.record i).map fun r => (i, r)

/-- Urgent displacement (R65). -/
def displace (i : RecIndex) (r : Record) (q : StoreRequest) (s : State) : State :=
  makeAt i q (freeUntested i r .drop (dropFor q.owner r.key s))

/-- A routing request that is not coalesced (R63, R64, R65). -/
def makeOrDrop (q : StoreRequest) (s : State) : State :=
  match grantedIndex s q.owner with
  | some i => entered q.owner (makeAt i q s)
  | none =>
    match (if q.urgent then displacementCandidate s q.owner else none) with
    | some (i, r) => entered q.owner (displace i r q s)
    | none => dropFor q.owner q.key s

/-- A routing request (R60): coalescing is tried for EACH. -/
def routingRequest (q : StoreRequest) (s : State) : State :=
  match (if q.mode = .each then sameKeyRecord s q.owner q.key none else none) with
  | some (i, r) => coalesce i r q.priority q.urgent s
  | none => makeOrDrop q s

/-! ## Return, resumption and transfer -/

/-- Two records of one key become one: `r` at `i`, at the front, takes in `o` at `j`, which is freed (R70). -/
def mergeFront (i : RecIndex) (r : Record) (j : RecIndex) (o : Record) (s : State) : State :=
  let r' := { r with
    count := satAdd 255 r.count o.count
    priority := max r.priority o.priority
    urgent := r.urgent || o.urgent }
  freeRecord j o .other (s.setRecord i (some r'))

/-- The record at `i`, now `r` and QUEUED, goes to the front of its owner's queue, and merges with a QUEUED EACH record of the
same key (R58, R70, R71). -/
def placeAtFront (i : RecIndex) (r : Record) (s : State) : State :=
  let s := enqueueFront (s.setRecord i (some r)) r.owner i
  if r.mode = .each then
    match sameKeyRecord s r.owner r.key (some i) with
    | some (j, o) => mergeFront i r j o s
    | none => s
  else s

/-- A client reset returns `r`: interrupted, without stage, QUEUED at the front (R70). A signal record is left for PST. -/
def returnRecord (i : RecIndex) (r : Record) (s : State) : State :=
  if r.key.isSignal then s
  else placeAtFront i { r with state := .queued, interrupted := true, esc := none } (reportPresented r (s.handleAt i) s)

/-- The record `r` at `i` goes to the fallback `f` (R72). An unsent DELIVER frame of it is removed (R80). -/
def transfer (i : RecIndex) (r : Record) (f : Client) (s : State) : State :=
  match (if r.mode = .each then sameKeyRecord s f r.key none else none) with
  | some (j, o) => freeWithin i r .other (foldInto j o r.count r.priority r.urgent s)
  | none =>
    let s := reportPresented r (s.handleAt i) s
    let s := if r.state = .queued then dequeue s r.owner i else s
    enqueue (s.setRecord i (some { r with owner := f, state := .queued, esc := none })) f r.priority i

end Sys2Proof.Machine
end

