-- ==== Sys2Proof/Machine/Exchange.lean ====
section
/-! DEFINITION. CTX: the return to OPERATE with its resumption (R105, R71, R155), hold-off (R111, R112), and what an ended
suspended record leaves (R106). -/

namespace Sys2Proof.Machine

/-- OPERATE's suspended handle becomes none (R106). -/
def clearSuspended (c : Client) (s : State) : State := s.setContexts c { s.contextsOf c with suspended := none }

/-- Hold-off is set and its timer started, unless the hold-off time is 0 (R105 step 2, R112). -/
def startHoldOff (c : Client) (s : State) : State :=
  let x := s.contextsOf c
  if x.holdOffTime = 0 then s else s.setContexts c { x with holdOff := true, holdOffLeft := x.holdOffTime }

/-- Hold-off ends, and CTX examines (R111). -/
def endHoldOff (c : Client) (s : State) : State :=
  ctxExamine c (s.setContexts c { s.contextsOf c with holdOff := false, holdOffLeft := 0 })

/-- The flags of a resumed signal record join the pending set (R155). -/
def returnFlags (c : Client) (r : Record) (s : State) : State :=
  if r.key.isSignal then setPendingFlags c ((s.postsOf c).pendingFlags ||| r.flags) s else s

/-- Client c's SUSPENDED record, if any, is resumed (R71, R105 step 3). -/
def resume (c : Client) (s : State) : State :=
  match heldIn s c .suspended with
  | some (i, r) =>
    clearSuspended c (placeAtFront i { r with state := .queued, resumed := true, flags := 0 } (returnFlags c r s))
  | none => s

def enterOperate (c : Client) (s : State) : State := s.setContexts c { s.contextsOf c with active := .operate }

/-- The exchange from SERVICE to OPERATE, its reply left out (R105). -/
def exchangeToOperate (c : Client) (s : State) : State :=
  let s := resume c (startHoldOff c (enterOperate c s))
  ctxExamine c (examine c (placeHubFrame c (.context .operate .request none) s))

end Sys2Proof.Machine
end

