-- ==== Sys2Proof/Machine/Health.lean ====
section
/-! DEFINITION. HLT: score changes (R134), detach (R137, R138), and the completion of a rejoin (R143). -/

namespace Sys2Proof.Machine

/-- The score of client c, which stays attached, becomes `score`: the health state follows, a change is noticed, and PRS
examines c when the change is into or out of RESTRICTED (R134). -/
def applyScore (c : Client) (score : Nat) (s : State) : State :=
  let x := s.healthOf c
  let h := healthOfScore score
  let s := s.setHealth c { x with score := score, health := h }
  if h = x.health then s
  else
    let s := offerNotice .health (clientDetail c h.code) s
    if h = .restricted ∨ x.health = .restricted then examine c s else s

/-- A score decrease (R134). -/
def lowerScore (c : Client) (s : State) : State :=
  if s.attached c then applyScore c ((s.healthOf c).score - 1) s else s

/-- Step 1 of a detach (R137). -/
def beginDetach (c : Client) (s : State) : State :=
  offerNotice .health (clientDetail c Health.detached.code) (s.setHealth c ⟨255, .detached, 0, 0⟩)

/-- The score change of an increase by `k`, and whether it begins a detach of c, whose carrying-out is left to the caller
(R134, R122 step 1). -/
def raiseScore (c : Client) (k : Nat) (s : State) : State × Bool :=
  if s.attached c then
    if (s.healthOf c).score + k ≤ 255 then (applyScore c ((s.healthOf c).score + k) s, false) else (beginDetach c s, true)
  else (s, false)

/-! ## Detach -/

/-- The fallback of `r` can receive it at the detach of c (R138). -/
def fallbackFor (s : State) (c : Client) (r : Record) : Option Client := r.fallback.filter fun f => s.attached f && f ≠ c

/-- Client f holds a copy of group g that is not FREE (R138). -/
def holdsCopy (s : State) (f : Client) (g : GroupNo) : Bool := holdsRecord s fun r => r.owner = f && r.mode = .first g

/-- A record is dropped at the detach of c: accounted, then freed (R138). -/
def dropRecord (c : Client) (i : RecIndex) (r : Record) (s : State) : State :=
  freeWithin i r .drop (dropFor c r.key s)

/-- The record `r` at `i` of the detached client c is disposed of by the first fitting line of R138's table; `fs` are the
fallbacks that have received a record so far. -/
def disposeRecord (c : Client) (i : RecIndex) (r : Record) (p : State × List Client) : State × List Client :=
  if r.key.isSignal then (freeWithin i r .other p.1, p.2)
  else if r.key.isPost then (dropRecord c i r p.1, p.2)
  else
    match fallbackFor p.1 c r with
    | none => (dropRecord c i r p.1, p.2)
    | some f =>
      match r.mode with
      | .each => (transfer i r f p.1, f :: p.2)
      | .first g =>
        if holdsCopy p.1 f g then (freeWithin i r .other p.1, p.2) else (transfer i r f p.1, f :: p.2)

/-- The record at `i`, if any, is disposed of. -/
def disposeAt (c : Client) (p : State × List Client) (i : RecIndex) : State × List Client :=
  match p.1.record i with
  | some r => disposeRecord c i r p
  | none => p

/-- Client c's records in the order of R137 step 3. -/
def recordsInOrder (s : State) (c : Client) : List RecIndex :=
  (presentedOf s c).toList ++ (suspendedOf s c).toList ++ s.queue c

/-- The clients of `fs` are examined in ascending order, CTX before PRS (R137, R59). -/
def examineFallbacks (fs : List Client) (s : State) : State :=
  (clients.filter fun c => fs.contains c).foldl (fun s c => entered c s) s

/-- Steps 2 and 3 of a detach: client c's records are disposed of; the fallbacks that received one are answered. -/
def disposeAll (c : Client) (s : State) : State × List Client :=
  let s := setAttention c false s
  (recordsInOrder s c).foldl (disposeAt c) (s, [])

/-- What step 3 leaves open and step 4 empties: the gate, the suspended handle and the pending flag set (R137, R81). -/
def clearDetached (c : Client) (s : State) : State := setPendingFlags c 0 (clearSuspended c (setGate c true s))

/-- Steps 2 to 5 of a detach, and the examination of the fallbacks (R137). A hub that a free's report to a line has woken is examined
after them, so that no examination falls between the steps and CTX comes to each fallback before PRS (R109; log entry 39). -/
def finishDetach (c : Client) (s : State) : State :=
  let p := disposeAll c s
  completeWake s.mode (examineFallbacks p.2 (examine c (clearDetached c p.1)))

/-- A detach of client c (R137). -/
def detach (c : Client) (s : State) : State := finishDetach c (beginDetach c s)

/-- A score increase with the detach it may lead to (R134, R135). -/
def chargeScore (c : Client) (k : Nat) (s : State) : State :=
  let p := raiseScore c k s
  if p.2 then finishDetach c p.1 else p.1

/-- The completion of a rejoin, also FORCE ATTACH (R143, R144). -/
def completeRejoin (c : Client) (s : State) : State :=
  let s := s.setHealth c ⟨0, .healthy, 0, 0⟩
  entered c (offerNotice .health (clientDetail c Health.healthy.code) s)

end Sys2Proof.Machine
end

