-- ==== Sys2Proof/Machine/Supervision.lean ====
section
/-! DEFINITION. SUP: power-on and board reset (R175 to R177). -/

namespace Sys2Proof.Machine

/-- The values of State.reset, with the straps, cause, raw levels, note and lines that this reset finds (R175). -/
def hubReset (pins : PinLevels) (raw : LineNo → Bool) (board : BoardLines) (cause : CauseRecord) (note : BitVec 32)
    (resetInput : Bool) (pending : List Instr) : State :=
  { State.reset with
    lines := Table.build fun l => lineAtReset pins.now.lineDef l (raw l)
    board := board
    sup := supervisorAtReset pins cause note resetInput
    pending := pending }

/-- Power-on with these strap and raw levels (R175); the reset input stays as it stands (log entry 10). -/
def powerOnReset (pins : PinLevels) (raw : BitVec 24) (s : State) : State :=
  hubReset pins (fun l => raw.getLsbD l.val) (boardLinesAtReset false 0) ⟨.powerOn, none, 0⟩ 0 s.sup.resetInput s.pending

/-- The board-reset output and its timer at a board reset of kind `k` (R126, R131). -/
def boardLinesAfter (k : CauseKind) (b : BoardLines) : BoardLines :=
  if k = .escalation then boardLinesAtReset true Config.outputPulseMs else boardLinesAtReset b.output b.outputLeft

/-- A board reset of kind `k` for client `c` that samples the strap levels `pins` (R175, R177): the note and the raw levels are
kept. -/
def boardResetWith (pins : PinLevels) (k : CauseKind) (c : Option Client) (s : State) : State :=
  hubReset pins (fun l => (s.line l).raw) (boardLinesAfter k s.board) ⟨k, c, up8 s.sup.cause.count⟩ s.sup.note
    s.sup.resetInput s.pending

/-- A board reset that the hub takes of itself, by escalation or by RESET_HUB: it finds the strap pins at their next levels (R174;
log entry 8). -/
def boardReset (k : CauseKind) (c : Option Client) (s : State) : State := boardResetWith s.sup.pins.next k c s

end Sys2Proof.Machine
end

