-- ==== Sys2Proof/Machine/Escalation.lean ====
section
/-! DEFINITION. ESC: the client reset (R127 to R129), the stage that a DELIVER frame's end begins or continues (R121), the
deadline expiry (R122) and the delay expiry (R123). -/

namespace Sys2Proof.Machine

/-! ## Client reset (R127) -/

/-- Step 1: the reset line is asserted and its pulse timer started. -/
def startPulse (c : Client) (s : State) : State :=
  let x := s.clientLinesOf c
  s.setClientLines c { x with resetLine := true, pulseLeft := x.pulseWidth }

/-- Step 2: the link is flushed (R128). -/
def flushLink (c : Client) (s : State) : State :=
  s.setLink c { s.link c with receiver := .hunt, requests := [], replies := [], hub := [], tx := none }

/-- Step 3, with the gate that step 5 or 6 opens. -/
def clearReady (c : Client) (s : State) : State := s.setPresentation c presentationAtReset

/-- Step 4: CTX returns c to defaults (R114). -/
def contextsToDefaults (c : Client) (s : State) : State :=
  let x := s.contextsOf c
  let s := s.setContexts c { contextsAtReset with holdOffTime := x.holdOffTime }
  let s := (s.setWaiting (timerNo c .operate) none).setWaiting (timerNo c .service) none
  if x.active = .service then placeHubFrame c (.context .operate .reset none) s else s

/-- Step 5: client c's record in state `st` is returned. -/
def returnHeld (c : Client) (st : RecState) (s : State) : State :=
  match heldIn s c st with
  | some (i, r) => returnRecord i r s
  | none => s

/-- The record at `i` is freed when it is client c's signal record. -/
def freeSignal (c : Client) (s : State) (i : RecIndex) : State :=
  match (s.record i).filter fun r => r.owner = c && r.key.isSignal with
  | some r => freeRecord i r .other s
  | none => s

/-- The signal part of step 6 (R156). -/
def clearSignals (c : Client) (s : State) : State := recIndexes.foldl (freeSignal c) (setPendingFlags c 0 s)

/-- One slot of the reset sender (R152). -/
def settleOwnSlot (c : Client) (s : State) (n : SlotNo) : State :=
  match (s.postsOf c).slots.get n with
  | .empty => s
  | .orphaned _ _ => s
  | .waiting t h =>
    match namedRecord s t .queued h with
    | some r => freeRecord h.index r .other s
    | none => setPostSlot c n (.orphaned t h) s

/-- The post part of step 6, slot by slot (R152). -/
def settleOwnSlots (c : Client) (s : State) : State := slotNos.foldl (settleOwnSlot c) s

/-- Step 7: the stage timer has ended with the returned record. -/
def settleLines (c : Client) (cause : ResetCause) (s : State) : State :=
  s.setClientLines c { s.clientLinesOf c with attention := false, lastCause := cause }

/-- Steps 1 to 9 of a client reset of c with cause escalation or forced (R127). -/
def clientResetSteps (c : Client) (cause : ResetCause) (s : State) : State :=
  let s := contextsToDefaults c (clearReady c (flushLink c (startPulse c s)))
  let s := returnHeld c .suspended (returnHeld c .presented s)
  let s := settleLines c cause (settleOwnSlots c (clearSignals c s))
  offerNotice .clientReset (clientDetail c cause.code) s

/-- A client reset of c; when it discards the reply of a pending RESET_HUB of c, the board reset is taken (R178). -/
def clientReset (c : Client) (cause : ResetCause) (s : State) : State :=
  let t := clientResetSteps c cause s
  if s.sup.resetPending = some c then boardReset .request (some c) t else t

/-! ## Stages -/

/-- The delay in ms that a delay code stands for (R118). -/
def delayOf (p : Profile) : Nat := 16 * 2 ^ p.delayCode.val

/-- The escalation state of client c's PRESENTED record is replaced. -/
def setEsc (i : RecIndex) (r : Record) (e : Escalation) (s : State) : State := s.setRecord i (some { r with esc := some e })

/-- A DEADLINE stage begins, or SPENT when the profile has no deadline (R121). -/
def beginDeadline (i : RecIndex) (r : Record) (s : State) : State :=
  let d := (s.profiles.get r.profile).deadline
  setEsc i r (if d = 0 then ⟨.spent, 0, false, false⟩ else ⟨.deadline, d, false, false⟩) s

/-- The end of the DELIVER frame of client c's PRESENTED record `r` begins its deadline, or continues its frozen stage (R121). -/
def beginStage (c : Client) (i : RecIndex) (r : Record) (s : State) : State :=
  match r.esc with
  | none => beginDeadline i r s
  | some e => if e.stage = .waiting then beginDeadline i r s else if e.asserting then setAttention c true s else s

/-- Whether the DEADLINE or DELAY timer of client c's PRESENTED record `r` counts (R120, R121): its DELIVER frame has been sent. -/
def stageCounts (s : State) (c : Client) (e : Escalation) : Bool :=
  (e.stage = .deadline || e.stage = .delay) && !deliverBusy s c && s.mode ≠ .sleep

/-- Step 4 of R122, but for BOARD_RESET. -/
def takeAction (c : Client) (i : RecIndex) (r : Record) (a : Action) (s : State) : State :=
  match a with
  | .noteOnly => setEsc i r ⟨.spent, 0, true, false⟩ s
  | .attention => setAttention c true (setEsc i r ⟨.spent, 0, true, true⟩ s)
  | .clientReset => clientReset c .escalation s
  | .attentionThenReset => setAttention c true (setEsc i r ⟨.delay, delayOf (s.profiles.get r.profile), true, true⟩ s)
  | .boardReset => boardReset .escalation (some c) s

/-- The DEADLINE timer of client c's PRESENTED record `r` at `i` expires (R122). -/
def deadlineExpires (c : Client) (i : RecIndex) (r : Record) (s : State) : State :=
  let e := (r.esc.getD ⟨.deadline, 0, false, false⟩)
  let r := { r with esc := some { e with left := 0, expired := true } }
  let p := raiseScore c 8 (s.setRecord i (some r))
  let a := (s.profiles.get r.profile).action
  let s := offerNotice .escalated (clientDetail c a.code) p.1
  if p.2 then
    let s := finishDetach c s
    if a = .boardReset then boardReset .escalation (some c) s else s
  else takeAction c i r a s

/-- The DELAY timer of client c's PRESENTED record expires (R123). -/
def delayExpires (c : Client) (s : State) : State := clientReset c .escalation s

end Sys2Proof.Machine
end

