-- ==== Sys2Proof/Machine/Links.lean ====
section
/-! DEFINITION. LNK: the receiver (R160), frame errors (R161), acceptance (R162), the transmitter (R165), taking a request
(R162, R163), and what every command ends with: transmissions begin and the hub may enter SLEEP (R181). -/

namespace Sys2Proof.Machine

/-! ## The receiver -/

def setReceiver (c : Client) (r : Receiver) (s : State) : State := s.setLink c { s.link c with receiver := r }

/-- A reply is placed in its reply place (R162, R163). -/
def placeReply (c : Client) (r : Reply) (s : State) : State :=
  s.setLink c { s.link c with replies := (s.link c).replies ++ [r] }

/-- A frame error is counted and reported to HLT (R161, R133, R143). -/
def frameError (c : Client) (s : State) : State :=
  let s := s.setLink c { s.link c with frameErrors := up16 (s.link c).frameErrors }
  if (s.healthOf c).health = .rejoining then
    s.setHealth c { s.healthOf c with rejoin := 0, spacingLeft := Config.spacingMs }
  else chargeScore c 2 s

/-- The frame fails with BAD_LENGTH or BAD_CHECK (R160). -/
def frameFails (c : Client) (s : State) : State := frameError c (setReceiver c .hunt s)

/-- The frame fails with GAP (R160, R161). -/
def gapFails (c : Client) (s : State) : State :=
  frameFails c (s.setLink c { s.link c with gaps := up16 (s.link c).gaps })

/-- A frame that finds both reply places held is discarded (R162). -/
def overrun (c : Client) (s : State) : State :=
  let s := s.setLink c { s.link c with overruns := up16 (s.link c).overruns }
  offerNotice .overrun c.val (chargeScore c 2 s)

/-- Both reply places of link c are held, by requests not yet taken or by replies whose transmission has not begun (R162). -/
def placesHeld (s : State) (c : Client) : Bool :=
  Config.replyPlaces ≤ (s.link c).requests.length + (s.link c).replies.length

/-- A request waits in its reply place (R162). -/
def pushRequest (c : Client) (q : Request) (s : State) : State :=
  s.setLink c { s.link c with requests := (s.link c).requests ++ [q] }

/-- A well-formed frame completes on link c (R162); it is discarded while a RESET_HUB is pending (R178). -/
def frameComplete (c : Client) (kind tag : Byte) (payload : List Byte) (s : State) : State :=
  if s.sup.resetPending.isSome then s
  else if placesHeld s c then overrun c s
  else
    match kindOfByte kind with
    | some k => pushRequest c ⟨k, tag, payload, s.now⟩ s
    | none => frameError c (placeReply c ⟨tag, kind, .badKind, []⟩ s)

/-- The second CHECK byte has arrived; `got` holds KIND, TAG and payload (R160). -/
def checkFrame (c : Client) (len : Byte) (got : List Byte) (hi lo : Byte) (s : State) : State :=
  match got with
  | kind :: tag :: payload =>
    if (crc16 (len :: got)).toNat = num16 hi lo then frameComplete c kind tag payload (setReceiver c .hunt s)
    else frameFails c s
  | _ => frameFails c s

/-- A byte advances the receiver (R160). -/
def advance (c : Client) (b : Byte) (s : State) : State :=
  match (s.link c).receiver with
  | .hunt => if b = 0xD4 then setReceiver c .length s else s
  | .length => if b.toNat ≤ Config.maxPayload then setReceiver c (.body b []) s else frameFails c s
  | .body len got =>
    if got.length + 1 < len.toNat + 2 then setReceiver c (.body len (got ++ [b])) s
    else setReceiver c (.check len (got ++ [b]) none) s
  | .check len got none => setReceiver c (.check len got (some b)) s
  | .check len got (some hi) => checkFrame c len got hi b s

/-- A frame is being received on link c. -/
def midFrame (s : State) (c : Client) : Bool := (s.link c).receiver ≠ .hunt

/-- Microseconds since the last byte of link c arrived (R4, R158). -/
def sinceByte (s : State) (c : Client) : Nat := (s.now - (s.link c).stamp).toNat

/-- The gap limit has passed before this moment (R160; log entry 5). -/
def gapPassed (s : State) (c : Client) : Bool := midFrame s c && Config.gapLimit < sinceByte s c

/-- The arrival of a byte is stamped (R158). -/
def stampByte (c : Client) (s : State) : State := s.setLink c { s.link c with stamp := s.now }

/-- A byte is received on link c: it is discarded while the reset line is asserted (R128), and wakes the hub (R158, R181). -/
def receiveByte (c : Client) (b : Byte) (s : State) : State :=
  if (s.clientLinesOf c).resetLine then s
  else
    let s := wakeHub s
    let s := if gapPassed s c then gapFails c s else s
    advance c b (stampByte c s)

/-! ## The transmitter -/

/-- An idle transmitter whose client's reset line is released begins the oldest reply, or else the oldest hub frame (R165). -/
def beginTransmission (s : State) (c : Client) : State :=
  if (s.clientLinesOf c).resetLine then s
  else
    let k := s.link c
    match k.tx with
    | some _ => s
    | none =>
      match k.replies with
      | r :: rest => s.setLink c { k with tx := some (.reply r), replies := rest }
      | [] =>
        match k.hub with
        | f :: rest => s.setLink c { k with tx := some (.hub f), hub := rest }
        | [] => s

/-- Every idle transmitter begins what it can (R165). -/
def beginAll (s : State) : State := clients.foldl beginTransmission s

/-- The link's outbound queue is empty, with no reply place held, and its transmitter is idle (R181; log entry 17). -/
def Link.quiet (k : Link) : Bool := k.requests.isEmpty && k.replies.isEmpty && k.hub.isEmpty && k.tx.isNone

/-- The conditions for entering SLEEP (R181): a pulse runs exactly while a reset line is asserted. -/
def sleepReady (s : State) : Bool :=
  s.mode = .sleepPending && !(holdsRecord s fun r => r.state = .presented) && s.intake.isEmpty &&
    s.links.data.all Link.quiet && s.clientLines.data.all fun x => !x.resetLine

/-- The hub enters SLEEP at the moment the conditions hold (R181). -/
def enterSleep (s : State) : State := if sleepReady s then setMode .sleep s else s

/-- What every command ends with (log entries 12 and 18). -/
def settle (s : State) : State := enterSleep (beginAll s)

/-- The DELIVER frame of handle `h` has been sent on link c (R79, R121). -/
def deliverSent (c : Client) (h : Handle) (s : State) : State :=
  match heldIn s c .presented with
  | some (i, r) => examine c (if s.handleAt i = h then beginStage c i r s else s)
  | none => examine c s

/-- The OK reply to the RESET_HUB request that is pending for client c (R178). -/
def endsReset (s : State) (c : Client) (r : Reply) : Bool :=
  r.kind = kindByte .resetHub && r.status = .ok && s.sup.resetPending = some c

/-- The last byte of the frame in transmission on link c is sent (R165). -/
def frameSent (c : Client) (s : State) : State :=
  match (s.link c).tx with
  | none => s
  | some f =>
    let s := s.setLink c { s.link c with tx := none }
    match f with
    | .reply r => if endsReset s c r then boardReset .request (some c) s else s
    | .hub (.deliver d) => deliverSent c d.handle s
    | .hub (.recall _) => s
    | .hub (.context _ _ _) => s
    | .hub (.slots _) => s

/-! ## Requests -/

/-- What a request's rule gives: the state, the status and the result fields of the reply (R163). -/
abbrev Answer := State × Status × List Byte

def refuse (st : Status) (s : State) : Answer := (s, st, [])

def accept (s : State) : Answer := (s, .ok, [])

/-- Client c holds a privilege (R166). -/
def PrivilegeSet.has (p : PrivilegeSet) : Privilege → Bool
  | .configure => p.configure
  | .control => p.control
  | .post => p.post
  | .raise => p.raise

def holds (s : State) (c : Client) (p : Privilege) : Bool := (s.sup.privileges.get c).has p

/-- The privilege check, which stands first (R166). -/
def withPrivilege (p : Privilege) (c : Client) (s : State) (rest : Answer) : Answer :=
  if holds s c p then rest else refuse .denied s

/-- The frozen check of a configuration request (R166). -/
def unlessFrozen (s : State) (rest : Answer) : Answer := if s.sup.frozen then refuse .frozen s else rest

/-- The field checks (R166): a payload that does not read as the rule says is answered BAD_FIELD. -/
def withFields {α : Type} (fields : Option α) (s : State) (rest : α → Answer) : Answer :=
  match fields with
  | some x => rest x
  | none => refuse .badField s

/-- The DETACHED check of a requesting client that is not attached (R140, R166). -/
def whileAttached (c : Client) (s : State) (rest : Answer) : Answer :=
  if s.attached c then rest else refuse .detached s

/-- Link c takes its oldest request when it is one that `wanted` names and no RESET_HUB is pending: it is carried out by `rule`,
and its reply is placed (R162, R163, R178). -/
def takeRequest (c : Client) (wanted : Request → Bool) (rule : Request → State → Answer) (s : State) : State :=
  if s.sup.resetPending.isSome then s
  else
    match (s.link c).requests with
    | [] => s
    | q :: rest =>
      if wanted q then
        let a := rule q (s.setLink c { s.link c with requests := rest })
        placeReply c ⟨q.tag, kindByte q.kind, a.2.1, a.2.2⟩ a.1
      else s

/-- One byte of a frame sent whole is received, as RECEIVED_BYTE does. -/
def takeByte (c : Client) (s : State) (b : Byte) : State := settle (receiveByte c b s)

/-- Bytes are received one after another. -/
def receiveAll (c : Client) (bytes : List Byte) (s : State) : State := bytes.foldl (takeByte c) s

/-- The request reaches link c (log entry 6). -/
def arrive (c : Client) (k : RequestKind) (a : Arrival) (s : State) : State :=
  match a with
  | .sent tag payload => receiveAll c (frameBytes (kindByte k) tag payload) s
  | .waiting => s

/-- A request command of kind `k` (log entry 6). -/
def serve (c : Client) (k : RequestKind) (a : Arrival) (rule : Request → State → Answer) (s : State) : State :=
  settle (takeRequest c (fun q => q.kind = k) rule (arrive c k a s))

/-- A FORCE command of operation `op` (R130, R144; log entry 7). -/
def serveForce (c : Client) (op : Byte) (a : Arrival) (rule : Request → State → Answer) (s : State) : State :=
  settle (takeRequest c (fun q => q.kind = .force && forceNames op q.payload) rule (arrive c .force a s))

end Sys2Proof.Machine
end

