-- ==== Sys2Proof/Machine/Acknowledge.lean ====
section
/-! DEFINITION. PRS's requests: READY (R82) and ACK (R84 to R89), with the win of a FIRST group (R90, R91). -/

namespace Sys2Proof.Machine

/-! ## READY -/

/-- READY is set and the losses-since-READY count cleared; CTX and PRS examine (R82). -/
def declareReady (c : Client) (s : State) : State :=
  let s := s.setPresentation c { s.presentationOf c with ready := true }
  entered c (s.setDrops c { s.dropsOf c with sinceReady := 0 })

/-- The result fields of READY (R82). -/
def readyFields (s : State) (c : Client) : List Byte :=
  [byte (s.clientLinesOf c).lastCause.code, byte (queuedCount s c), byte (s.dropsOf c).sinceReady,
   byte (contextCode (s.contextsOf c).active)]

def ruleReady (c : Client) (q : Request) (s : State) : Answer :=
  withFields (parseEmpty q.payload) s fun _ => (declareReady c s, .ok, readyFields s c)

/-- READY (R82). -/
def execReady (c : Client) (a : Arrival) (s : State) : Host.Outcome State Fault Refusal :=
  .next (serve c .ready a (ruleReady c) s)

/-! ## The win of a FIRST group -/

/-- The copy of group `g` that client d owns, other than the one at `i`. -/
def otherCopy (s : State) (d : Client) (g : GroupNo) (i : RecIndex) : Option (RecIndex × Record) :=
  (recIndexes.find? fun j => j ≠ i && (s.record j).any fun r => r.owner = d && r.mode = .first g).bind fun j =>
    (s.record j).map fun r => (j, r)

def setLastRecalled (d : Client) (h : Option Handle) (s : State) : State :=
  s.setPresentation d { s.presentationOf d with lastRecalled := h }

/-- The withdrawal of the copy `r` at `j` of client d, by its state (R91; log entries 13 and 14). -/
def withdrawCopy (d : Client) (j : RecIndex) (r : Record) (s : State) : State :=
  let h := s.handleAt j
  match r.state with
  | .queued => freeRecord j r .other s
  | .presented =>
    let unsent := deliverUnsent s d h
    let s := openGate d (setLastRecalled d (some h) (freeRecord j r .other (setAttention d false s)))
    if unsent then s else placeHubFrame d (.recall h) s
  | .suspended =>
    placeHubFrame d (.recall h) (clearSuspended d (setLastRecalled d (some h) (freeRecord j r .other s)))

/-- Client d's copy of `g` other than the winner at `i`, if any, is withdrawn. -/
def withdrawFrom (g : GroupNo) (i : RecIndex) (s : State) (d : Client) : State :=
  match otherCopy s d g i with
  | some (j, r) => withdrawCopy d j r s
  | none => s

/-- The copy at `i` wins group `g` (R90). -/
def winGroup (g : GroupNo) (x : FirstGroup) (i : RecIndex) (s : State) : State :=
  clients.foldl (withdrawFrom g i) (s.setGroup g (some { x with done := true }))

/-- A FIRST copy acknowledged DONE wins its group when no earlier copy has (R86 step 3, R87 step 2). -/
def decideGroup (i : RecIndex) (r : Record) (d : Disposition) (s : State) : State :=
  match r.mode, d with
  | .first g, .done =>
    match s.groups.get g with
    | some x => if x.done then s else winGroup g x i s
    | none => s
  | .first _, .decline => s
  | .each, _ => s

/-! ## ACK -/

def Disposition.cause : Disposition → FreeCause
  | .done => .ackDone
  | .decline => .ackDecline

/-- Hold-off ends with an ACK of the PRESENTED record in OPERATE (R111). -/
def ackEndsHoldOff (c : Client) (s : State) : State :=
  if (s.contextsOf c).active = .operate ∧ (s.contextsOf c).holdOff = true then endHoldOff c s else s

/-- An ACK of the PRESENTED record `r` at `i` (R86); its flag snapshot ends with it. -/
def ackPresented (c : Client) (i : RecIndex) (r : Record) (d : Disposition) (s : State) : State :=
  let expired := r.esc.any Escalation.expired
  let s := decideGroup i r d (setAttention c false s)
  let s := ackEndsHoldOff c (openGate c (freeRecord i r d.cause s))
  if expired then s else lowerScore c s

/-- An ACK of the SUSPENDED record `r` at `i` (R87); its flag snapshot ends with it. -/
def ackSuspended (c : Client) (i : RecIndex) (r : Record) (d : Disposition) (s : State) : State :=
  clearSuspended c (freeRecord i r d.cause (decideGroup i r d s))

/-- The comparisons of R85, in their order. -/
def ackNamed (c : Client) (h : Handle) (d : Disposition) (s : State) : Answer :=
  match namedRecord s c .presented h with
  | some r =>
    let t := ackPresented c h.index r d s
    (t, .ok, [byte (queuedCount t c)])
  | none =>
    match namedRecord s c .suspended h with
    | some r =>
      let t := ackSuspended c h.index r d s
      (t, .ok, [byte (queuedCount t c)])
    | none =>
      if (s.presentationOf c).lastRecalled = some h then refuse .takenElsewhere s
      else refuse .stale (chargeScore c 4 s)

def ruleAck (c : Client) (q : Request) (s : State) : Answer :=
  withFields (parseAck q.payload) s fun p => whileAttached c s (ackNamed c p.1 p.2 s)

/-- ACK (R84). -/
def execAck (c : Client) (a : Arrival) (s : State) : Host.Outcome State Fault Refusal :=
  .next (serve c .ack a (ruleAck c) s)

end Sys2Proof.Machine
end

