-- ==== Sys2Proof/Machine/ContextRequests.lean ====
section
/-! DEFINITION. CTX's requests: EXCHANGE (R102), CONTEXT_SET (R99), TIMER_SET (R101). -/

namespace Sys2Proof.Machine

/-! ## EXCHANGE -/

/-- The table of R102; the result fields hold the context and the suspended handle that the exchange itself gives (log entry 15). -/
def exchange (c : Client) (k : ContextName) (s : State) : Answer :=
  if (s.contextsOf c).active = k then refuse .same s
  else
    match k with
    | .service =>
      let t := exchangeToService c .request s
      (t, .ok, byte (contextCode .service) :: handleBytes (t.contextsOf c).suspended)
    | .operate =>
      if (presentedOf s c).isSome then refuse .busy s
      else (exchangeToOperate c s, .ok, byte (contextCode .operate) :: handleBytes none)

def ruleExchange (c : Client) (q : Request) (s : State) : Answer :=
  withFields (parseExchange q.payload) s fun k => whileAttached c s (exchange c k s)

/-- EXCHANGE (R102). -/
def execExchange (c : Client) (a : Arrival) (s : State) : Host.Outcome State Fault Refusal :=
  .next (serve c .exchange a (ruleExchange c) s)

/-! ## CONTEXT_SET -/

/-- The named context's class set and threshold are replaced, and the two examinations follow (R99). -/
def setFilter (c : Client) (k : ContextName) (classes : FlagSet) (threshold : Priority) (s : State) : State :=
  let x := (s.contextsOf c).get k
  let s := s.setContexts c ((s.contextsOf c).set k { x with classes := classes, threshold := threshold })
  ctxExamine c (if (s.contextsOf c).active = k then examine c s else s)

def ruleContextSet (c : Client) (q : Request) (s : State) : Answer :=
  withFields (parseContextSet q.payload) s fun p => whileAttached c s (accept (setFilter c p.1 p.2.1 p.2.2 s))

/-- CONTEXT_SET (R99). -/
def execContextSet (c : Client) (a : Arrival) (s : State) : Host.Outcome State Fault Refusal :=
  .next (serve c .contextSet a (ruleContextSet c) s)

/-! ## TIMER_SET -/

/-- The table of R101. -/
def setTimer (c : Client) (k : ContextName) (t : TimerSetting) (s : State) : State :=
  let x := (s.contextsOf c).get k
  let reload := if t.mode = .periodic then t.reload else x.reload
  s.setContexts c ((s.contextsOf c).set k { x with timerMode := t.mode, left := t.time, reload := reload })

def ruleTimerSet (c : Client) (q : Request) (s : State) : Answer :=
  withFields (parseTimerSet q.payload) s fun p =>
    whileAttached c s (setTimer c p.1 p.2 s, .ok, be24 ((s.contextsOf c).get p.1).left)

/-- TIMER_SET (R101). -/
def execTimerSet (c : Client) (a : Arrival) (s : State) : Host.Outcome State Fault Refusal :=
  .next (serve c .timerSet a (ruleTimerSet c) s)

end Sys2Proof.Machine
end

