-- ==== Sys2Proof/Machine/Routing.lean ====
section
/-! DEFINITION. RTE: the take and the place it frees (R9, R10), lookup (R35, R36), unrouted events (R39, R40), the target
decision (R41 to R43), and the requests of a routing with its FIRST group (R44 to R50). -/

namespace Sys2Proof.Machine

/-! ## The freed place (R9) -/

def timerNos : List (Fin 8) := List.finRange 8

/-- The waiting timer expiry of the lowest source. -/
def firstWaitingTimer (s : State) : Option (Fin 8 × Descriptor) :=
  timerNos.findSome? fun n => (s.waiting.get n).map fun d => (n, d)

/-- The event a PENDING line holds. -/
def Latch.held : Latch → Option Descriptor
  | .armed => none
  | .pending d => some d
  | .outstanding => none

/-- The waiting field line of the lowest number. -/
def firstWaitingLine (s : State) : Option (LineNo × Descriptor) :=
  lineNos.findSome? fun l => (s.line l).latch.held.map fun d => (l, d)

/-- The place that a take frees goes to a waiting timer expiry, or else to a waiting line (R9, R20). -/
def givePlace (s : State) : State :=
  match firstWaitingTimer s with
  | some (n, d) => placeEvent (s.setWaiting n none) d
  | none =>
    match firstWaitingLine s with
    | some (l, d) =>
      placeEvent (s.setLine l { s.line l with latch := .outstanding, queued := (s.line l).queued + 1 }) d
    | none => s

/-- The take is reported to the line whose event it is (R10, R21). -/
def reportTaken (src : BitVec 6) (s : State) : State :=
  match lineOfSource src with
  | some l => lineTaken l s
  | none => s

/-! ## Lookup (R35, R36) -/

/-- Two values agree in every marked position. -/
def agrees {w : Nat} (care a b : BitVec w) : Bool := (a ^^^ b) &&& care = 0

def RouteEntry.fits (x : RouteEntry) (k : Key) : Bool :=
  agrees x.careSource k.source x.matchSource && agrees x.careClass k.cls x.matchClass &&
    agrees x.careCode k.code x.matchCode

/-- The bank of an entry (R33). -/
def bankOf (e : EntryNo) : BankNo := ⟨e.val / 8, by omega⟩

/-- The entry takes part in lookup and matches the key. -/
def hits (s : State) (k : Key) (e : EntryNo) : Bool :=
  (s.entries.get e).enabled && s.banks.get (bankOf e) = .opened && (s.entries.get e).fits k

def entryNos : List EntryNo := List.finRange 48

/-- The hit of an event of this key, if any. -/
def lookup (s : State) (k : Key) : Option EntryNo := entryNos.find? (hits s k)

/-- The route of an unrouted event under the UNROUTED strap SUPERVISOR (R40). -/
def supervisorRoute (s : State) : RouteEntry :=
  { entryAtReset with targets := (1#4) <<< s.sup.straps.supsel.val }

/-! ## The target decision (R41 to R43) -/

/-- The client a target resolves to, or none for a drop (R41). -/
def resolveTarget (s : State) (fallback : Option Client) (t : Client) : Option Client :=
  if (s.healthOf t).health.sound then some t
  else if (s.healthOf t).health = .restricted then
    some ((fallback.filter fun f => (s.healthOf f).health.sound && f ≠ t).getD t)
  else fallback.filter fun f => s.attached f && f ≠ t

/-- One target is decided: a drop is counted at once (R42), a resolved client is added to `rs`. -/
def decideTarget (x : RouteEntry) (k : Key) (p : State × List Client) (t : Client) : State × List Client :=
  if x.targets.getLsbD t.val then
    match resolveTarget p.1 x.fallback t with
    | some c => (p.1, c :: p.2)
    | none => (dropFor t k p.1, p.2)
  else p

/-- The state after the drops of the decision, and the resolved clients, distinct and ascending (R43). -/
def decideTargets (x : RouteEntry) (k : Key) (s : State) : State × List Client :=
  let p := clients.foldl (decideTarget x k) (s, [])
  (p.1, clients.filter fun c => p.2.contains c)

/-! ## The requests of a routing (R44 to R50) -/

/-- The request for client c (R44). -/
def requestFor (d : Descriptor) (x : RouteEntry) (hit : Hit) (m : RecMode) (c : Client) : StoreRequest where
  owner := c
  key := d.key
  priority := x.priority
  urgent := x.urgent
  mode := m
  hit := hit
  profile := x.profile
  fallback := x.fallback
  created := d.created
  payload := []

/-- One request per resolved client, in ascending order (R46). -/
def sendRequests (d : Descriptor) (x : RouteEntry) (hit : Hit) (m : RecMode) (rs : List Client) (s : State) : State :=
  rs.foldl (fun s c => routingRequest (requestFor d x hit m c) s) s

def groupNos : List GroupNo := List.finRange 32

/-- The lowest-numbered FREE group (R48). -/
def freeGroup (s : State) : Option GroupNo := groupNos.find? fun g => (s.groups.get g).isNone

/-- A group of which no copy was made ends at the close of the routing (R48). -/
def closeGroup (g : GroupNo) (k : Key) (s : State) : State :=
  match s.groups.get g with
  | some x => if x.live = 0 then endGroup g x k s else s
  | none => s

/-- The routing of an event whose FIRST entry `e` left the resolved clients `rs` (R48, R50). -/
def routeFirst (d : Descriptor) (x : RouteEntry) (e : EntryNo) (rs : List Client) (s : State) : State :=
  if 2 ≤ rs.length then
    match freeGroup s with
    | some g =>
      closeGroup g d.key (sendRequests d x (.entry e) (.first g) rs (s.setGroup g (some ⟨0, false, e⟩)))
    | none => sendRequests d x (.entry e) .each (rs.take 1) s
  else sendRequests d x (.entry e) .each rs s

/-- The event is routed by its hit `e`. -/
def routeByEntry (d : Descriptor) (e : EntryNo) (s : State) : State :=
  let x := s.entries.get e
  let p := decideTargets x d.key s
  match x.mode with
  | .each => sendRequests d x (.entry e) .each p.2 p.1
  | .first => routeFirst d x e p.2 p.1

/-- An unrouted event (R39, R40, R13). -/
def routeUnrouted (d : Descriptor) (s : State) : State :=
  match s.sup.straps.unrouted with
  | .drop => if d.key.isNotice then loseNotice s else s.setUnrouted (up16 s.unrouted)
  | .supervisor =>
    let x := supervisorRoute s
    let p := decideTargets x d.key s
    sendRequests d x .unrouted .each p.2 p.1

/-- The routing of one event, with the report at its end (R10, R22, R46); a FIRST group of which no copy was made has ended before
the report (the model's choice, log entry 38). -/
def routeEvent (d : Descriptor) (s : State) : State :=
  let s := match lookup s d.key with
    | some e => routeByEntry d e s
    | none => routeUnrouted d s
  reportDisposed d.key.source s

/-- RTE takes the head of the intake queue and routes it (R10); a hub that the routing has woken is examined when it is complete (R45,
R60; log entry 39). -/
def takeHead (s : State) : State :=
  match s.intake with
  | d :: rest => completeWake s.mode (routeEvent d (reportTaken d.key.source (givePlace (s.setIntake rest))))
  | [] => s

end Sys2Proof.Machine
end

