-- ==== Sys2Proof/Machine/TimeBase.lean ====
section
/-! DEFINITION. TMB and the timers it drives (R4): which timers count (R18, R26, R100, R111, R120, R126, R127, R131, R141), what
each expiry does, the passing of time with the gap limit (R160), and the moment of a millisecond tick (log entries 3 to 5). -/

namespace Sys2Proof.Machine

/-! ## Expiries -/

/-- A context timer runs out (R100). -/
def contextTimerExpires (c : Client) (k : ContextName) (s : State) : State :=
  let s := offerTimerEvent c k s
  let x := (s.contextsOf c).get k
  let x' : ContextState :=
    match x.timerMode with
    | .periodic => { x with left := x.reload }
    | .once => { x with timerMode := .off, left := 0 }
    | .off => { x with left := 0 }
  s.setContexts c ((s.contextsOf c).set k x')

/-- A client-reset pulse ends: the reset line is released (R127, R128). -/
def pulseExpires (c : Client) (s : State) : State :=
  s.setClientLines c { s.clientLinesOf c with resetLine := false, pulseLeft := 0 }

/-- The reset line of a client whose own pulse timer does not run is released (R131; log entry 22). -/
def releaseLine (s : State) (c : Client) : State := if (s.clientLinesOf c).pulseLeft = 0 then pulseExpires c s else s

/-- The common pulse of power-on and board reset ends (R131). -/
def boardPulseExpires (s : State) : State := clients.foldl releaseLine (s.setBoard { s.board with pulseLeft := 0 })

/-- The board-reset output is released (R126). -/
def boardOutputExpires (s : State) : State := s.setBoard { s.board with output := false, outputLeft := 0 }

/-- The spacing timer runs out (R141). -/
def spacingExpires (c : Client) (s : State) : State := s.setHealth c { s.healthOf c with spacingLeft := 0 }

/-- The stage timer of client c's PRESENTED record expires (R122, R123). -/
def stageExpires (c : Client) (s : State) : State :=
  match heldIn s c .presented with
  | some (i, r) =>
    match r.esc.map Escalation.stage with
    | some .deadline => deadlineExpires c i r s
    | some .delay => delayExpires c s
    | some .waiting => s
    | some .spent => s
    | none => s
  | none => s

/-! ## The timers -/

/-- The stage time remaining of client c's PRESENTED record, 0 when its timer does not count (R120). -/
def stageLeft (s : State) (c : Client) : Nat :=
  match (heldIn s c .presented).bind fun p => p.2.esc with
  | some e => if stageCounts s c e then e.left else 0
  | none => 0

/-- The time remaining of a timer that counts, 0 for one that does not. -/
def timerLeft (s : State) : Timer → Nat
  | .debounce l => (s.line l).debounceLeft
  | .repeatInterval l => (s.line l).repeatLeft
  | .context c k =>
    if s.mode ≠ .sleep ∧ (s.contextsOf c).active = k ∧ ((s.contextsOf c).get k).timerMode ≠ .off then
      ((s.contextsOf c).get k).left
    else 0
  | .holdOff c => if s.mode ≠ .sleep ∧ (s.contextsOf c).holdOff = true then (s.contextsOf c).holdOffLeft else 0
  | .stage c => stageLeft s c
  | .pulse c => (s.clientLinesOf c).pulseLeft
  | .boardPulse => s.board.pulseLeft
  | .boardOutput => s.board.outputLeft
  | .spacing c => if s.mode ≠ .sleep then (s.healthOf c).spacingLeft else 0

/-- The expiry of a timer. -/
def expire : Timer → State → State
  | .debounce l, s => acceptLevel l s
  | .repeatInterval l, s => repeatRunsOut l s
  | .context c k, s => contextTimerExpires c k s
  | .holdOff c, s => endHoldOff c s
  | .stage c, s => stageExpires c s
  | .pulse c, s => pulseExpires c s
  | .boardPulse, s => boardPulseExpires s
  | .boardOutput, s => boardOutputExpires s
  | .spacing c, s => spacingExpires c s

/-- The stage time remaining of client c's PRESENTED record is lowered by one. -/
def lowerStage (c : Client) (s : State) : State :=
  match heldIn s c .presented with
  | some (i, r) => s.setRecord i (some { r with esc := r.esc.map fun e => { e with left := e.left - 1 } })
  | none => s

/-- A timer that counts and has more than one tick left is lowered by one. -/
def lower : Timer → State → State
  | .debounce l, s => s.setLine l { s.line l with debounceLeft := (s.line l).debounceLeft - 1 }
  | .repeatInterval l, s => s.setLine l { s.line l with repeatLeft := (s.line l).repeatLeft - 1 }
  | .context c k, s =>
    let x := (s.contextsOf c).get k
    s.setContexts c ((s.contextsOf c).set k { x with left := x.left - 1 })
  | .holdOff c, s => s.setContexts c { s.contextsOf c with holdOffLeft := (s.contextsOf c).holdOffLeft - 1 }
  | .stage c, s => lowerStage c s
  | .pulse c, s => s.setClientLines c { s.clientLinesOf c with pulseLeft := (s.clientLinesOf c).pulseLeft - 1 }
  | .boardPulse, s => s.setBoard { s.board with pulseLeft := s.board.pulseLeft - 1 }
  | .boardOutput, s => s.setBoard { s.board with outputLeft := s.board.outputLeft - 1 }
  | .spacing c, s => s.setHealth c { s.healthOf c with spacingLeft := (s.healthOf c).spacingLeft - 1 }

/-- Every timer, in the order in which the model takes their expiries at one tick (log entry 3). -/
def timers : List Timer :=
  lineNos.map .debounce ++ lineNos.map .repeatInterval ++
  clients.flatMap (fun c => [.context c .operate, .context c .service]) ++ clients.map .holdOff ++ clients.map .stage ++
  clients.map .pulse ++ [.boardPulse, .boardOutput] ++ clients.map .spacing

/-! ## The passing of time -/

/-- The counter and the divider advance by `n` microseconds (R4). -/
def advanceTime (n : Nat) (s : State) : State :=
  s.setTime { s.time with counter := s.time.counter + BitVec.ofNat 32 n, divider := s.time.divider + n }

/-- Microseconds until link c's frame fails with GAP, when one is being received (R160). -/
def gapDue (s : State) (c : Client) : Option Nat :=
  if midFrame s c then some (Config.gapLimit - sinceByte s c) else none

/-- The link whose gap limit passes first, before `n` microseconds have gone; of limits that pass at one microsecond the lowest
link's is taken first (the model's choice, log entry 40). -/
def firstGap (s : State) (n : Nat) : Option (Client × Nat) :=
  clients.foldl (fun best c =>
    match gapDue s c with
    | some d => if d < (best.map Prod.snd).getD n then some (c, d) else best
    | none => best) none

/-- `n` microseconds pass within one millisecond; frames whose gap limit passes before their end fail at their moments, and a limit
that passes at their very end is left to what comes next (log entries 5 and 40). Each failure leaves one link fewer receiving a
frame, so `fuel` 4 suffices. -/
def passWithin : Nat → Nat → State → State
  | 0, n, s => advanceTime n s
  | fuel + 1, n, s =>
    match firstGap s n with
    | some (c, d) => passWithin fuel (n - d) (settle (gapFails c (advanceTime d s)))
    | none => advanceTime n s

/-- Microseconds until the next tick (R4). -/
def untilTick (s : State) : Nat := Config.tickMicros - s.time.divider

/-- Time passes to the next tick, whose moment begins: the divider starts again. -/
def reachTick (s : State) : State :=
  let t := passWithin 4 (untilTick s) s
  t.setTime { t.time with divider := 0 }

/-- A tick moment has begun: some of its timers have been taken (log entry 3). -/
def tickBegun (s : State) : Bool := !s.time.ticked.isEmpty

/-- The tick moment that has begun, or else the next one. -/
def tickMoment (s : State) : State := if tickBegun s then s else reachTick s

/-- The decreases of a tick that leave time remaining, for timers not yet taken at this tick. A timer that an
expiry command has started in this same moment counts here, and so has this tick's decrease (the model's choice, log entry 37). -/
def lowerTimers (s : State) : State :=
  (timers.filter fun t => 2 ≤ timerLeft s t && !(s.time.ticked.contains t)).foldl (fun s t => lower t s) s

/-- The timers that this tick brings to 0. -/
def expiring (s : State) : List Timer := timers.filter fun t => timerLeft s t = 1 && !(s.time.ticked.contains t)

/-- A timer expires at this tick if it still stands at its last tick. -/
def expireNow (s : State) (t : Timer) : State := if timerLeft s t = 1 then settle (expire t s) else s

/-- The tick moment: every timer that counts and has not been taken is decreased, and the tick is over (R4; log entry 3). A timer
that one of these expiries starts has no decrease of this tick (the model's choice, log entry 37). -/
def takeTick (s : State) : State :=
  let t := (expiring s).foldl expireNow (lowerTimers s)
  t.setTime { t.time with ticked := [] }

/-- MILLISECOND_TICK: the tick moment that has begun, or else the next one, is taken (R4). -/
def nextTick (s : State) : State := takeTick (tickMoment s)

/-- `n` microseconds pass, with the tick moments that come to their end before the last of them; a tick that falls at the very end
is left to what comes next (log entries 5 and 40). `fuel` bounds the ticks. -/
def pass : Nat → Nat → State → State
  | 0, _, s => s
  | fuel + 1, n, s =>
    if n = 0 then s
    else if tickBegun s then pass fuel n (takeTick s)
    else if n ≤ untilTick s then passWithin 4 n s
    else pass fuel (n - untilTick s) (nextTick s)

/-- Timer `t` counts and has one tick left, also at the tick moment it belongs to, where it has not been taken yet. -/
def stands (t : Timer) (s : State) : Bool :=
  timerLeft s t = 1 && !(s.time.ticked.contains t) && timerLeft (tickMoment s) t = 1

/-- An expiry command takes its timer at the tick moment it belongs to, when that timer stands there with one tick left: the moment
is begun if none is, and no other timer is taken (log entries 3, 4 and 37; a board reset that the expiry takes ends the moment, log
entry 41). Otherwise its event cannot occur, and nothing changes (log entry 23). -/
def expiryCommand (t : Timer) (s : State) : State :=
  if stands t s then
    let u := tickMoment s
    settle (expire t (u.setTime { u.time with ticked := t :: u.time.ticked }))
  else s

/-- GAP_TIMEOUT: no further byte comes on link c until its gap limit has passed, and its frame fails (R160); a tick that falls at
that very moment is left to what comes next (log entries 5 and 40). -/
def gapTimeout (c : Client) (s : State) : State :=
  match gapDue s c with
  | some d =>
    let u := pass 5 d s
    if midFrame u c && Config.gapLimit ≤ sinceByte u c then settle (gapFails c u) else u
  | none => s

/-- One microsecond passes (R4; log entry 2). A tick moment that has begun is completed instead, and a tick that this microsecond
brings, or that is due, is taken. -/
def idle (s : State) : State := if tickBegun s || untilTick s ≤ 1 then nextTick s else passWithin 4 1 s

end Sys2Proof.Machine
end

