-- ==== Sys2Proof/Machine/HubEvents.lean ====
section
/-! DEFINITION. The commands of the hub's own pins, of field lines, of the route engine, of the links' lines and of timers. -/

namespace Sys2Proof.Machine

/-! ## Power and the reset input -/

/-- POWER_ON (R175). -/
def execPowerOn (pins : PinLevels) (raw : BitVec 24) (s : State) : Host.Outcome State Fault Refusal :=
  .next (settle (powerOnReset pins raw s))

/-- A passage of the reset input to asserted (R176); an input already asserted makes none. -/
def assertResetInput (pins : PinLevels) (s : State) : State :=
  let t := s.setSup { s.sup with pins := pins, resetInput := true }
  if s.sup.resetInput || s.board.output then t else boardResetWith pins .pin none t

/-- RESET_INPUT_ASSERTED (R176). -/
def execResetInputAsserted (pins : PinLevels) (s : State) : Host.Outcome State Fault Refusal :=
  .next (settle (assertResetInput pins s))

/-- RESET_INPUT_RELEASE (R176). -/
def execResetInputRelease (s : State) : Host.Outcome State Fault Refusal :=
  .next (settle (s.setSup { s.sup with resetInput := false }))

/-! ## Field lines -/

/-- RAW_LEVEL_CHANGE (R18). -/
def execRawLevelChange (l : LineNo) (level : Bool) (s : State) : Host.Outcome State Fault Refusal :=
  .next (settle (changeRawLevel l level s))

/-- DEBOUNCE_EXPIRY (R18). -/
def execDebounceExpiry (l : LineNo) (s : State) : Host.Outcome State Fault Refusal :=
  .next (settle (expiryCommand (.debounce l) s))

/-- REPEAT_TIMER_EXPIRY (R26). -/
def execRepeatTimerExpiry (l : LineNo) (s : State) : Host.Outcome State Fault Refusal :=
  .next (settle (expiryCommand (.repeatInterval l) s))

/-! ## The route engine -/

/-- ROUTE_TAKE (R10). -/
def execRouteTake (s : State) : Host.Outcome State Fault Refusal := .next (settle (takeHead s))

/-! ## The links' lines -/

/-- RECEIVED_BYTE (R160). -/
def execReceivedByte (c : Client) (b : Byte) (s : State) : Host.Outcome State Fault Refusal :=
  .next (settle (receiveByte c b s))

/-- GAP_TIMEOUT (R160). -/
def execGapTimeout (c : Client) (s : State) : Host.Outcome State Fault Refusal := .next (settle (gapTimeout c s))

/-- TRANSMISSION_END (R165). -/
def execTransmissionEnd (c : Client) (s : State) : Host.Outcome State Fault Refusal := .next (settle (frameSent c s))

/-! ## Timers -/

/-- MILLISECOND_TICK (R4). -/
def execMillisecondTick (s : State) : Host.Outcome State Fault Refusal := .next (settle (nextTick s))

/-- CONTEXT_TIMER_EXPIRY (R100). -/
def execContextTimerExpiry (c : Client) (k : ContextName) (s : State) : Host.Outcome State Fault Refusal :=
  .next (settle (expiryCommand (.context c k) s))

/-- HOLD_OFF_EXPIRY (R111). -/
def execHoldOffExpiry (c : Client) (s : State) : Host.Outcome State Fault Refusal :=
  .next (settle (expiryCommand (.holdOff c) s))

/-- The stage of client c's PRESENTED record. -/
def stageOf (s : State) (c : Client) : Option Stage :=
  ((heldIn s c .presented).bind fun p => p.2.esc).map Escalation.stage

/-- DEADLINE_EXPIRY (R122). -/
def execDeadlineExpiry (c : Client) (s : State) : Host.Outcome State Fault Refusal :=
  .next (settle (if stageOf s c = some .deadline then expiryCommand (.stage c) s else s))

/-- DELAY_EXPIRY (R123). -/
def execDelayExpiry (c : Client) (s : State) : Host.Outcome State Fault Refusal :=
  .next (settle (if stageOf s c = some .delay then expiryCommand (.stage c) s else s))

/-- CLIENT_RESET_PULSE_EXPIRY (R127). -/
def execClientResetPulseExpiry (c : Client) (s : State) : Host.Outcome State Fault Refusal :=
  .next (settle (expiryCommand (.pulse c) s))

/-- BOARD_RESET_PULSE_EXPIRY (R131). -/
def execBoardResetPulseExpiry (s : State) : Host.Outcome State Fault Refusal :=
  .next (settle (expiryCommand .boardPulse s))

/-- BOARD_RESET_OUTPUT_EXPIRY (R126). -/
def execBoardResetOutputExpiry (s : State) : Host.Outcome State Fault Refusal :=
  .next (settle (expiryCommand .boardOutput s))

/-- SPACING_TIMER_EXPIRY (R141). -/
def execSpacingTimerExpiry (c : Client) (s : State) : Host.Outcome State Fault Refusal :=
  .next (settle (expiryCommand (.spacing c) s))

end Sys2Proof.Machine
end

