-- ==== Sys2Proof/Machine/Messages.lean ====
section
/-! DEFINITION. The requests that make events and records: RAISE (R15), POST (R147, R148), WITHDRAW (R151), SIGNAL (R154). -/

namespace Sys2Proof.Machine

/-! ## RAISE -/

/-- The key of a RAISE from client c (R2). -/
def raiseKey (c : Client) (cls : BitVec 4) (code : BitVec 12) : Key := ⟨BitVec.ofNat 6 (24 + c.val), cls, code⟩

/-- Steps 4 and 5 of R15. -/
def raiseEvent (c : Client) (cls : BitVec 4) (code : BitVec 12) (created : Micros) (s : State) : Answer :=
  if intakeFull s then refuse .backlog s
  else
    let t := placeEvent s ⟨raiseKey c cls code, created⟩
    (t, .ok, be32 created.toNat ++ [byte t.intake.length])

def ruleRaise (c : Client) (q : Request) (s : State) : Answer :=
  withPrivilege .raise c s <| withFields (parseRaise q.payload) s fun p =>
    whileAttached c s (raiseEvent c p.1 p.2 q.accepted s)

/-- RAISE (R15). -/
def execRaise (c : Client) (a : Arrival) (s : State) : Host.Outcome State Fault Refusal :=
  .next (serve c .raise a (ruleRaise c) s)

/-! ## POST -/

/-- The key of a post from client c in slot n (R2). -/
def postKey (c : Client) (n : SlotNo) : Key := ⟨BitVec.ofNat 6 (37 + c.val), 12, BitVec.ofNat 12 n.val⟩

/-- The post request of R148. -/
def postRequest (c : Client) (n : SlotNo) (f : PostFields) (created : Micros) (s : State) : StoreRequest where
  owner := f.target
  key := postKey c n
  priority := f.priority
  urgent := f.urgent
  mode := .each
  hit := .direct
  profile := (s.postsOf f.target).postProfile
  fallback := none
  created := created
  payload := f.payload

/-- The lowest-numbered EMPTY slot of client c (R147 step 6). -/
def emptySlot (s : State) (c : Client) : Option SlotNo := slotNos.find? fun n => (s.postsOf c).slots.get n = .empty

/-- Steps 4 to 7 of R147. -/
def post (c : Client) (f : PostFields) (created : Micros) (s : State) : Answer :=
  if s.attached f.target = false then refuse .detached s
  else
    match emptySlot s c with
    | none => refuse .noSlot s
    | some n =>
      match grantedIndex s f.target with
      | none => refuse .poolFull s
      | some i =>
        let t := makeAt i (postRequest c n f created s) s
        (entered f.target (setPostSlot c n (.waiting f.target (t.handleAt i)) t), .ok, [byte n.val])

def rulePost (c : Client) (q : Request) (s : State) : Answer :=
  withPrivilege .post c s <| withFields (parsePost c q.payload) s fun f => whileAttached c s (post c f q.accepted s)

/-- POST (R147). -/
def execPost (c : Client) (a : Arrival) (s : State) : Host.Outcome State Fault Refusal :=
  .next (serve c .post a (rulePost c) s)

/-! ## WITHDRAW -/

/-- Steps 4 to 6 of R151. -/
def withdraw (c : Client) (n : SlotNo) (s : State) : Answer :=
  match (s.postsOf c).slots.get n with
  | .empty => refuse .notWaiting s
  | .orphaned _ _ => refuse .notWaiting s
  | .waiting t h =>
    match namedRecord s t .queued h with
    | some r => refuse .withdrawn (freeRecord h.index r .other s)
    | none => refuse .tooLate s

def ruleWithdraw (c : Client) (q : Request) (s : State) : Answer :=
  withPrivilege .post c s <| withFields (parseIndex 4 q.payload) s fun n => whileAttached c s (withdraw c n s)

/-- WITHDRAW (R151). -/
def execWithdraw (c : Client) (a : Arrival) (s : State) : Host.Outcome State Fault Refusal :=
  .next (serve c .withdraw a (ruleWithdraw c) s)

/-! ## SIGNAL -/

/-- The key of every signal record (R153). -/
def signalKey : Key := ⟨41, 13, 0⟩

/-- The signal request of R154 step 6. -/
def signalRequest (f : SignalFields) (created : Micros) (s : State) : StoreRequest where
  owner := f.target
  key := signalKey
  priority := f.priority
  urgent := f.urgent
  mode := .each
  hit := .direct
  profile := (s.postsOf f.target).signalProfile
  fallback := none
  created := created
  payload := []

/-- Flags join client t's pending set (R154). -/
def joinFlags (t : Client) (f : FlagSet) (s : State) : State := setPendingFlags t ((s.postsOf t).pendingFlags ||| f) s

/-- Steps 4 to 7 of R154; the flags are in the pending set before the examinations that the store's report leads to
(log entry 19). -/
def signal (f : SignalFields) (created : Micros) (s : State) : Answer :=
  if s.attached f.target = false then refuse .detached s
  else
    match sameKeyRecord s f.target signalKey none with
    | some (i, r) => (coalesce i r f.priority f.urgent (joinFlags f.target f.flags s), .ok, [1])
    | none =>
      match grantedIndex s f.target with
      | some i =>
        let t := setPendingFlags f.target f.flags (makeAt i (signalRequest f created s) s)
        (entered f.target t, .ok, [0])
      | none => refuse .poolFull s

def ruleSignal (c : Client) (q : Request) (s : State) : Answer :=
  withPrivilege .post c s <| withFields (parseSignal c q.payload) s fun f => whileAttached c s (signal f q.accepted s)

/-- SIGNAL (R154). -/
def execSignal (c : Client) (a : Arrival) (s : State) : Host.Outcome State Fault Refusal :=
  .next (serve c .signal a (ruleSignal c) s)

end Sys2Proof.Machine
end

