-- ==== Sys2Proof/Machine/Configuration.lean ====
section
/-! DEFINITION. The configuration requests: ROUTE_WRITE (R51), BANK_SET (R38), LINE_SET (R28), PROFILE_SET (R118),
CLIENT_SET (R167). -/

namespace Sys2Proof.Machine

/-- The checks every configuration request begins with (R166): CONFIGURE, FROZEN, the fields, and the DETACHED check. -/
def configure {α : Type} (c : Client) (fields : Option α) (s : State) (rest : α → Answer) : Answer :=
  withPrivilege .configure c s <| unlessFrozen s <| withFields fields s fun x => whileAttached c s (rest x)

/-! ## ROUTE_WRITE -/

/-- Steps 5 and 6 of R51. -/
def writeEntry (e : EntryNo) (x : RouteEntry) (s : State) : Answer :=
  if s.banks.get (bankOf e) = .opened then refuse .bankOpen s else accept (s.setEntry e x)

def ruleRouteWrite (c : Client) (q : Request) (s : State) : Answer :=
  configure c (parseRouteWrite q.payload) s fun p => writeEntry p.1 p.2 s

/-- ROUTE_WRITE (R51). -/
def execRouteWrite (c : Client) (a : Arrival) (s : State) : Host.Outcome State Fault Refusal :=
  .next (serve c .routeWrite a (ruleRouteWrite c) s)

/-! ## BANK_SET -/

/-- The states of banks 0 to 5 (R38). -/
def bankFields (s : State) : List Byte := s.banks.data.map fun b => byte b.code

def ruleBankSet (c : Client) (q : Request) (s : State) : Answer :=
  configure c (parseBankSet q.payload) s fun p => (s.setBank p.1 p.2, .ok, bankFields (s.setBank p.1 p.2))

/-- BANK_SET (R38). -/
def execBankSet (c : Client) (a : Arrival) (s : State) : Host.Outcome State Fault Refusal :=
  .next (serve c .bankSet a (ruleBankSet c) s)

/-! ## LINE_SET -/

def ruleLineSet (c : Client) (q : Request) (s : State) : Answer :=
  configure c (parseLineSet q.payload) s fun f =>
    let t := configureLine f.line f.config f.clearGroup s
    (t, .ok, [byte (t.line f.line).latch.code])

/-- LINE_SET (R28). -/
def execLineSet (c : Client) (a : Arrival) (s : State) : Host.Outcome State Fault Refusal :=
  .next (serve c .lineSet a (ruleLineSet c) s)

/-! ## PROFILE_SET -/

def ruleProfileSet (c : Client) (q : Request) (s : State) : Answer :=
  configure c (parseProfileSet q.payload) s fun p => accept (s.setProfile p.1 p.2)

/-- PROFILE_SET (R118). -/
def execProfileSet (c : Client) (a : Arrival) (s : State) : Host.Outcome State Fault Refusal :=
  .next (serve c .profileSet a (ruleProfileSet c) s)

/-! ## CLIENT_SET -/

def setPrivileges (c : Client) (p : PrivilegeSet) (s : State) : State :=
  s.setSup { s.sup with privileges := s.sup.privileges.set c p }

/-- The five settings of the named client are replaced (R167). -/
def setClient (f : ClientSetFields) (s : State) : State :=
  let s := setPrivileges f.client f.privileges s
  let s := s.setContexts f.client { s.contextsOf f.client with holdOffTime := f.holdOffTime }
  let s := s.setClientLines f.client { s.clientLinesOf f.client with pulseWidth := f.pulseWidth }
  s.setPosts f.client { s.postsOf f.client with postProfile := f.postProfile, signalProfile := f.signalProfile }

def ruleClientSet (c : Client) (q : Request) (s : State) : Answer :=
  configure c (parseClientSet s.sup.straps.supsel q.payload) s fun f => accept (setClient f s)

/-- CLIENT_SET (R167). -/
def execClientSet (c : Client) (a : Arrival) (s : State) : Host.Outcome State Fault Refusal :=
  .next (serve c .clientSet a (ruleClientSet c) s)

end Sys2Proof.Machine
end

