-- ==== Sys2Proof/Machine/HealthRequests.lean ====
section
/-! DEFINITION. HLT's requests and FORCE: HEARTBEAT (R142), REJOIN (R141), FORCE ATTACH and DETACH (R144), FORCE RESET (R130). -/

namespace Sys2Proof.Machine

/-! ## HEARTBEAT -/

/-- The table of R142. -/
def heartbeat (c : Client) (s : State) : State :=
  let x := s.healthOf c
  if x.health = .rejoining ∧ x.spacingLeft = 0 then
    if Config.rejoinBeats ≤ x.rejoin + 1 then completeRejoin c s
    else s.setHealth c { x with rejoin := x.rejoin + 1, spacingLeft := Config.spacingMs }
  else s

/-- Health state, score and rejoin count (R142, R168, R169). -/
def healthFields (s : State) (c : Client) : List Byte :=
  [byte (s.healthOf c).health.code, byte (s.healthOf c).score, byte (s.healthOf c).rejoin]

def ruleHeartbeat (c : Client) (q : Request) (s : State) : Answer :=
  withFields (parseEmpty q.payload) s fun _ => (heartbeat c s, .ok, healthFields (heartbeat c s) c)

/-- HEARTBEAT (R142). -/
def execHeartbeat (c : Client) (a : Arrival) (s : State) : Host.Outcome State Fault Refusal :=
  .next (serve c .heartbeat a (ruleHeartbeat c) s)

/-! ## REJOIN -/

/-- Steps 2 and 3 of R141. -/
def rejoin (c : Client) (s : State) : Answer :=
  let x := s.healthOf c
  if x.health = .detached then
    accept (s.setHealth c { x with health := .rejoining, rejoin := 0, spacingLeft := Config.spacingMs })
  else refuse .notDetached s

def ruleRejoin (c : Client) (q : Request) (s : State) : Answer :=
  withFields (parseEmpty q.payload) s fun _ => rejoin c s

/-- REJOIN (R141). -/
def execRejoin (c : Client) (a : Arrival) (s : State) : Host.Outcome State Fault Refusal :=
  .next (serve c .rejoin a (ruleRejoin c) s)

/-! ## FORCE -/

/-- FORCE ATTACH of client d (R144). -/
def forceAttach (d : Client) (s : State) : Answer :=
  if s.attached d then refuse .notDetached s else accept (completeRejoin d s)

def ruleForceAttach (c : Client) (q : Request) (s : State) : Answer :=
  withPrivilege .control c s <| withFields (parseForceAttach q.payload) s fun d => whileAttached c s (forceAttach d s)

/-- FORCE_ATTACH (R144). -/
def execForceAttach (c : Client) (a : Arrival) (s : State) : Host.Outcome State Fault Refusal :=
  .next (serveForce c 0 a (ruleForceAttach c) s)

/-- FORCE DETACH of client d (R144). -/
def forceDetach (d : Client) (s : State) : Answer :=
  if s.attached d then accept (detach d s) else refuse .same s

def ruleForceDetach (c : Client) (q : Request) (s : State) : Answer :=
  withPrivilege .control c s <| withFields (parseForceDetach s.sup.straps.supsel q.payload) s fun d =>
    whileAttached c s (forceDetach d s)

/-- FORCE_DETACH (R144). -/
def execForceDetach (c : Client) (a : Arrival) (s : State) : Host.Outcome State Fault Refusal :=
  .next (serveForce c 1 a (ruleForceDetach c) s)

def ruleForceReset (c : Client) (q : Request) (s : State) : Answer :=
  withPrivilege .control c s <| withFields (parseForceReset c q.payload) s fun d =>
    whileAttached c s (accept (clientReset d .forced s))

/-- FORCE_RESET (R130). -/
def execForceReset (c : Client) (a : Arrival) (s : State) : Host.Outcome State Fault Refusal :=
  .next (serveForce c 2 a (ruleForceReset c) s)

end Sys2Proof.Machine
end

