-- ==== Sys2Proof/Machine/Reads.lean ====
section
/-! DEFINITION. The requests that read: QUERY (R169), ROUTE_READ (R52), LINE_READ (R30), PROFILE_READ (R119), CLIENT_READ (R168),
STATUS (R183). None changes state. -/

namespace Sys2Proof.Machine

/-! ## QUERY -/

/-- The handle of client c's PRESENTED record. -/
def presentedHandle (s : State) (c : Client) : Option Handle := (presentedOf s c).map s.handleAt

/-- Stage, stage time remaining, and the expired and asserting items of client c's PRESENTED record (R169). -/
def stageFields (s : State) (c : Client) : List Byte :=
  match (heldIn s c .presented).bind fun p => p.2.esc with
  | some e =>
    byte e.stage.code :: be16 e.left ++ [byte ((if e.expired then 1 else 0) + if e.asserting then 2 else 0)]
  | none => [0, 0, 0, 0]

/-- The flags of client c's PRESENTED or SUSPENDED signal records (R153). -/
def inDelivery (s : State) (c : Client) : FlagSet :=
  s.pool.data.foldl (fun f p =>
    match p.held.filter fun r => r.owner = c && r.key.isSignal && r.state ≠ .queued with
    | some r => f ||| r.flags
    | none => f) 0

/-- The result fields of QUERY (R169). -/
def queryFields (s : State) (c : Client) : List Byte :=
  healthFields s c ++
  [bit (s.presentationOf c).ready, byte (contextCode (s.contextsOf c).active), bit (s.contextsOf c).holdOff] ++
  handleBytes (presentedHandle s c) ++ stageFields s c ++ handleBytes (s.contextsOf c).suspended ++
  handleBytes (s.presentationOf c).lastRecalled ++
  [byte (queuedCount s c), byte (heldCount s c), byte (s.dropsOf c).sinceReady] ++ be16 (s.dropsOf c).total ++
  (s.postsOf c).slots.data.map (fun x => byte x.code) ++ be16 (s.postsOf c).pendingFlags.toNat ++
  be16 (inDelivery s c).toNat

def ruleQuery (c : Client) (q : Request) (s : State) : Answer :=
  withFields (parseEmpty q.payload) s fun _ => (s, .ok, queryFields s c)

/-- QUERY (R169). -/
def execQuery (c : Client) (a : Arrival) (s : State) : Host.Outcome State Fault Refusal :=
  .next (serve c .query a (ruleQuery c) s)

/-! ## ROUTE_READ -/

/-- The number of IN_USE groups (R47). -/
def groupsInUse (s : State) : Nat := s.groups.data.countP Option.isSome

def routeReadFields (s : State) (e : EntryNo) : List Byte :=
  entryBytes e (s.entries.get e) ++ [byte (s.banks.get (bankOf e)).code, byte (groupsInUse s)]

def ruleRouteRead (c : Client) (q : Request) (s : State) : Answer :=
  withFields (parseIndex 48 q.payload) s fun e => whileAttached c s (s, .ok, routeReadFields s e)

/-- ROUTE_READ (R52). -/
def execRouteRead (c : Client) (a : Arrival) (s : State) : Host.Outcome State Fault Refusal :=
  .next (serve c .routeRead a (ruleRouteRead c) s)

/-! ## LINE_READ -/

/-- The result fields of LINE_READ (R30). -/
def lineReadFields (s : State) (l : LineNo) : List Byte :=
  let x := s.line l
  [byte x.config.mode.code, byte x.config.polarity.code, byte x.config.debounce, byte x.config.interval,
   byte x.config.cls.toNat] ++ be16 x.config.code.toNat ++
  [bit x.raw, bit x.accepted, bit x.active, byte x.debounceLeft, byte x.latch.code, byte x.queued, bit x.disposed,
   byte x.repeatLeft, byte (s.masked.get (lineGroup l))]

def ruleLineRead (c : Client) (q : Request) (s : State) : Answer :=
  withFields (parseIndex 24 q.payload) s fun l => whileAttached c s (s, .ok, lineReadFields s l)

/-- LINE_READ (R30). -/
def execLineRead (c : Client) (a : Arrival) (s : State) : Host.Outcome State Fault Refusal :=
  .next (serve c .lineRead a (ruleLineRead c) s)

/-! ## PROFILE_READ -/

/-- The result fields of PROFILE_READ (R119). -/
def profileReadFields (p : Profile) : List Byte := be16 p.deadline ++ [byte p.action.code, byte p.delayCode.val]

def ruleProfileRead (c : Client) (q : Request) (s : State) : Answer :=
  withFields (parseIndex 4 q.payload) s fun p => whileAttached c s (s, .ok, profileReadFields (s.profiles.get p))

/-- PROFILE_READ (R119). -/
def execProfileRead (c : Client) (a : Arrival) (s : State) : Host.Outcome State Fault Refusal :=
  .next (serve c .profileRead a (ruleProfileRead c) s)

/-! ## CLIENT_READ -/

/-- The privilege byte (R167). -/
def PrivilegeSet.code (p : PrivilegeSet) : Nat :=
  (if p.configure then 1 else 0) + (if p.control then 2 else 0) + (if p.post then 4 else 0) + (if p.raise then 8 else 0)

/-- The result fields of CLIENT_READ (R168). -/
def clientReadFields (s : State) (d : Client) : List Byte :=
  [byte d.val, byte (s.sup.privileges.get d).code, byte (s.clientLinesOf d).pulseWidth,
   byte (s.postsOf d).postProfile.val, byte (s.postsOf d).signalProfile.val] ++
  be16 (s.contextsOf d).holdOffTime ++ healthFields s d ++
  [bit (s.presentationOf d).ready, byte (contextCode (s.contextsOf d).active), byte (heldCount s d),
   byte (queuedCount s d), byte (s.dropsOf d).sinceReady] ++ be16 (s.dropsOf d).total ++
  [byte (s.clientLinesOf d).lastCause.code, bit (s.clientLinesOf d).resetLine, bit (s.clientLinesOf d).attention] ++
  be16 (s.link d).frameErrors ++ be16 (s.link d).overruns ++ be16 (s.link d).gaps

def ruleClientRead (c : Client) (q : Request) (s : State) : Answer :=
  withFields (parseIndex 4 q.payload) s fun d => whileAttached c s (s, .ok, clientReadFields s d)

/-- CLIENT_READ (R168). -/
def execClientRead (c : Client) (a : Arrival) (s : State) : Host.Outcome State Fault Refusal :=
  .next (serve c .clientRead a (ruleClientRead c) s)

/-! ## STATUS -/

/-- A client of the cause record, 255 for none (R177). -/
def clientByte : Option Client → Byte
  | some c => byte c.val
  | none => 255

/-- The result fields of STATUS (R183). -/
def statusFields (s : State) : List Byte :=
  [byte s.mode.code, bit s.sup.frozen, byte s.sup.cause.kind.code, clientByte s.sup.cause.client,
   byte s.sup.cause.count] ++ be32 s.sup.note.toNat ++ [byte (freeCount s), byte s.intake.length] ++
  be16 s.lostNotices ++ be16 s.unrouted ++
  [byte s.sup.straps.supsel.val, byte (unroutedCode s.sup.straps.unrouted), byte (lineDefCode s.sup.straps.lineDef),
   byte (rateCode s.sup.straps.rate)]

def ruleStatus (c : Client) (q : Request) (s : State) : Answer :=
  withFields (parseEmpty q.payload) s fun _ => whileAttached c s (s, .ok, statusFields s)

/-- STATUS (R183). -/
def execStatus (c : Client) (a : Arrival) (s : State) : Host.Outcome State Fault Refusal :=
  .next (serve c .status a (ruleStatus c) s)

end Sys2Proof.Machine
end

