-- ==== Sys2Proof/Machine/SupervisionRequests.lean ====
section
/-! DEFINITION. SUP's requests: FREEZE (R182), SLEEP and WAKE (R180), RESET_HUB (R178), NOTE_SET (R179). -/

namespace Sys2Proof.Machine

/-! ## FREEZE -/

def ruleFreeze (c : Client) (q : Request) (s : State) : Answer :=
  withPrivilege .configure c s <| unlessFrozen s <| withFields (parseEmpty q.payload) s fun _ =>
    whileAttached c s (accept (s.setSup { s.sup with frozen := true }))

/-- FREEZE (R182). -/
def execFreeze (c : Client) (a : Arrival) (s : State) : Host.Outcome State Fault Refusal :=
  .next (serve c .freeze a (ruleFreeze c) s)

/-! ## SLEEP and WAKE -/

/-- SLEEP in each mode (R180); it is never taken in SLEEP. -/
def sleepRequest (s : State) : Answer :=
  match s.mode with
  | .run => accept (setMode .sleepPending s)
  | .sleepPending => refuse .same s
  | .sleep => refuse .same s

def ruleSleep (c : Client) (q : Request) (s : State) : Answer :=
  withPrivilege .control c s <| withFields (parseEmpty q.payload) s fun _ => whileAttached c s (sleepRequest s)

/-- SLEEP (R180). -/
def execSleep (c : Client) (a : Arrival) (s : State) : Host.Outcome State Fault Refusal :=
  .next (serve c .sleep a (ruleSleep c) s)

/-- WAKE in each mode (R180); it is never taken in SLEEP. -/
def wakeRequest (s : State) : Answer :=
  match s.mode with
  | .sleepPending => accept (examineAll (setMode .run s))
  | .run => refuse .same s
  | .sleep => refuse .same s

def ruleWake (c : Client) (q : Request) (s : State) : Answer :=
  withPrivilege .control c s <| withFields (parseEmpty q.payload) s fun _ => whileAttached c s (wakeRequest s)

/-- WAKE (R180). -/
def execWake (c : Client) (a : Arrival) (s : State) : Host.Outcome State Fault Refusal :=
  .next (serve c .wake a (ruleWake c) s)

/-! ## RESET_HUB -/

def ruleResetHub (c : Client) (q : Request) (s : State) : Answer :=
  withPrivilege .control c s <| withFields (parseEmpty q.payload) s fun _ =>
    whileAttached c s (accept (s.setSup { s.sup with resetPending := some c }))

/-- RESET_HUB (R178). -/
def execResetHub (c : Client) (a : Arrival) (s : State) : Host.Outcome State Fault Refusal :=
  .next (serve c .resetHub a (ruleResetHub c) s)

/-! ## NOTE_SET -/

def ruleNoteSet (c : Client) (q : Request) (s : State) : Answer :=
  withPrivilege .control c s <| withFields (parseNoteSet q.payload) s fun v =>
    whileAttached c s (s.setSup { s.sup with note := v }, .ok, be32 s.sup.note.toNat)

/-- NOTE_SET (R179). -/
def execNoteSet (c : Client) (a : Arrival) (s : State) : Host.Outcome State Fault Refusal :=
  .next (serve c .noteSet a (ruleNoteSet c) s)

end Sys2Proof.Machine
end

