-- ==== Sys2Proof/Machine/Dispatch.lean ====
section
/-! DEFINITION. The meaning of every command, one arm each. -/

namespace Sys2Proof.Machine

def exec (i : Instr) (s : State) : Host.Outcome State Fault Refusal :=
  match i with
  | .powerOn pins raw => Sys2Proof.Machine.execPowerOn pins raw s
  | .resetInputAsserted pins => Sys2Proof.Machine.execResetInputAsserted pins s
  | .millisecondTick => Sys2Proof.Machine.execMillisecondTick s
  | .rawLevelChange l level => Sys2Proof.Machine.execRawLevelChange l level s
  | .debounceExpiry l => Sys2Proof.Machine.execDebounceExpiry l s
  | .repeatTimerExpiry l => Sys2Proof.Machine.execRepeatTimerExpiry l s
  | .contextTimerExpiry c k => Sys2Proof.Machine.execContextTimerExpiry c k s
  | .routeTake => Sys2Proof.Machine.execRouteTake s
  | .holdOffExpiry c => Sys2Proof.Machine.execHoldOffExpiry c s
  | .deadlineExpiry c => Sys2Proof.Machine.execDeadlineExpiry c s
  | .delayExpiry c => Sys2Proof.Machine.execDelayExpiry c s
  | .clientResetPulseExpiry c => Sys2Proof.Machine.execClientResetPulseExpiry c s
  | .boardResetPulseExpiry => Sys2Proof.Machine.execBoardResetPulseExpiry s
  | .boardResetOutputExpiry => Sys2Proof.Machine.execBoardResetOutputExpiry s
  | .spacingTimerExpiry c => Sys2Proof.Machine.execSpacingTimerExpiry c s
  | .receivedByte c b => Sys2Proof.Machine.execReceivedByte c b s
  | .gapTimeout c => Sys2Proof.Machine.execGapTimeout c s
  | .transmissionEnd c => Sys2Proof.Machine.execTransmissionEnd c s
  | .ready c a => Sys2Proof.Machine.execReady c a s
  | .ack c a => Sys2Proof.Machine.execAck c a s
  | .exchange c a => Sys2Proof.Machine.execExchange c a s
  | .contextSet c a => Sys2Proof.Machine.execContextSet c a s
  | .timerSet c a => Sys2Proof.Machine.execTimerSet c a s
  | .raise c a => Sys2Proof.Machine.execRaise c a s
  | .post c a => Sys2Proof.Machine.execPost c a s
  | .withdraw c a => Sys2Proof.Machine.execWithdraw c a s
  | .signal c a => Sys2Proof.Machine.execSignal c a s
  | .heartbeat c a => Sys2Proof.Machine.execHeartbeat c a s
  | .rejoin c a => Sys2Proof.Machine.execRejoin c a s
  | .query c a => Sys2Proof.Machine.execQuery c a s
  | .routeWrite c a => Sys2Proof.Machine.execRouteWrite c a s
  | .bankSet c a => Sys2Proof.Machine.execBankSet c a s
  | .lineSet c a => Sys2Proof.Machine.execLineSet c a s
  | .profileSet c a => Sys2Proof.Machine.execProfileSet c a s
  | .clientSet c a => Sys2Proof.Machine.execClientSet c a s
  | .routeRead c a => Sys2Proof.Machine.execRouteRead c a s
  | .lineRead c a => Sys2Proof.Machine.execLineRead c a s
  | .profileRead c a => Sys2Proof.Machine.execProfileRead c a s
  | .clientRead c a => Sys2Proof.Machine.execClientRead c a s
  | .forceAttach c a => Sys2Proof.Machine.execForceAttach c a s
  | .forceDetach c a => Sys2Proof.Machine.execForceDetach c a s
  | .forceReset c a => Sys2Proof.Machine.execForceReset c a s
  | .freeze c a => Sys2Proof.Machine.execFreeze c a s
  | .sleep c a => Sys2Proof.Machine.execSleep c a s
  | .wake c a => Sys2Proof.Machine.execWake c a s
  | .resetHub c a => Sys2Proof.Machine.execResetHub c a s
  | .noteSet c a => Sys2Proof.Machine.execNoteSet c a s
  | .status c a => Sys2Proof.Machine.execStatus c a s
  | .resetInputRelease => Sys2Proof.Machine.execResetInputRelease s

end Sys2Proof.Machine
end

