-- ==== Sys2Proof/Safety.lean ====
section
/-! DEFINITION. The words the statements are written in: runs, a request being taken and answered, the layouts of request
payloads, the moment of a timer's expiry, the hub fresh from a reset, what FROZEN locks, and the capacities of the queues. -/

namespace Sys2Proof.Safety

open Sys2Proof.Machine

/-! ## Runs -/

/-- The step at `s` answers a next state. -/
def Goes (s : State) : Prop := ∃ t, step s = .next t

/-- `t` is reached from `s` by steps that each answer a next state. -/
inductive Reaches : State → State → Prop where
  | start (s : State) : Reaches s s
  | more {s t u : State} : Reaches s t → step t = .next u → Reaches s u

/-- No state reached from `s` stops with a fault or a refusal. -/
def Safe (s : State) : Prop := ∀ t, Reaches s t → Goes t

/-- A property that every step keeps. -/
def Kept (p : State → Prop) : Prop := ∀ s t, p s → step s = .next t → p t

/-! ## Requests -/

/-- Link c takes the request `q` of kind `k`, which has arrived as `a` says, and no RESET_HUB is pending; `u` is the state its
rule then finds: `q`, the oldest accepted request of link c, has left its place (R162, R178). -/
def Takes (s : State) (c : Client) (k : RequestKind) (a : Arrival) (q : Request) (u : State) : Prop :=
  q.kind = k ∧ (arrive c k a s).sup.resetPending = none ∧
    ∃ rest, ((arrive c k a s).link c).requests = q :: rest ∧
      u = (arrive c k a s).setLink c { (arrive c k a s).link c with requests := rest }

/-- The reply to `q` is placed, and what every command ends with follows (R163, R165, R181). -/
def replied (c : Client) (q : Request) (st : Status) (res : List Byte) (u : State) : State :=
  settle (placeReply c ⟨q.tag, kindByte q.kind, st, res⟩ u)

/-- The first check that fails gives the reply, without result fields; when none fails the outcome is `done` (R166). -/
def judged (c : Client) (q : Request) (u : State) (checks : List (Bool × Status)) (done : State) : State :=
  match checks.find? fun x => x.1 with
  | some x => replied c q x.2 [] u
  | none => done

/-! ## Layouts of request payloads -/

/-- ACK (R84). -/
def ackBytes (h : Handle) (d : Disposition) : List Byte :=
  [byte h.index.val, h.gen, match d with | .done => 0 | .decline => 1]

/-- CONTEXT_SET (R99). -/
def contextSetBytes (k : ContextName) (classes : FlagSet) (threshold : Priority) : List Byte :=
  byte (contextCode k) :: be16 classes.toNat ++ [byte threshold.val]

/-- The table of R101. -/
def Allowed (x : TimerSetting) : Prop :=
  match x.mode with
  | .off => x.time = 0 ∧ x.reload = 0
  | .once => (0 < x.time ∧ x.time < 2 ^ 24) ∧ x.reload = 0
  | .periodic => (0 < x.time ∧ x.time < 2 ^ 24) ∧ 0 < x.reload ∧ x.reload < 2 ^ 24

/-- TIMER_SET (R101). -/
def timerSetBytes (k : ContextName) (x : TimerSetting) : List Byte :=
  [byte (contextCode k), match x.mode with | .off => 0 | .once => 1 | .periodic => 2] ++ be24 x.time ++ be24 x.reload

/-- POST (R147). -/
def postBytes (f : PostFields) : List Byte := [byte f.target.val, byte f.priority.val, bit f.urgent] ++ f.payload

/-- SIGNAL (R154). -/
def signalBytes (f : SignalFields) : List Byte :=
  [byte f.target.val, byte f.priority.val, bit f.urgent] ++ be16 f.flags.toNat

/-- LINE_SET (R28). -/
def lineSetBytes (f : LineSetFields) : List Byte :=
  [byte f.line.val, byte f.config.mode.code, byte f.config.polarity.code, byte f.config.debounce, byte f.config.interval,
   byte f.config.cls.toNat] ++ be16 f.config.code.toNat ++ [bit f.clearGroup]

/-- The values LINE_SET admits (R28): debounce 0 to 255 ms, repeat interval 1 to 255 ms, class 0 to 11. -/
def LineSettable (x : LineConfig) : Prop :=
  x.debounce ≤ 255 ∧ 1 ≤ x.interval ∧ x.interval ≤ 255 ∧ x.cls.toNat ≤ 11

/-- PROFILE_SET (R118). -/
def profileSetBytes (p : ProfileNo) (x : Profile) : List Byte :=
  byte p.val :: be16 x.deadline ++ [byte x.action.code, byte x.delayCode.val]

/-- The privilege byte: from the least significant position CONFIGURE, CONTROL, POST, RAISE (R167). -/
def privilegeByte (p : PrivilegeSet) : Byte :=
  byte ((if p.configure then 1 else 0) + (if p.control then 2 else 0) + (if p.post then 4 else 0) +
    if p.raise then 8 else 0)

/-- CLIENT_SET (R167). -/
def clientSetBytes (f : ClientSetFields) : List Byte :=
  [byte f.client.val, privilegeByte f.privileges] ++ be16 f.holdOffTime ++
    [byte f.pulseWidth, byte f.postProfile.val, byte f.signalProfile.val]

/-- The values CLIENT_SET admits, under the supervising client `sup` (R167). -/
def ClientSettable (sup : Client) (f : ClientSetFields) : Prop :=
  f.holdOffTime ≤ 1000 ∧ 1 ≤ f.pulseWidth ∧ f.pulseWidth ≤ 255 ∧
    (f.client = sup → f.privileges = ⟨true, true, true, true⟩)

/-! ## Timers (R4) -/

/-- The tick moment that has begun, or else the next one (log entry 3). -/
def moment (s : State) : State := tickMoment s

/-- Timer `t` has had its decrease of this tick moment. -/
def marked (t : Timer) (u : State) : State := u.setTime { u.time with ticked := t :: u.time.ticked }

/-- The escalation state of client c's PRESENTED record. -/
def escOf (s : State) (c : Client) : Option Escalation := (heldIn s c .presented).bind fun p => p.2.esc

/-- When a timer counts: a context timer while its context is active and its mode is not OFF (R100), hold-off while it is set (R111), a
stage in DEADLINE or DELAY once the DELIVER frame has been sent (R120, R121), a spacing timer (R141), none of these in SLEEP; the
others in every hub mode (R18, R26, R31, R126, R127, R131). -/
def Counts (s : State) : Timer → Prop
  | .debounce _ => True
  | .repeatInterval _ => True
  | .context c .operate => s.sup.mode ≠ .sleep ∧ (s.contextsOf c).active = .operate ∧ (s.contextsOf c).operate.timerMode ≠ .off
  | .context c .service => s.sup.mode ≠ .sleep ∧ (s.contextsOf c).active = .service ∧ (s.contextsOf c).service.timerMode ≠ .off
  | .holdOff c => s.sup.mode ≠ .sleep ∧ (s.contextsOf c).holdOff = true
  | .stage c => s.sup.mode ≠ .sleep ∧ (∀ d, .deliver d ∉ (s.link c).hub) ∧ (∀ d, (s.link c).tx ≠ some (.hub (.deliver d))) ∧
      ∃ e, escOf s c = some e ∧ (e.stage = .deadline ∨ e.stage = .delay)
  | .pulse _ => True
  | .boardPulse => True
  | .boardOutput => True
  | .spacing _ => s.sup.mode ≠ .sleep

/-- Timer `t` counts and has one tick left, also at the tick moment it belongs to (log entries 3 and 4). -/
def Due (t : Timer) (s : State) : Prop :=
  timerLeft s t = 1 ∧ s.time.ticked.contains t = false ∧ timerLeft (moment s) t = 1

/-- The stored time remaining of a timer, whether or not it counts. -/
def standing (s : State) : Timer → Nat
  | .debounce l => (s.line l).debounceLeft
  | .repeatInterval l => (s.line l).repeatLeft
  | .context c .operate => (s.contextsOf c).operate.left
  | .context c .service => (s.contextsOf c).service.left
  | .holdOff c => (s.contextsOf c).holdOffLeft
  | .stage c => ((escOf s c).map Escalation.left).getD 0
  | .pulse c => (s.clientLinesOf c).pulseLeft
  | .boardPulse => s.board.pulseLeft
  | .boardOutput => s.board.outputLeft
  | .spacing c => (s.healthOf c).spacingLeft

/-- `n` microseconds pass within one millisecond (R4, R160): a frame whose gap limit passes before their end fails at its moment,
the one whose limit passes first before the others (of two at one microsecond the lower link's, log entry 40). -/
inductive Within : Nat → State → State → Prop where
  | quiet (n : Nat) (s : State) :
      (∀ c, (s.link c).receiver = .hunt ∨ n ≤ 2000 - sinceByte s c) →
      Within n s (s.setTime ⟨s.time.counter + BitVec.ofNat 32 n, s.time.divider + n, s.time.ticked⟩)
  | gap (n d : Nat) (c : Client) (s t : State) :
      (s.link c).receiver ≠ .hunt → d = 2000 - sinceByte s c → d < n →
      (∀ k, (s.link k).receiver ≠ .hunt → d < 2000 - sinceByte s k ∨ (d = 2000 - sinceByte s k ∧ c ≤ k)) →
      Within (n - d) (settle (gapFails c
        (s.setTime ⟨s.time.counter + BitVec.ofNat 32 d, s.time.divider + d, s.time.ticked⟩))) t →
      Within n s t

/-- `n` microseconds pass, with the tick moments that end before the last of them; a tick at their very end is left (log entry 40). -/
inductive Passes : Nat → State → State → Prop where
  | none (s : State) : Passes 0 s s
  | within (n : Nat) (s t : State) :
      0 < n → s.time.ticked = [] → n ≤ 1000 - s.time.divider → Within n s t → Passes n s t
  | tick (n : Nat) (s t : State) :
      s.time.ticked = [] → 1000 - s.time.divider < n → Passes (n - (1000 - s.time.divider)) (takeTick (moment s)) t →
      Passes n s t
  | begun (n : Nat) (s t : State) : 0 < n → s.time.ticked ≠ [] → Passes n (takeTick s) t → Passes n s t

/-! ## Lookup and presentation -/

/-- An entry that is enabled, whose bank is OPEN, and whose pattern the key agrees with in every marked position (R35, R36). -/
def Matches (s : State) (k : Key) (e : EntryNo) : Prop :=
  (s.entries.get e).enabled = true ∧ s.banks.get ⟨e.val / 8, by omega⟩ = .opened ∧
  (∀ n, n < 6 → (s.entries.get e).careSource.getLsbD n = true →
    k.source.getLsbD n = (s.entries.get e).matchSource.getLsbD n) ∧
  (∀ n, n < 4 → (s.entries.get e).careClass.getLsbD n = true →
    k.cls.getLsbD n = (s.entries.get e).matchClass.getLsbD n) ∧
  (∀ n, n < 12 → (s.entries.get e).careCode.getLsbD n = true →
    k.code.getLsbD n = (s.entries.get e).matchCode.getLsbD n)

/-- The record qualifies for presentation to client c (R76). -/
def Qualifies (s : State) (c : Client) (r : Record) : Prop :=
  ((s.contextsOf c).get (s.contextsOf c).active).classes.getLsbD r.key.cls.toNat = true ∧
  ((s.contextsOf c).get (s.contextsOf c).active).threshold ≤ r.priority ∧
  ((s.healthOf c).health ≠ .restricted ∨ r.urgent = true ∨ 4 ≤ r.priority.val)

/-- The conditions of R75 other than a qualifying record. -/
def MayPresent (s : State) (c : Client) : Prop :=
  (s.presentationOf c).ready = true ∧
  ((s.healthOf c).health = .healthy ∨ (s.healthOf c).health = .warned ∨ (s.healthOf c).health = .restricted) ∧
  (s.presentationOf c).gateOpen = true ∧ s.sup.mode = .run ∧
  (∀ d, .deliver d ∉ (s.link c).hub) ∧ ∀ d, (s.link c).tx ≠ some (.hub (.deliver d))

/-- Record `r` of client c as it stands when presented: PRESENTED, in stage WAITING or with the stage frozen in a resumed record,
and with the pending flags as the snapshot of a signal record (R78, R121, R155). -/
def presentedForm (s : State) (c : Client) (r : Record) : Record :=
  { r with
    state := .presented
    esc := some (if r.resumed then r.esc.getD ⟨.waiting, 0, false, false⟩ else ⟨.waiting, 0, false, false⟩)
    flags := if r.key.source = 41 then (s.postsOf c).pendingFlags else r.flags }

/-- What the DELIVER frame of `r` carries under handle `h` (R78). -/
def deliverOf (h : Handle) (r : Record) : DeliverFields :=
  ⟨h, r.key, r.priority, r.urgent, r.count, r.interrupted, r.resumed, r.created, r.hit,
    if r.key.source = 41 then be16 r.flags.toNat else r.payload⟩

/-- The forced-exchange condition (R108). -/
def Forced (s : State) (c : Client) : Prop :=
  (s.presentationOf c).ready = true ∧
  ((s.healthOf c).health = .healthy ∨ (s.healthOf c).health = .warned ∨ (s.healthOf c).health = .restricted) ∧
  (s.contextsOf c).active = .operate ∧ (s.contextsOf c).holdOff = false ∧
  ∃ i r, i ∈ s.queue c ∧ s.record i = some r ∧ r.urgent = true ∧
    (s.contextsOf c).service.classes.getLsbD r.key.cls.toNat = true ∧ (s.contextsOf c).service.threshold ≤ r.priority

/-- The health state that a score gives an attached client (R134). -/
def bandOf (score : Nat) : Health := if score < 96 then .healthy else if score < 128 then .warned else .restricted

/-! ## The hub fresh from power-on or a board reset (R175) -/

/-- Every item at the value its chapter gives for power-on and board reset, with these straps, raw levels, cause, note and
board-reset output. The time of a link's last byte is not named. -/
def FreshHub (pins : PinLevels) (raw : LineNo → Bool) (cause : CauseRecord) (note : BitVec 32) (output : Bool)
    (outputLeft : Nat) (t : State) : Prop :=
  t.time = ⟨0, 0, []⟩ ∧
  (∀ l, t.line l =
    ⟨⟨if pins.now.lineDef = .edge then .edge else .disabled, .activeLow, 4, 50, 0, BitVec.ofNat 12 l.val⟩,
      raw l, raw l, 0, .armed, 0, false, 0⟩) ∧
  (∀ g, t.masked.get g = 0) ∧ t.intake = [] ∧ (∀ n, t.waiting.get n = none) ∧ t.lostNotices = 0 ∧ t.unrouted = 0 ∧
  (∀ e, t.entries.get e = ⟨false, 0, 0, 0, 0, 0, 0, 0, .each, 0, false, none, 0⟩) ∧
  (∀ b, t.banks.get b = .closed) ∧ (∀ g, t.groups.get g = none) ∧
  (∀ i, t.slot i = ⟨0, none⟩) ∧ (∀ c, t.queue c = []) ∧ (∀ c, t.dropsOf c = ⟨0, 0⟩) ∧
  (∀ c, t.presentationOf c = ⟨false, true, none⟩) ∧
  (∀ c, t.contextsOf c =
    ⟨⟨0xFFFF, 0, .off, 0, 1000⟩, ⟨0xFFFF, 0, .off, 0, 1000⟩, none, .operate, false, 0, 20⟩) ∧
  t.profiles.get 0 = ⟨1000, .noteOnly, 4⟩ ∧ t.profiles.get 1 = ⟨500, .attention, 4⟩ ∧
  t.profiles.get 2 = ⟨200, .attentionThenReset, 4⟩ ∧ t.profiles.get 3 = ⟨0, .noteOnly, 4⟩ ∧
  (∀ c, t.clientLinesOf c = ⟨false, true, 0, 10, .board⟩) ∧ t.board = ⟨10, output, outputLeft⟩ ∧
  (∀ c, t.healthOf c = ⟨0, .healthy, 0, 0⟩) ∧
  (∀ c n, (t.postsOf c).slots.get n = .empty) ∧
  (∀ c, (t.postsOf c).pendingFlags = 0 ∧ (t.postsOf c).postProfile = 0 ∧ (t.postsOf c).signalProfile = 0) ∧
  t.sup.pins = pins ∧ t.sup.straps = pins.now ∧ t.sup.mode = .run ∧ t.sup.frozen = false ∧ t.sup.cause = cause ∧
  t.sup.note = note ∧ t.sup.poolLowArmed = true ∧ t.sup.resetPending = none ∧
  (∀ c, t.sup.privileges.get c =
    if c = pins.now.supsel then ⟨true, true, true, true⟩ else ⟨false, false, true, true⟩) ∧
  (∀ c, (t.link c).receiver = .hunt ∧ (t.link c).requests = [] ∧ (t.link c).replies = [] ∧ (t.link c).hub = [] ∧
    (t.link c).tx = none ∧ (t.link c).frameErrors = 0 ∧ (t.link c).overruns = 0 ∧ (t.link c).gaps = 0)

/-! ## What FROZEN locks (R182) -/

/-- Route entries, bank states, line configurations, profiles, privileges and client settings agree. -/
def SameConfiguration (s t : State) : Prop :=
  t.entries = s.entries ∧ t.banks = s.banks ∧ (∀ l, (t.line l).config = (s.line l).config) ∧ t.profiles = s.profiles ∧
  t.sup.privileges = s.sup.privileges ∧
  ∀ c, (t.contextsOf c).holdOffTime = (s.contextsOf c).holdOffTime ∧
    (t.clientLinesOf c).pulseWidth = (s.clientLinesOf c).pulseWidth ∧
    (t.postsOf c).postProfile = (s.postsOf c).postProfile ∧ (t.postsOf c).signalProfile = (s.postsOf c).signalProfile

/-! ## Frames -/

/-- The commands in which no time passes and no reset of the hub can come: the 30 requests, ROUTE_TAKE, RECEIVED_BYTE and
RAW_LEVEL_CHANGE. -/
def timeless : Instr → Bool
  | .powerOn _ _ => false
  | .resetInputAsserted _ => false
  | .resetInputRelease => false
  | .millisecondTick => false
  | .debounceExpiry _ => false
  | .repeatTimerExpiry _ => false
  | .contextTimerExpiry _ _ => false
  | .holdOffExpiry _ => false
  | .deadlineExpiry _ => false
  | .delayExpiry _ => false
  | .clientResetPulseExpiry _ => false
  | .boardResetPulseExpiry => false
  | .boardResetOutputExpiry => false
  | .spacingTimerExpiry _ => false
  | .gapTimeout _ => false
  | .transmissionEnd _ => false
  | _ => true

/-- What no operation on records, contexts, health or links changes: time, the route table, profiles, the board's lines, the
masked-edge counters, the unrouted counter, the waiting commands, and SUP's items but for the mode and the POOL_LOW arming. -/
def Untouched (s t : State) : Prop :=
  t.time = s.time ∧ t.masked = s.masked ∧ t.unrouted = s.unrouted ∧ t.entries = s.entries ∧ t.banks = s.banks ∧
  t.profiles = s.profiles ∧ t.board = s.board ∧ t.pending = s.pending ∧ t.sup.pins = s.sup.pins ∧
  t.sup.straps = s.sup.straps ∧ t.sup.frozen = s.sup.frozen ∧ t.sup.cause = s.sup.cause ∧ t.sup.note = s.sup.note ∧
  t.sup.privileges = s.sup.privileges ∧ t.sup.resetPending = s.sup.resetPending ∧ t.sup.resetInput = s.sup.resetInput

/-! ## Capacities -/

/-- The intake queue holds at most 16 descriptors, and is full while a timer expiry or a field line waits for a place (R6, R7); every
descriptor in it, or waiting for it, has a source of 0 to 36 (R2). -/
def IntakeLaw (s : State) : Prop :=
  s.intake.length ≤ 16 ∧
  ((∃ n, (s.waiting.get n).isSome) ∨ (∃ l, ((s.line l).latch.held).isSome) → s.intake.length = 16) ∧
  (∀ d ∈ s.intake, d.key.source.toNat ≤ 36) ∧ (∀ n d, s.waiting.get n = some d → d.key.source.toNat ≤ 36) ∧
  ∀ l d, (s.line l).latch.held = some d → d.key.source.toNat ≤ 36

/-- A link holds at most two requests and replies together, and at most one unsent frame of each hub-initiated kind
(R162, R164). -/
def LinkLaw (s : State) : Prop :=
  ∀ c, (s.link c).requests.length + (s.link c).replies.length ≤ 2 ∧
    ((s.link c).hub.map HubFrame.kindByte).Nodup

/-- The supervising client holds all four privileges (R166). -/
def SupervisorLaw (s : State) : Prop :=
  s.sup.privileges.get s.sup.straps.supsel = ⟨true, true, true, true⟩

/-! ## Records, queues and health -/

/-- Each client's queue lists exactly its QUEUED records, each once (R57); a client has at most one PRESENTED and one SUSPENDED
record (R98); its gate is closed exactly while one is PRESENTED (R81); OPERATE's suspended handle names its SUSPENDED record, and is
none while OPERATE is active (R97, R98); and every record's owner is attached (R137). -/
def RecordLaw (s : State) : Prop :=
  (∀ c, (s.queue c).Nodup ∧
    ∀ i, i ∈ s.queue c ↔ ∃ r, s.record i = some r ∧ r.owner = c ∧ r.state = .queued) ∧
  (∀ i j ri rj, s.record i = some ri → s.record j = some rj → ri.owner = rj.owner → ri.state = rj.state →
    ri.state ≠ .queued → i = j) ∧
  (∀ c, (s.presentationOf c).gateOpen = false ↔
    ∃ i r, s.record i = some r ∧ r.owner = c ∧ r.state = .presented) ∧
  (∀ c h, (s.contextsOf c).suspended = some h ↔
    h.gen = (s.slot h.index).gen ∧ ∃ r, s.record h.index = some r ∧ r.owner = c ∧ r.state = .suspended) ∧
  (∀ c, (s.contextsOf c).active = .operate → (s.contextsOf c).suspended = none) ∧
  (∀ i r, s.record i = some r → s.attached r.owner = true)

/-- The law of records and queues, and no client's queue holds two QUEUED EACH records of one key (R57). -/
def QueueLaw (s : State) : Prop :=
  RecordLaw s ∧ ∀ c i j ri rj, i ∈ s.queue c → j ∈ s.queue c → s.record i = some ri → s.record j = some rj →
    ri.mode = .each → rj.mode = .each → ri.key = rj.key → i = j

/-- A post slot is WAITING or ORPHANED exactly while a record has the key of its sender and its number; it holds that record's handle
and owner (R146). So no two records share a post key. -/
def PostLaw (s : State) : Prop :=
  ∀ (p : Client) (n : SlotNo) (t : Client) (h : Handle),
    ((s.postsOf p).slots.get n = .waiting t h ∨ (s.postsOf p).slots.get n = .orphaned t h) ↔
      h.gen = (s.slot h.index).gen ∧ ∃ r, s.record h.index = some r ∧ r.owner = t ∧
        r.key = ⟨BitVec.ofNat 6 (37 + p.val), 12, BitVec.ofNat 12 n.val⟩

/-- A group IN_USE counts its live copies, of which it has one at least; a FREE group has none; no client holds two copies of one
group (R47 to R49). -/
def GroupLaw (s : State) : Prop :=
  (∀ g x, s.groups.get g = some x → 1 ≤ x.live ∧
    x.live = (Finset.univ.filter fun i => ((s.record i).any fun r => r.mode = .first g) = true).card) ∧
  (∀ g, s.groups.get g = none → ∀ i r, s.record i = some r → r.mode ≠ .first g) ∧
  (∀ g i j ri rj, s.record i = some ri → s.record j = some rj → ri.mode = .first g → rj.mode = .first g →
    ri.owner = rj.owner → i = j)

/-- An attached client is in the health state of its score, which is at most 255; a client not attached has score 255, and only a
REJOINING one a rejoin count (below 16) and a spacing timer (of at most 10 ms) (R132, R134, R137, R141). -/
def HealthLaw (s : State) : Prop :=
  ∀ c, (s.attached c = true →
      (s.healthOf c).score ≤ 255 ∧ s.healthOf c = ⟨(s.healthOf c).score, bandOf (s.healthOf c).score, 0, 0⟩) ∧
    ((s.healthOf c).health = .detached → s.healthOf c = ⟨255, .detached, 0, 0⟩) ∧
    ((s.healthOf c).health = .rejoining →
      (s.healthOf c).score = 255 ∧ (s.healthOf c).rejoin < 16 ∧ (s.healthOf c).spacingLeft ≤ 10)

end Sys2Proof.Safety
end

