-- ==== Sys2Proof/Certificates/Slice0/Obligations.lean ====
section
/-! DEFINITION. The statements about the hub. In each statement about a request, `u` is the state in which link c takes the
request `q`, however it arrived (Safety.Takes). -/

open Sys2Proof Sys2Proof.Machine Sys2Proof.Safety

/-! ## The block as a machine -/

/-- A step with a command waiting runs the front command on the state with the queue's rest. No command, a reset of the hub included,
touches the queue of waiting commands: that queue is the model's own, and that it outlives every reset is the model's choice (log
entry 35). -/
def Obligations.StepRunsTheFrontCommand : Prop :=
  (∀ (i : Instr) (rest : List Instr) (s : State), s.pending = i :: rest → step s = exec i (s.setPending rest)) ∧
  (∀ (i : Instr) (s t : State), exec i s = .next t → t.pending = s.pending)

/-- What the 30 requests, ROUTE_TAKE, RECEIVED_BYTE and RAW_LEVEL_CHANGE leave unchanged: time (that these commands take no time is the
model's choice, log entry 2), the strap levels (that only the commands of the pins bring them is the model's choice, log entry 8), the
board's lines, the straps in effect, the cause and the reset input always; route entries, bank states, profiles, the note, privileges,
FROZEN, a pending RESET_HUB, the masked-edge counters and the unrouted counter but for the commands that write them. -/
def Obligations.TimelessCommandsFrame : Prop :=
  ∀ (i : Instr) (s t : State), timeless i = true → exec i s = .next t →
    t.time = s.time ∧ t.board = s.board ∧ t.sup.pins = s.sup.pins ∧ t.sup.straps = s.sup.straps ∧
    t.sup.cause = s.sup.cause ∧ t.sup.resetInput = s.sup.resetInput ∧
    ((∀ c a, i ≠ .routeWrite c a) → t.entries = s.entries) ∧
    ((∀ c a, i ≠ .bankSet c a) → t.banks = s.banks) ∧
    ((∀ c a, i ≠ .profileSet c a) → t.profiles = s.profiles) ∧
    ((∀ c a, i ≠ .noteSet c a) → t.sup.note = s.sup.note) ∧
    ((∀ c a, i ≠ .clientSet c a) → t.sup.privileges = s.sup.privileges) ∧
    ((∀ c a, i ≠ .freeze c a) → t.sup.frozen = s.sup.frozen) ∧
    ((∀ c a, i ≠ .resetHub c a) → t.sup.resetPending = s.sup.resetPending) ∧
    ((∀ c a, i ≠ .lineSet c a) → (∀ l v, i ≠ .rawLevelChange l v) → t.masked = s.masked) ∧
    (i ≠ .routeTake → t.unrouted = s.unrouted)

/-! ## Resets of the hub -/

/-- Power-on puts every item at the value its chapter gives, with the straps and raw levels as they stand (R175). That the reset input
stays as it stands is the model's choice (log entry 10), and so is that the waiting commands do (log entry 35). -/
def Obligations.PowerOnGivesEveryResetValue : Prop :=
  ∀ (pins : PinLevels) (raw : BitVec 24) (s : State), ∃ t, exec (.powerOn pins raw) s = .next t ∧
    FreshHub pins (fun l => raw.getLsbD l.val) ⟨.powerOn, none, 0⟩ 0 false 0 t ∧
    t.sup.resetInput = s.sup.resetInput ∧ t.pending = s.pending

/-- The passage of the reset input to asserted takes a board reset of kind PIN while the board-reset output is released, and is
disregarded while it is asserted; an input already asserted, and a release, change only the input and the strap levels (R176). A board
reset by escalation or RESET_HUB gives every item its value, keeps the note, the raw levels and the reset input, and asserts the output
for 20 ms when it comes from escalation (R126, R175, R177). That strap levels come with the pins' commands, also those that a later
reset finds, is the model's choice (log entry 8), and so is that the waiting commands are kept (log entry 35). -/
def Obligations.ResetInputTakesABoardReset : Prop :=
  (∀ (pins : PinLevels) (s : State),
    (s.sup.resetInput = false → s.board.output = false →
      ∃ t, exec (.resetInputAsserted pins) s = .next t ∧
        FreshHub pins (fun l => (s.line l).raw) ⟨.pin, none, min 255 (s.sup.cause.count + 1)⟩ s.sup.note false
          s.board.outputLeft t ∧
        t.sup.resetInput = true ∧ t.pending = s.pending) ∧
    (s.sup.resetInput = true ∨ s.board.output = true →
      exec (.resetInputAsserted pins) s = .next (settle (s.setSup { s.sup with pins := pins, resetInput := true }))) ∧
    exec .resetInputRelease s = .next (settle (s.setSup { s.sup with resetInput := false }))) ∧
  (∀ (k : CauseKind) (c : Option Client) (s : State),
    FreshHub s.sup.pins.next (fun l => (s.line l).raw) ⟨k, c, min 255 (s.sup.cause.count + 1)⟩ s.sup.note
      (k = .escalation || s.board.output) (if k = .escalation then 20 else s.board.outputLeft) (boardReset k c s) ∧
    (boardReset k c s).sup.resetInput = s.sup.resetInput ∧ (boardReset k c s).pending = s.pending)

/-! ## Time -/

/-- A tick moment that has not begun is reached by the time left until the tick, in which frames fail whose gap limit passes (R4, R160).
At the tick every counting timer that has not been taken is decreased once: those with time remaining first, then those that run out,
one after another, unless an earlier one has stopped or restarted them (R4; the order is the model's, log entries 3 and 4, and what
timers started meanwhile do, log entry 37). An expiry command takes its own timer alone when it is due, and changes nothing otherwise
(log entries 3 and 23). With no command waiting a step lets one microsecond pass, or takes the tick that is due (log entry 2). A timer
counts, with its stored time, exactly while the rule that owns it says so (Counts: R100, R111, R120, R121, R141; the others always). -/
def Obligations.TimePassesTickByTick : Prop :=
  (∀ s : State,
    (s.time.ticked ≠ [] → moment s = s) ∧
    (s.time.ticked = [] → ∃ w, Within (1000 - s.time.divider) s w ∧ moment s = w.setTime ⟨w.time.counter, 0, w.time.ticked⟩)) ∧
  (∀ s u v w : State, u = moment s → v = lowerTimers u →
    w = (timers.filter fun k => timerLeft u k = 1 ∧ k ∉ u.time.ticked).foldl
      (fun x k => if timerLeft x k = 1 then settle (expire k x) else x) v →
    exec .millisecondTick s = .next (settle (w.setTime ⟨w.time.counter, w.time.divider, []⟩)) ∧
    (∀ k, standing v k = standing u k - if 2 ≤ timerLeft u k ∧ k ∉ u.time.ticked then 1 else 0) ∧
    v.time = u.time ∧ v.intake = u.intake ∧ v.queues = u.queues ∧ v.entries = u.entries ∧ v.links = u.links ∧
    v.sup = u.sup ∧ v.presentation = u.presentation ∧ v.posts = u.posts) ∧
  (∀ (s : State) (l : LineNo) (c : Client) (k : ContextName),
    let takes := fun (i : Instr) (t : Timer) =>
      (Due t s → exec i s = .next (settle (expire t (marked t (moment s))))) ∧ (¬ Due t s → exec i s = .next (settle s))
    takes (.debounceExpiry l) (.debounce l) ∧ takes (.repeatTimerExpiry l) (.repeatInterval l) ∧
    takes (.contextTimerExpiry c k) (.context c k) ∧ takes (.holdOffExpiry c) (.holdOff c) ∧
    takes (.clientResetPulseExpiry c) (.pulse c) ∧ takes .boardResetPulseExpiry .boardPulse ∧
    takes .boardResetOutputExpiry .boardOutput ∧ takes (.spacingTimerExpiry c) (.spacing c) ∧
    ((escOf s c).map Escalation.stage = some .deadline → takes (.deadlineExpiry c) (.stage c)) ∧
    ((escOf s c).map Escalation.stage = some .delay → takes (.delayExpiry c) (.stage c)) ∧
    ((escOf s c).map Escalation.stage ≠ some .deadline → exec (.deadlineExpiry c) s = .next (settle s)) ∧
    ((escOf s c).map Escalation.stage ≠ some .delay → exec (.delayExpiry c) s = .next (settle s))) ∧
  (∀ s : State, s.pending = [] →
    (s.time.ticked ≠ [] ∨ 999 ≤ s.time.divider → step s = exec .millisecondTick s) ∧
    (s.time.ticked = [] → s.time.divider < 999 → ∃ w, Within 1 s w ∧ step s = .next (settle w))) ∧
  (∀ (s : State) (t : Timer), (Counts s t → timerLeft s t = standing s t) ∧ (¬ Counts s t → timerLeft s t = 0))

/-! ## Field lines -/

/-- A raw change starts, stops or bypasses the debounce timer, and a debounce expiry accepts the raw level (R18). -/
def Obligations.DebounceFollowsTheRawLevel : Prop :=
  (∀ (l : LineNo) (v : Bool) (s : State), exec (.rawLevelChange l v) s = .next (settle (
    if v = (s.line l).raw then s
    else if v = (s.line l).accepted then s.setLine l { s.line l with raw := v, debounceLeft := 0 }
    else if (s.line l).debounceLeft ≠ 0 then s.setLine l { s.line l with raw := v }
    else if (s.line l).config.debounce ≠ 0 then
      s.setLine l { s.line l with raw := v, debounceLeft := (s.line l).config.debounce }
    else activityChange l (s.line l).active (s.setLine l { s.line l with raw := v, accepted := v, debounceLeft := 0 })))) ∧
  (∀ (l : LineNo) (s u : State), Due (.debounce l) s → u = marked (.debounce l) (moment s) →
    exec (.debounceExpiry l) s = .next (settle (
      activityChange l (u.line l).active
        (u.setLine l { u.line l with accepted := (u.line l).raw, debounceLeft := 0 }))))

/-- Activations and deactivations by mode and latch (R20, R23, R24, R27): an ARMED line raises, any other merges; a GROUP_EDGE
activation with another GROUP_EDGE line of its group active is masked and counted; a DISABLED line does nothing. The event raised
joins the tail and the latch is OUTSTANDING, or with the queue full the latch is PENDING and holds it; in SLEEP the offer wakes the
hub (R20, R31). A change of activity is an activation when the line is now active, and a deactivation when it is not (R19). -/
def Obligations.ActivationsByModeAndLatch : Prop :=
  (∀ (l : LineNo) (s : State),
    ((s.line l).config.mode = .disabled → activation l s = s ∧ deactivation l s = s) ∧
    ((s.line l).config.mode ≠ .level → deactivation l s = s) ∧
    ((s.line l).config.mode = .groupEdge →
      (∃ m, m ≠ l ∧ m.val / 8 = l.val / 8 ∧ (s.line m).config.mode = .groupEdge ∧ (s.line m).active = true) →
      activation l s = s.setMasked (lineGroup l) (min 255 (s.masked.get (lineGroup l) + 1))) ∧
    ((s.line l).config.mode ≠ .disabled →
      ((s.line l).config.mode = .groupEdge →
        ∀ m, m ≠ l → m.val / 8 = l.val / 8 → (s.line m).config.mode = .groupEdge → (s.line m).active = false) →
      ((s.line l).latch ≠ .armed → activation l s = s) ∧
      ((s.line l).latch = .armed → activation l s =
        offerLineEvent l ⟨⟨BitVec.ofNat 6 l.val, (s.line l).config.cls, (s.line l).config.code⟩, s.time.counter⟩
          (s.setLine l { s.line l with
            disposed := false
            repeatLeft := if (s.line l).config.mode = .level then (s.line l).config.interval
              else (s.line l).repeatLeft })))) ∧
  (∀ (l : LineNo) (d : Descriptor) (s : State),
    (s.intake.length < 16 → offerLineEvent l d s =
      wakeHub ((s.setIntake (s.intake ++ [d])).setLine l
        { s.line l with latch := .outstanding, queued := (s.line l).queued + 1 })) ∧
    (16 ≤ s.intake.length → offerLineEvent l d s = wakeHub (s.setLine l { s.line l with latch := .pending d }))) ∧
  (∀ (l : LineNo) (before : Bool) (s : State),
    ((s.line l).active = before → activityChange l before s = s) ∧
    ((s.line l).active = true → before = false → activityChange l before s = activation l s) ∧
    ((s.line l).active = false → before = true → activityChange l before s = deactivation l s))

/-- A LEVEL line after a "disposed" report (R22, R25, R26): inactive, it returns to ARMED; active, it re-raises if its repeat timer
has run out, and otherwise waits with its disposed mark set. A line in any other mode or latch state ignores the report (R22). The
repeat timer's expiry re-raises a LEVEL line that is OUTSTANDING, disposed and active, and does nothing else. A re-raise at the
report is a raise, but that in SLEEP it sets the hub to RUN and leaves PRS's examinations to the end of the operation that freed the
record (log entry 39). -/
def Obligations.LevelLineRearmsOrReRaises : Prop :=
  (∀ (l : LineNo) (s : State), (s.line l).config.mode = .level → (s.line l).latch = .outstanding →
    ((s.line l).queued = 0 →
      ((s.line l).active = false → lineDisposed l s = s.setLine l { s.line l with latch := .armed, disposed := false }) ∧
      ((s.line l).active = true → (s.line l).repeatLeft = 0 →
        lineDisposed l s = raiseWithin l (s.setLine l { s.line l with disposed := true })) ∧
      ((s.line l).active = true → (s.line l).repeatLeft ≠ 0 →
        lineDisposed l s = s.setLine l { s.line l with disposed := true })) ∧
    ((s.line l).queued ≠ 0 → lineDisposed l s = s) ∧
    ((s.line l).disposed = true → (s.line l).active = false →
      deactivation l s = s.setLine l { s.line l with latch := .armed, disposed := false }) ∧
    ((s.line l).disposed = false → deactivation l s = s)) ∧
  (∀ (l : LineNo) (s u : State), Due (.repeatInterval l) s → u = marked (.repeatInterval l) (moment s) →
    exec (.repeatTimerExpiry l) s = .next (settle (
      if (u.line l).config.mode = .level ∧ (u.line l).latch = .outstanding ∧ (u.line l).disposed = true ∧
          (u.line l).active = true then
        raiseLine l (u.setLine l { u.line l with repeatLeft := 0 })
      else u.setLine l { u.line l with repeatLeft := 0 }))) ∧
  (∀ (l : LineNo) (s : State), (s.line l).config.mode ≠ .level ∨ (s.line l).latch ≠ .outstanding → lineDisposed l s = s) ∧
  (∀ (l : LineNo) (s : State),
    (s.sup.mode ≠ .sleep → raiseWithin l s = raiseLine l s) ∧
    (s.sup.mode = .sleep → raiseLine l s = examine 3 (examine 2 (examine 1 (examine 0 (raiseWithin l s)))) ∧
      (raiseWithin l s).sup = { s.sup with mode := .run } ∧ (∀ c, (raiseWithin l s).queue c = s.queue c) ∧
      (∀ i, (raiseWithin l s).slot i = s.slot i) ∧ ∀ c, (raiseWithin l s).link c = s.link c))

/-- LINE_SET is checked in the order of R28, answers with the latch it leaves, and is carried out by R29. Where the mode changes, the latch
is ARMED, a PENDING event is discarded, the disposed mark is cleared, the repeat timer has run out, and a line then active under mode
LEVEL raises at once. Where it does not, running timers are given the new time less the time already run, a debounce timer left with
nothing accepts the raw level, a repeat timer left with nothing runs out, and a changed activity is an activation or a deactivation
(under the new configuration, the model's reading: log entry 29). -/
def Obligations.LineSetReconfigures : Prop :=
  (∀ (s u : State) (c : Client) (a : Arrival) (q : Request), Takes s c .lineSet a q u →
    (∀ f : LineSetFields, LineSettable f.config → q.payload = lineSetBytes f →
      exec (.lineSet c a) s = .next (judged c q u
        [(!holds u c .configure, .denied), (u.sup.frozen, .frozen), (!u.attached c, .detached)]
        (replied c q .ok [byte ((configureLine f.line f.config f.clearGroup u).line f.line).latch.code]
          (configureLine f.line f.config f.clearGroup u)))) ∧
    ((∀ f : LineSetFields, LineSettable f.config → q.payload ≠ lineSetBytes f) →
      exec (.lineSet c a) s = .next (judged c q u
        [(!holds u c .configure, .denied), (u.sup.frozen, .frozen)] (replied c q .badField [] u)))) ∧
  (∀ (l : LineNo) (cfg : LineConfig) (clear : Bool) (s : State), cfg.mode ≠ (s.line l).config.mode →
    ∃ x : Line, x.config = cfg ∧ x.raw = (s.line l).raw ∧ x.latch = .armed ∧ x.queued = (s.line l).queued ∧
      x.disposed = false ∧ x.repeatLeft = 0 ∧
      x.debounceLeft = (if (s.line l).debounceLeft = 0 then 0
        else cfg.debounce - ((s.line l).config.debounce - (s.line l).debounceLeft)) ∧
      x.accepted = (if (s.line l).debounceLeft ≠ 0 ∧ x.debounceLeft = 0 then (s.line l).raw else (s.line l).accepted) ∧
      configureLine l cfg clear s =
        (if cfg.mode = .level ∧ x.active = true then
          raiseLine l ((if clear then s.setMasked (lineGroup l) 0 else s).setLine l x)
        else (if clear then s.setMasked (lineGroup l) 0 else s).setLine l x)) ∧
  (∀ (l : LineNo) (cfg : LineConfig) (clear : Bool) (s v : State) (x : Line), cfg.mode = (s.line l).config.mode →
    x = { s.line l with
      config := cfg
      debounceLeft := if (s.line l).debounceLeft = 0 then 0
        else cfg.debounce - ((s.line l).config.debounce - (s.line l).debounceLeft)
      repeatLeft := if (s.line l).repeatLeft = 0 then 0
        else cfg.interval - ((s.line l).config.interval - (s.line l).repeatLeft)
      accepted := if (s.line l).debounceLeft ≠ 0 ∧
          cfg.debounce - ((s.line l).config.debounce - (s.line l).debounceLeft) = 0 then (s.line l).raw
        else (s.line l).accepted } →
    v = (if clear then s.setMasked (lineGroup l) 0 else s).setLine l x →
    configureLine l cfg clear s = activityChange l (s.line l).active
      (if (s.line l).repeatLeft ≠ 0 ∧ x.repeatLeft = 0 ∧ x.config.mode = .level ∧ x.latch = .outstanding ∧
          x.disposed = true ∧ x.active = true then raiseLine l v else v))

/-! ## The intake queue and notices -/

/-- A hub notice joins the tail of the intake queue, or is lost and counted when all 16 places are taken (R11, R12). A drop raises both
counts of its client, and offers a DROP notice or, for class 15, counts a lost notice (R67, R13). -/
def Obligations.NoticesAndDrops : Prop :=
  (([NoticeType.health, .drop, .escalated, .unclaimed, .clientReset, .overrun, .poolLow].map NoticeType.code =
    [1, 2, 3, 4, 5, 6, 7]) ∧
  ∀ (n : NoticeType) (detail : Nat) (s : State),
    (s.intake.length < 16 → offerNotice n detail s =
      s.setIntake (s.intake ++ [⟨⟨36, 15, BitVec.ofNat 12 (256 * n.code + detail)⟩, s.time.counter⟩])) ∧
    (16 ≤ s.intake.length → offerNotice n detail s = s.setLostNotices (min 65535 (s.lostNotices + 1)))) ∧
  (∀ (c : Client) (k : Key) (s : State),
    dropFor c k s =
      (if k.cls = 15 then
        (s.setDrops c ⟨min 65535 ((s.dropsOf c).total + 1), min 255 ((s.dropsOf c).sinceReady + 1)⟩).setLostNotices
          (min 65535 (s.lostNotices + 1))
      else offerNotice .drop c.val
        (s.setDrops c ⟨min 65535 ((s.dropsOf c).total + 1), min 255 ((s.dropsOf c).sinceReady + 1)⟩)))

/-- The place a take frees goes to the waiting timer expiry of the lowest source, or else to the waiting line of the lowest number;
with no source waiting it stays free (R9). ROUTE_TAKE removes the head, gives the freed place away, reports the take to the line it
came from, and routes the event by the entry its lookup hits; with an empty queue it does nothing (R10, R21, R46). A hub in SLEEP that
the report at the end wakes is examined when the routing is complete (log entry 39). -/
def Obligations.RouteTakeRoutesTheHead : Prop :=
  (∀ s : State,
    (∀ n d, s.waiting.get n = some d → (∀ m, m < n → s.waiting.get m = none) →
      givePlace s = (s.setWaiting n none).setIntake (s.intake ++ [d])) ∧
    ((∀ n, s.waiting.get n = none) →
      (∀ l d, (s.line l).latch = .pending d → (∀ m, m < l → (s.line m).latch.held = none) →
        givePlace s = (s.setLine l { s.line l with latch := .outstanding, queued := (s.line l).queued + 1 }).setIntake
          (s.intake ++ [d])) ∧
      ((∀ l, (s.line l).latch.held = none) → givePlace s = s))) ∧
  (∀ s : State,
    (s.intake = [] → exec .routeTake s = .next (settle s)) ∧
    (∀ (d : Descriptor) (rest : List Descriptor) (v w : State), s.intake = d :: rest → v = givePlace (s.setIntake rest) →
      w = (if h : d.key.source.toNat < 24 then
            v.setLine ⟨d.key.source.toNat, h⟩ { v.line ⟨d.key.source.toNat, h⟩ with
              queued := (v.line ⟨d.key.source.toNat, h⟩).queued - 1
              latch :=
                if (v.line ⟨d.key.source.toNat, h⟩).queued - 1 = 0 ∧
                    (v.line ⟨d.key.source.toNat, h⟩).latch = .outstanding ∧
                    ((v.line ⟨d.key.source.toNat, h⟩).config.mode = .edge ∨
                      (v.line ⟨d.key.source.toNat, h⟩).config.mode = .groupEdge) then .armed
                else (v.line ⟨d.key.source.toNat, h⟩).latch }
          else v) →
      (∀ e, lookup w d.key = some e →
        exec .routeTake s = .next (settle (completeWake s.sup.mode (reportDisposed d.key.source (routeByEntry d e w))))) ∧
      (lookup w d.key = none →
        exec .routeTake s = .next (settle (completeWake s.sup.mode (reportDisposed d.key.source (routeUnrouted d w)))))))

/-! ## Routing -/

/-- The hit of a lookup is the first entry, in index order, that takes part and matches; without one the event is unrouted (R35, R36).
An unrouted event under UNROUTED DROP is discarded and counted, a notice as a lost notice; under SUPERVISOR it is routed to the
supervising client as by an EACH entry of priority 0, not urgent, with profile 0 and no fallback (R39, R40). -/
def Obligations.LookupFindsTheFirstMatch : Prop :=
  (∀ (s : State) (k : Key),
    (∀ e, lookup s k = some e ↔ Matches s k e ∧ ∀ e', e' < e → ¬ Matches s k e') ∧
    (lookup s k = none ↔ ∀ e, ¬ Matches s k e)) ∧
  (∀ (d : Descriptor) (s : State),
    (s.sup.straps.unrouted = .drop → d.key.cls ≠ 15 → routeUnrouted d s = s.setUnrouted (min 65535 (s.unrouted + 1))) ∧
    (s.sup.straps.unrouted = .drop → d.key.cls = 15 → routeUnrouted d s = s.setLostNotices (min 65535 (s.lostNotices + 1))) ∧
    (s.sup.straps.unrouted = .supervisor →
      (s.attached s.sup.straps.supsel = true → routeUnrouted d s = routingRequest
        ⟨s.sup.straps.supsel, d.key, 0, false, .each, .unrouted, 0, none, d.created, []⟩ s) ∧
      (s.attached s.sup.straps.supsel = false → routeUnrouted d s = dropFor s.sup.straps.supsel d.key s)))

/-- The target decision by the table of R41. The resolved clients are the distinct outcomes of the entry's targets, in ascending order
(R43), and exactly the targets without an outcome are accounted as drops, each with its DROP notice or, for class 15, a lost
notice, in ascending order (R42, R67, R13). -/
def Obligations.TargetsResolveByHealth : Prop :=
  (∀ (s : State) (fb : Option Client) (t : Client),
    ((s.healthOf t).health = .healthy ∨ (s.healthOf t).health = .warned → resolveTarget s fb t = some t) ∧
    ((s.healthOf t).health = .restricted →
      (∀ f, fb = some f → f ≠ t → (s.healthOf f).health = .healthy ∨ (s.healthOf f).health = .warned →
        resolveTarget s fb t = some f) ∧
      ((∀ f, fb = some f → f = t ∨ (s.healthOf f).health = .restricted ∨ (s.healthOf f).health = .detached ∨
        (s.healthOf f).health = .rejoining) → resolveTarget s fb t = some t)) ∧
    ((s.healthOf t).health = .detached ∨ (s.healthOf t).health = .rejoining →
      (∀ f, fb = some f → f ≠ t → s.attached f = true → resolveTarget s fb t = some f) ∧
      ((∀ f, fb = some f → f = t ∨ s.attached f = false) → resolveTarget s fb t = none))) ∧
  (∀ (x : RouteEntry) (k : Key) (s : State),
    (decideTargets x k s).2.Pairwise (· < ·) ∧
    (∀ c, c ∈ (decideTargets x k s).2 ↔ ∃ t : Client, x.targets.getLsbD t.val = true ∧ resolveTarget s x.fallback t = some c) ∧
    (∀ t : Client, (decideTargets x k s).1.dropsOf t =
      if x.targets.getLsbD t.val = true ∧ resolveTarget s x.fallback t = none then
        ⟨min 65535 ((s.dropsOf t).total + 1), min 255 ((s.dropsOf t).sinceReady + 1)⟩
      else s.dropsOf t) ∧
    (decideTargets x k s).1 = ([0, 1, 2, 3] : List Client).foldl
      (fun v t => if x.targets.getLsbD t.val = true ∧ resolveTarget s x.fallback t = none then dropFor t k v else v) s ∧
    (decideTargets x k s).1.pool = s.pool ∧ (decideTargets x k s).1.queues = s.queues)

/-- A routing sends one request per resolved client in ascending order, with the fields of R44; an EACH entry asks for EACH records,
and a FIRST entry forms a group when two or more clients are resolved and a group is free (R46, R48, R50). A group whose live copy
count comes to 0, or whose every request failed, returns to FREE, with an UNCLAIMED notice, or a lost notice for class 15, when it is
not done (R48, R49, R93, R13). -/
def Obligations.RoutingSendsOneRequestPerClient : Prop :=
  (∀ (d : Descriptor) (x : RouteEntry) (h : Hit) (m : RecMode) (e : EntryNo) (c : Client) (rs : List Client) (s : State),
    sendRequests d x h m [] s = s ∧
    sendRequests d x h m (c :: rs) s = sendRequests d x h m rs
      (routingRequest ⟨c, d.key, x.priority, x.urgent, m, h, x.profile, x.fallback, d.created, []⟩ s) ∧
    ((s.entries.get e).mode = .each →
      routeByEntry d e s = sendRequests d (s.entries.get e) (.entry e) .each (decideTargets (s.entries.get e) d.key s).2
        (decideTargets (s.entries.get e) d.key s).1) ∧
    ((s.entries.get e).mode = .first →
      routeByEntry d e s = routeFirst d (s.entries.get e) e (decideTargets (s.entries.get e) d.key s).2
        (decideTargets (s.entries.get e) d.key s).1) ∧
    (∀ g, 2 ≤ rs.length → s.groups.get g = none → (∀ g', g' < g → (s.groups.get g').isSome) →
      routeFirst d x e rs s =
        closeGroup g d.key (sendRequests d x (.entry e) (.first g) rs (s.setGroup g (some ⟨0, false, e⟩)))) ∧
    (2 ≤ rs.length → (∀ g, (s.groups.get g).isSome) →
      routeFirst d x e rs s = sendRequests d x (.entry e) .each (rs.take 1) s) ∧
    (rs.length ≤ 1 → routeFirst d x e rs s = sendRequests d x (.entry e) .each rs s)) ∧
  (∀ (g : GroupNo) (x : FirstGroup) (k : Key) (s : State), s.groups.get g = some x →
    (2 ≤ x.live → groupLosesCopy g k s = s.setGroup g (some { x with live := x.live - 1 })) ∧
    (x.live = 1 → x.done = true → groupLosesCopy g k s = s.setGroup g none) ∧
    (x.live = 1 → x.done = false → k.cls = 15 →
      groupLosesCopy g k s = (s.setLostNotices (min 65535 (s.lostNotices + 1))).setGroup g none) ∧
    (x.live = 1 → x.done = false → k.cls ≠ 15 →
      groupLosesCopy g k s = (offerNotice .unclaimed x.entry.val s).setGroup g none)) ∧
  (∀ (g : GroupNo) (k : Key) (s : State),
    (s.groups.get g = none → closeGroup g k s = s) ∧
    ∀ x, s.groups.get g = some x →
      (x.live ≠ 0 → closeGroup g k s = s) ∧
      (x.live = 0 → x.done = true → closeGroup g k s = s.setGroup g none) ∧
      (x.live = 0 → x.done = false → k.cls = 15 →
        closeGroup g k s = (s.setLostNotices (min 65535 (s.lostNotices + 1))).setGroup g none) ∧
      (x.live = 0 → x.done = false → k.cls ≠ 15 →
        closeGroup g k s = (offerNotice .unclaimed x.entry.val s).setGroup g none))

/-! ## The delivery store -/

/-- The free count plus the held counts of clients 0 to 3 equals 128 (R56). Client c may take a record when one is free and c is within
its reserve of four, or when the free records cover one more than the other clients' unused reserves (R61); it takes the lowest FREE
index (R54). -/
def Obligations.PoolAndReserve : Prop :=
  (∀ s : State, freeCount s + (heldCount s 0 + heldCount s 1 + heldCount s 2 + heldCount s 3) = 128) ∧
  (∀ (s : State) (c : Client) (i : RecIndex),
    grantedIndex s c = some i ↔
      ((∃ j, s.record j = none) ∧
        (heldCount s c < 4 ∨ 1 + ((Finset.univ.erase c).sum fun d => 4 - heldCount s d) ≤ freeCount s)) ∧
      s.record i = none ∧ ∀ j, j < i → s.record j ≠ none)

/-- The orders of a client's queue: a new record enters behind the last record of equal or higher priority (R57), a returned or resumed
one at the front (R58), and one whose priority has risen moves forward to such a place or stays (R59). A record placed at the front of
mode EACH takes in another QUEUED EACH record of its key, which is freed without a drop (R70, R71). -/
def Obligations.QueueOrder : Prop :=
  (∀ (s : State) (c : Client) (p : Priority) (i : RecIndex),
    (∃ pre post, s.queue c = pre ++ post ∧ (enqueue s c p i).queue c = pre ++ i :: post ∧
      (∀ j ∈ post, ∀ r, s.record j = some r → r.priority < p) ∧
      (∀ j, pre.getLast? = some j → ∃ r, s.record j = some r ∧ p ≤ r.priority)) ∧
    (enqueueFront s c i).queue c = i :: s.queue c ∧
    ((s.queue c).Nodup → ∀ front behind, s.queue c = front ++ i :: behind →
      ∃ pre post, front ++ behind = pre ++ post ∧ (moveUp s c p i).queue c = pre ++ i :: post ∧
        pre.length ≤ front.length ∧
        (∀ j, pre.getLast? = some j → pre.length < front.length → ∃ r, s.record j = some r ∧ p ≤ r.priority) ∧
        (pre.length < front.length → ∀ j ∈ post, ∀ r, s.record j = some r → r.priority < p) ∧
        (pre.length = front.length → pre = [] ∨
          ∃ j r, (pre.getLast? = some j ∨ j ∈ post) ∧ s.record j = some r ∧ p ≤ r.priority)) ∧
    (∀ d, d ≠ c → (enqueue s c p i).queue d = s.queue d ∧ (enqueueFront s c i).queue d = s.queue d ∧
      (moveUp s c p i).queue d = s.queue d)) ∧
  (∀ (i : RecIndex) (r : Record) (s v : State),
    v = (s.setSlot i ⟨(s.slot i).gen, some r⟩).setQueue r.owner (i :: s.queue r.owner) →
    (r.mode ≠ .each ∨ sameKeyRecord v r.owner r.key (some i) = none → placeAtFront i r s = v) ∧
    (∀ j o, r.mode = .each → sameKeyRecord v r.owner r.key (some i) = some (j, o) →
      (j ≠ i ∧ o.state = .queued ∧ o.mode = .each ∧ o.key = r.key) ∧
      placeAtFront i r s = freeRecord j o .other (v.setSlot i ⟨(s.slot i).gen, some { r with
        count := min 255 (r.count + o.count), priority := max r.priority o.priority, urgent := r.urgent || o.urgent }⟩)))

/-- A making fills the fields of R63 at the index, with its generation raised by one (R54), places the record by R57, raises its
group's live copy count (R48) and applies the POOL_LOW test (R14). -/
def Obligations.MakingFillsANewRecord : Prop :=
  ∀ (i : RecIndex) (q : StoreRequest) (s v w : State),
    v = enqueue (s.setSlot i ⟨(s.slot i).gen + 1,
      some ⟨.queued, q.owner, q.key, q.priority, q.urgent, q.mode, q.hit, q.profile, q.fallback, 1, q.created, false, false,
        none, q.payload, 0⟩⟩) q.owner q.priority i →
    (q.mode = .each → w = v) →
    (∀ g x, q.mode = .first g → s.groups.get g = some x → w = v.setGroup g (some { x with live := x.live + 1 })) →
    (∀ g, q.mode = .first g → s.groups.get g = none → w = v) →
    makeAt i q s =
      if s.sup.poolLowArmed = true ∧ freeCount w ≤ 8 then
        offerNotice .poolLow (freeCount w) (w.setSup { w.sup with poolLowArmed := false })
      else w

/-- A routing request coalesces into the QUEUED EACH record of its key, or is made in a free record, or displaces the last displaceable
record of its owner when urgent, or is dropped (R60, R62 to R65). Coalescing raises the count, takes the higher priority and the urgent
mark, moves the record only when its priority rose, and is reported to CTX and PRS when the priority or the mark rose (R59, R62). The
record displaced is the last of the owner's queue that is QUEUED, not urgent, of mode EACH and of a source below 37 (R65). No request
changes health or what Untouched names. -/
def Obligations.RequestCoalescesMakesDisplacesOrDrops : Prop :=
  (∀ (q : StoreRequest) (s : State),
    (∀ i r, sameKeyRecord s q.owner q.key none = some (i, r) →
      (i ∈ s.queue q.owner ∧ s.record i = some r ∧ r.state = .queued ∧ r.mode = .each ∧ r.key = q.key) ∧
      (q.mode = .each → routingRequest q s = coalesce i r q.priority q.urgent s)) ∧
    (sameKeyRecord s q.owner q.key none = none →
      ∀ i r, i ∈ s.queue q.owner → s.record i = some r → ¬(r.state = .queued ∧ r.mode = .each ∧ r.key = q.key)) ∧
    (q.mode ≠ .each ∨ sameKeyRecord s q.owner q.key none = none →
      (∀ i, grantedIndex s q.owner = some i →
        routingRequest q s = examine q.owner (ctxExamine q.owner (makeAt i q s))) ∧
      (grantedIndex s q.owner = none →
        (q.urgent = false ∨ displacementCandidate s q.owner = none → routingRequest q s = dropFor q.owner q.key s) ∧
        (∀ i r, q.urgent = true → displacementCandidate s q.owner = some (i, r) →
          routingRequest q s = examine q.owner (ctxExamine q.owner
            (makeAt i q (freeUntested i r .drop (dropFor q.owner r.key s)))))))) ∧
  (∀ (i : RecIndex) (r : Record) (p : Priority) (u : Bool) (s v w : State),
    v = s.setRecord i (some { r with
      count := min 255 (r.count + 1), priority := max r.priority p, urgent := r.urgent || u }) →
    w = (if r.priority < p then moveUp v r.owner p i else v) →
    coalesce i r p u s =
      if r.priority < p ∨ (u = true ∧ r.urgent = false) then examine r.owner (ctxExamine r.owner w) else w) ∧
  (∀ (s : State) (c : Client) (i : RecIndex) (r : Record), displacementCandidate s c = some (i, r) →
    s.record i = some r ∧ r.state = .queued ∧ r.urgent = false ∧ r.mode = .each ∧ r.key.source.toNat < 37 ∧
    ∃ pre post, s.queue c = pre ++ i :: post ∧
      ∀ j ∈ post, ∀ o, s.record j = some o →
        ¬(o.state = .queued ∧ o.urgent = false ∧ o.mode = .each ∧ o.key.source.toNat < 37)) ∧
  (∀ (q : StoreRequest) (s : State), (routingRequest q s).health = s.health ∧ (routingRequest q s).waiting = s.waiting ∧
    Untouched s (routingRequest q s))

/-- A free leaves the index its generation and nothing else, takes a QUEUED record out of its owner's queue, and
touches no other record and no other queue; contexts, lines, health and drops stay as they are (R54, R68). It reports, in this order,
a FIRST copy to its group, a post to its slot, "disposed" to the field line of its source when no record of that source is left, a
PRESENTED record to PRS, which removes its unsent DELIVER frame, and the free count to SUP, which arms POOL_LOW again at 32 (R69, R22,
R14). If "disposed" wakes a hub in SLEEP, PRS examines the clients when the operation that freed the record is complete (log entry 39). -/
def Obligations.FreeEndsTheRecord : Prop :=
  (∀ (i : RecIndex) (r : Record) (cause : FreeCause) (s : State),
    (freeWithin i r cause s).slot i = ⟨(s.slot i).gen, none⟩ ∧
    (∀ j, j ≠ i → (freeWithin i r cause s).slot j = s.slot j) ∧
    (∀ c, (freeWithin i r cause s).queue c =
      if c = r.owner ∧ r.state = .queued then (s.queue c).filter (· ≠ i) else s.queue c) ∧
    (freeWithin i r cause s).contexts = s.contexts ∧ (freeWithin i r cause s).clientLines = s.clientLines ∧
    (freeWithin i r cause s).health = s.health ∧ (freeWithin i r cause s).drops = s.drops ∧
    Untouched s (freeWithin i r cause s) ∧
    (s.sup.mode ≠ .sleep → freeRecord i r cause s = freeWithin i r cause s)) ∧
  (∀ (i : RecIndex) (r : Record) (cause : FreeCause) (s v w x y z : State),
    v = (if r.state = .queued then
          (s.setSlot i ⟨(s.slot i).gen, none⟩).setQueue r.owner ((s.queue r.owner).filter (· ≠ i))
        else s.setSlot i ⟨(s.slot i).gen, none⟩) →
    w = (match r.mode with | .first g => groupLosesCopy g r.key v | .each => v) →
    x = (if 37 ≤ r.key.source.toNat ∧ r.key.source.toNat ≤ 40 then settlePost r.key ⟨i, (s.slot i).gen⟩ cause w else w) →
    y = reportDisposed r.key.source x →
    z = (if r.state = .presented then y.setLink r.owner { y.link r.owner with
          hub := (y.link r.owner).hub.filter fun f => !f.delivers ⟨i, (s.slot i).gen⟩ } else y) →
    freeUntested i r cause s = z ∧
    freeRecord i r cause s = completeWake s.sup.mode (freeWithin i r cause s) ∧
    freeWithin i r cause s =
      if z.sup.poolLowArmed = false ∧ 32 ≤ freeCount z then z.setSup { z.sup with poolLowArmed := true } else z) ∧
  (∀ (src : BitVec 6) (s : State),
    (24 ≤ src.toNat → reportDisposed src s = s) ∧
    ((∃ j o, s.record j = some o ∧ o.key.source = src) → reportDisposed src s = s) ∧
    (∀ l : LineNo, src.toNat = l.val → (∀ j o, s.record j = some o → o.key.source ≠ src) →
      reportDisposed src s = lineDisposed l s))

/-! ## Presentation and acknowledgement -/

/-- PRS presents the first record of the queue that qualifies, when every condition of R75 holds, and otherwise does nothing
(R75, R76). The record becomes PRESENTED and leaves the queue, the gate closes, the DELIVER frame is placed, and a signal record
takes the pending flags (R78). -/
def Obligations.PresentationTakesTheFirstQualifying : Prop :=
  ∀ (c : Client) (s : State),
    (¬ MayPresent s c → examine c s = s) ∧
    ((∀ i r, i ∈ s.queue c → s.record i = some r → ¬ Qualifies s c r) → examine c s = s) ∧
    (∀ pre post i r, MayPresent s c → s.queue c = pre ++ i :: post →
      (∀ j ∈ pre, ∀ o, s.record j = some o → ¬ Qualifies s c o) → s.record i = some r → Qualifies s c r →
      examine c s =
        ((((s.setSlot i ⟨(s.slot i).gen, some (presentedForm s c r)⟩).setQueue c ((s.queue c).filter (· ≠ i))).setPosts c
          { s.postsOf c with pendingFlags := if r.key.source = 41 then 0 else (s.postsOf c).pendingFlags }).setPresentation c
          { s.presentationOf c with gateOpen := false }).setLink c
          { s.link c with
            hub := (s.link c).hub ++ [.deliver (deliverOf ⟨i, (s.slot i).gen⟩ (presentedForm s c r))] })

/-- READY is answered in every health state with the counts as they stood; READY is then set, the losses count cleared, and CTX and
PRS examine the client (R82). -/
def Obligations.ReadyIsDeclared : Prop :=
  ∀ (s u : State) (c : Client) (a : Arrival) (q : Request), Takes s c .ready a q u →
    (q.payload ≠ [] → exec (.ready c a) s = .next (replied c q .badField [] u)) ∧
    (q.payload = [] → exec (.ready c a) s = .next (replied c q .ok
      [byte (u.clientLinesOf c).lastCause.code, byte (u.queue c).length, byte (u.dropsOf c).sinceReady,
       byte (contextCode (u.contextsOf c).active)]
      (examine c (ctxExamine c ((u.setPresentation c { u.presentationOf c with ready := true }).setDrops c
        { u.dropsOf c with sinceReady := 0 })))))

/-- The checks and the comparisons of an ACK, in their order, with their replies and score changes (R84, R85). -/
def Obligations.AckIsComparedInOrder : Prop :=
  ∀ (s u : State) (c : Client) (a : Arrival) (q : Request), Takes s c .ack a q u →
    ((∀ h d, q.payload ≠ ackBytes h d) → exec (.ack c a) s = .next (replied c q .badField [] u)) ∧
    (∀ h d, q.payload = ackBytes h d →
      (u.attached c = false → exec (.ack c a) s = .next (replied c q .detached [] u)) ∧
      (u.attached c = true →
        (∀ r, namedRecord u c .presented h = some r → exec (.ack c a) s = .next (replied c q .ok
          [byte ((ackPresented c h.index r d u).queue c).length] (ackPresented c h.index r d u))) ∧
        (namedRecord u c .presented h = none →
          (∀ r, namedRecord u c .suspended h = some r → exec (.ack c a) s = .next (replied c q .ok
            [byte ((ackSuspended c h.index r d u).queue c).length] (ackSuspended c h.index r d u))) ∧
          (namedRecord u c .suspended h = none →
            ((u.presentationOf c).lastRecalled = some h →
              exec (.ack c a) s = .next (replied c q .takenElsewhere [] u)) ∧
            ((u.presentationOf c).lastRecalled ≠ some h →
              exec (.ack c a) s = .next (replied c q .stale [] (chargeScore c 4 u)))))))

/-- An ACK of the PRESENTED record frees it, releases the attention line, ends hold-off in OPERATE and lowers the score by one unless
the record has expired (R85, R86, R111). An ACK of the SUSPENDED record frees it and clears the suspended handle; no score, gate or
active context changes (R87, R106). Both leave what Untouched names, and every drop count, as they are.
The steps: the attention line is released; a DONE of a copy of a group not yet done sets its done field and withdraws every other copy,
in ascending order of owner (R90); the record is freed with cause ACK DONE or ACK DECLINE; the gate opens and PRS examines (R81);
hold-off ends in OPERATE; the score falls (R86). For the SUSPENDED record the steps are the group, the free and the handle (R87). -/
def Obligations.AckFreesTheNamedRecord : Prop :=
  (∀ (c : Client) (h : Handle) (r : Record) (d : Disposition) (u : State), namedRecord u c .presented h = some r →
    u.attached c = true →
    ((ackPresented c h.index r d u).slot h.index = ⟨h.gen, none⟩) ∧
    ((ackPresented c h.index r d u).clientLinesOf c).attention = false ∧
    ((u.contextsOf c).active = .operate → ((ackPresented c h.index r d u).contextsOf c).holdOff = false) ∧
    ((ackPresented c h.index r d u).healthOf c).score =
      ((u.healthOf c).score - if ∃ e, r.esc = some e ∧ e.expired = true then 0 else 1) ∧
    (∀ j, u.record j = none → (ackPresented c h.index r d u).record j = none) ∧
    (∀ k, k ≠ c → (ackPresented c h.index r d u).healthOf k = u.healthOf k) ∧
    (ackPresented c h.index r d u).drops = u.drops ∧ Untouched u (ackPresented c h.index r d u)) ∧
  (∀ (c : Client) (h : Handle) (r : Record) (d : Disposition) (u : State), namedRecord u c .suspended h = some r →
    u.sup.mode ≠ .sleep → (r.mode = .each ∨ d = .decline) →
    ((ackSuspended c h.index r d u).slot h.index = ⟨h.gen, none⟩) ∧
    ((ackSuspended c h.index r d u).contextsOf c) = { u.contextsOf c with suspended := none } ∧
    ((ackSuspended c h.index r d u).presentation = u.presentation) ∧
    ((ackSuspended c h.index r d u).health = u.health) ∧
    ((ackSuspended c h.index r d u).queues = u.queues) ∧
    (∀ j, j ≠ h.index → (ackSuspended c h.index r d u).slot j = u.slot j) ∧
    (ackSuspended c h.index r d u).clientLines = u.clientLines ∧ (ackSuspended c h.index r d u).drops = u.drops ∧
    Untouched u (ackSuspended c h.index r d u)) ∧
  (∀ (c : Client) (i : RecIndex) (r : Record) (d : Disposition) (s w x y : State),
    (w = freeRecord i r (match d with | .done => .ackDone | .decline => .ackDecline)
        (decideGroup i r d (s.setClientLines c { s.clientLinesOf c with attention := false })) →
      x = examine c (w.setPresentation c { w.presentationOf c with gateOpen := true }) →
      y = (if (x.contextsOf c).active = .operate ∧ (x.contextsOf c).holdOff = true then
          ctxExamine c (x.setContexts c { x.contextsOf c with holdOff := false, holdOffLeft := 0 })
        else x) →
      ackPresented c i r d s = if r.esc.map Escalation.expired = some true then y else lowerScore c y) ∧
    (w = freeRecord i r (match d with | .done => .ackDone | .decline => .ackDecline) (decideGroup i r d s) →
      ackSuspended c i r d s = w.setContexts c { w.contextsOf c with suspended := none })) ∧
  (∀ (i : RecIndex) (r : Record) (d : Disposition) (s : State),
    (r.mode = .each ∨ d = .decline → decideGroup i r d s = s) ∧
    ∀ g, r.mode = .first g →
      (s.groups.get g = none → decideGroup i r d s = s) ∧
      ∀ x, s.groups.get g = some x →
        (x.done = true → decideGroup i r d s = s) ∧
        (x.done = false → decideGroup i r .done s = ([0, 1, 2, 3] : List Client).foldl (withdrawFrom g i)
          (s.setGroup g (some { x with done := true })))) ∧
  (∀ (g : GroupNo) (i : RecIndex) (d : Client) (s : State),
    ((∀ j o, j ≠ i → s.record j = some o → o.owner = d → o.mode ≠ .first g) → withdrawFrom g i s d = s) ∧
    (∀ j r, j ≠ i → s.record j = some r → r.owner = d → r.mode = .first g →
      (∀ k o, k < j → k ≠ i → s.record k = some o → o.owner = d → o.mode ≠ .first g) →
      withdrawFrom g i s d = withdrawCopy d j r s))

/-- The first ACK DONE of a FIRST group wins it: no other copy of the group is left, so the group never has more than one copy
completed DONE (R90). -/
def Obligations.FirstDoneTakesTheWholeGroup : Prop :=
  ∀ (c : Client) (h : Handle) (r : Record) (u : State) (g : GroupNo) (x : FirstGroup),
    (namedRecord u c .presented h = some r ∨ namedRecord u c .suspended h = some r) → r.mode = .first g →
    u.groups.get g = some x → x.done = false →
    (∀ i j ri rj, u.record i = some ri → u.record j = some rj → ri.mode = .first g → rj.mode = .first g →
      ri.owner = rj.owner → i = j) →
    (∀ j o, (ackPresented c h.index r .done u).record j = some o → o.mode ≠ .first g) ∧
    (∀ j o, (ackSuspended c h.index r .done u).record j = some o → o.mode ≠ .first g)

/-- The withdrawal of another copy of a won group, by its state (R91, R92; that an unsent DELIVER frame decides whether RECALL is sent
only for a PRESENTED copy, and that RECALL comes after the examination, are the model's readings: log entries 13 and 14). The withdrawal of
a SUSPENDED copy changes neither the gate nor the active context. Every other record keeps its owner, key and mode. -/
def Obligations.WithdrawalFollowsTheCopysState : Prop :=
  (∀ (d : Client) (j : RecIndex) (r : Record) (s : State), s.record j = some r →
    (r.state = .queued → withdrawCopy d j r s = freeRecord j r .other s) ∧
    (r.state ≠ .queued → ((withdrawCopy d j r s).presentationOf d).lastRecalled = some ⟨j, (s.slot j).gen⟩) ∧
    (r.state = .presented → ((withdrawCopy d j r s).clientLinesOf d).attention = false) ∧
    (r.state = .presented → (∃ f ∈ (s.link d).hub, ∃ b, f = .deliver b ∧ b.handle = ⟨j, (s.slot j).gen⟩) →
      withdrawCopy d j r s = openGate d (setLastRecalled d (some ⟨j, (s.slot j).gen⟩)
        (freeRecord j r .other (setAttention d false s)))) ∧
    (r.state = .presented → (∀ b, b.handle = ⟨j, (s.slot j).gen⟩ → .deliver b ∉ (s.link d).hub) →
      withdrawCopy d j r s = placeHubFrame d (.recall ⟨j, (s.slot j).gen⟩) (openGate d
        (setLastRecalled d (some ⟨j, (s.slot j).gen⟩) (freeRecord j r .other (setAttention d false s))))) ∧
    (r.state = .suspended → withdrawCopy d j r s = placeHubFrame d (.recall ⟨j, (s.slot j).gen⟩) (clearSuspended d
      (setLastRecalled d (some ⟨j, (s.slot j).gen⟩) (freeRecord j r .other s)))) ∧
    (r.state = .suspended → s.sup.mode ≠ .sleep →
      ((withdrawCopy d j r s).presentationOf d).gateOpen = (s.presentationOf d).gateOpen ∧
      (withdrawCopy d j r s).contextsOf d = { s.contextsOf d with suspended := none }) ∧
    (∀ i o, i ≠ j → s.record i = some o → ∃ o', (withdrawCopy d j r s).record i = some o' ∧ o'.owner = o.owner ∧
      o'.key = o.key ∧ o'.mode = o.mode) ∧
    (withdrawCopy d j r s).record j = none ∧ (withdrawCopy d j r s).health = s.health ∧ Untouched s (withdrawCopy d j r s)) ∧
  (∀ (c : Client) (h : Option Handle) (on : Bool) (s : State),
    setAttention c on s = s.setClientLines c { s.clientLinesOf c with attention := on } ∧
    setLastRecalled c h s = s.setPresentation c { s.presentationOf c with lastRecalled := h } ∧
    clearSuspended c s = s.setContexts c { s.contextsOf c with suspended := none } ∧
    openGate c s = examine c (s.setPresentation c { s.presentationOf c with gateOpen := true }))

/-- A hub frame is placed as the youngest of its link, or takes the place and the age of an unsent frame of its kind (R92, R107, R150,
R164). The free of a post record settles the slot that holds its handle, and a WAITING slot's outcome goes into the unsent SLOTS frame
of the sender or a new one (R149, R150). -/
def Obligations.OutcomesAndFramesInPlace : Prop :=
  (∀ (c : Client) (f : HubFrame) (s : State),
    ((∀ g ∈ (s.link c).hub, g.kindByte ≠ f.kindByte) →
      placeHubFrame c f s = s.setLink c { s.link c with hub := (s.link c).hub ++ [f] }) ∧
    (∀ pre post g, (s.link c).hub = pre ++ g :: post → g.kindByte = f.kindByte →
      (∀ o ∈ pre ++ post, o.kindByte ≠ f.kindByte) →
      placeHubFrame c f s = s.setLink c { s.link c with hub := pre ++ f :: post })) ∧
  (∀ (k : Key) (h : Handle) (cause : FreeCause) (p : Client) (n : SlotNo) (s v : State), p = k.postSender → n = k.postSlot →
    v = s.setPosts p { s.postsOf p with slots := (s.postsOf p).slots.set n .empty } →
    (∀ t, (s.postsOf p).slots.get n = .orphaned t h → settlePost k h cause s = v) ∧
    (∀ t, (s.postsOf p).slots.get n = .waiting t h → settlePost k h cause s = match cause with
      | .ackDone => reportOutcome p n .taken v
      | .ackDecline => reportOutcome p n .declined v
      | .drop => reportOutcome p n .lost v
      | .other => v) ∧
    (∀ o, (∀ x, .slots x ∉ (s.link p).hub) → reportOutcome p n o s = s.setLink p { s.link p with
      hub := (s.link p).hub ++ [.slots ((Table.const ⟨.none, 0⟩).set n ⟨o, 1⟩)] }) ∧
    (∀ o pre post x, (s.link p).hub = pre ++ .slots x :: post →
      (∀ y, .slots y ∉ pre ++ post) → reportOutcome p n o s = s.setLink p { s.link p with
        hub := pre ++ .slots (x.set n ⟨o, min 255 ((x.get n).number + 1)⟩) :: post }))

/-! ## Contexts and exchange -/

/-- CONTEXT_SET replaces the named context's class set and threshold; PRS examines if that context is active, and CTX examines (R99;
that PRS comes first is the model's reading, log entry 31). TIMER_SET sets mode, remaining time and, for PERIODIC, reload, and reports
the time that remained (R101). -/
def Obligations.ContextAndTimerSettings : Prop :=
  (∀ (s u : State) (c : Client) (a : Arrival) (q : Request), Takes s c .contextSet a q u →
    ((∀ k classes p, q.payload ≠ contextSetBytes k classes p) →
      exec (.contextSet c a) s = .next (replied c q .badField [] u)) ∧
    (∀ k classes p v, q.payload = contextSetBytes k classes p →
      v = u.setContexts c ((u.contextsOf c).set k
        { (u.contextsOf c).get k with classes := classes, threshold := p }) →
      exec (.contextSet c a) s = .next (judged c q u [(!u.attached c, .detached)]
        (replied c q .ok [] (ctxExamine c (if (u.contextsOf c).active = k then examine c v else v)))))) ∧
  (∀ (s u : State) (c : Client) (a : Arrival) (q : Request), Takes s c .timerSet a q u →
    ((∀ k x, Allowed x → q.payload ≠ timerSetBytes k x) →
      exec (.timerSet c a) s = .next (replied c q .badField [] u)) ∧
    (∀ k x, Allowed x → q.payload = timerSetBytes k x →
      exec (.timerSet c a) s = .next (judged c q u [(!u.attached c, .detached)]
        (replied c q .ok (be24 ((u.contextsOf c).get k).left)
          (u.setContexts c ((u.contextsOf c).set k { (u.contextsOf c).get k with
            timerMode := x.mode
            left := x.time
            reload := if x.mode = .periodic then x.reload else ((u.contextsOf c).get k).reload }))))))

/-- EXCHANGE: the four cases of R102 after its checks, with the reply's context and suspended handle (those the exchange itself gives,
log entry 15). CTX makes a forced exchange exactly when the forced-exchange condition holds (R108, R109, R110). The hold-off timer's
expiry clears hold-off, and CTX examines (R111). -/
def Obligations.ExchangeByRequestOrForced : Prop :=
  (∀ (s u : State) (c : Client) (a : Arrival) (q : Request), Takes s c .exchange a q u →
    (q.payload ≠ [0] → q.payload ≠ [1] → exec (.exchange c a) s = .next (replied c q .badField [] u)) ∧
    (q.payload = [0] ∨ q.payload = [1] → u.attached c = false →
      exec (.exchange c a) s = .next (replied c q .detached [] u)) ∧
    (u.attached c = true →
      (q.payload = [0] → (u.contextsOf c).active = .operate →
        exec (.exchange c a) s = .next (replied c q .same [] u)) ∧
      (q.payload = [1] → (u.contextsOf c).active = .service →
        exec (.exchange c a) s = .next (replied c q .same [] u)) ∧
      (q.payload = [1] → (u.contextsOf c).active = .operate →
        exec (.exchange c a) s = .next (replied c q .ok (1 :: handleBytes ((presentedOf u c).map u.handleAt))
          (exchangeToService c .request u))) ∧
      (q.payload = [0] → (u.contextsOf c).active = .service → (presentedOf u c).isSome = true →
        exec (.exchange c a) s = .next (replied c q .busy [] u)) ∧
      (q.payload = [0] → (u.contextsOf c).active = .service → presentedOf u c = none →
        exec (.exchange c a) s = .next (replied c q .ok [0, 255, 255] (exchangeToOperate c u))))) ∧
  (∀ (c : Client) (s : State),
    (Forced s c → ctxExamine c s = exchangeToService c .forced s) ∧ (¬ Forced s c → ctxExamine c s = s)) ∧
  (∀ (c : Client) (s u : State), Due (.holdOff c) s → u = marked (.holdOff c) (moment s) →
    exec (.holdOffExpiry c) s = .next (settle (ctxExamine c
      (u.setContexts c { u.contextsOf c with holdOff := false, holdOffLeft := 0 }))))

/-- The exchange to SERVICE: the PRESENTED record is suspended with its stage frozen in it, the attention line released and an unsent
DELIVER frame removed (R104); SERVICE becomes active, hold-off ends, a CONTEXT frame is placed, the gate opens and PRS examines (R103);
without a PRESENTED record nothing is suspended. The exchange to OPERATE: OPERATE becomes active, hold-off starts unless its time is 0,
the SUSPENDED record is resumed at the front of the queue, a signal record's flags rejoin the pending set, a CONTEXT frame is placed,
and PRS and then CTX examine (R105, R112, R155). -/
def Obligations.ExchangesChangeTheContext : Prop :=
  (∀ (c : Client) (cause : ContextCause) (s : State),
    (presentedOf s c = none → exchangeToService c cause s =
      examine c (placeHubFrame c (.context .service cause none) (s.setContexts c
        { s.contextsOf c with suspended := none, active := .service, holdOff := false, holdOffLeft := 0 }))) ∧
    (∀ i r v, presentedOf s c = some i → s.record i = some r →
      v = (((s.setClientLines c { s.clientLinesOf c with attention := false }).setSlot i
          ⟨(s.slot i).gen, some { r with state := .suspended }⟩).setLink c
          { s.link c with hub := (s.link c).hub.filter fun f => !f.delivers ⟨i, (s.slot i).gen⟩ }).setContexts c
          { s.contextsOf c with
            suspended := some ⟨i, (s.slot i).gen⟩, active := .service, holdOff := false, holdOffLeft := 0 } →
      exchangeToService c cause s =
      examine c ((placeHubFrame c (.context .service cause (some ⟨i, (s.slot i).gen⟩)) v).setPresentation c
        { s.presentationOf c with gateOpen := true }))) ∧
  (∀ (c : Client) (s v : State),
    v = s.setContexts c { s.contextsOf c with
      active := .operate
      holdOff := (s.contextsOf c).holdOff || (s.contextsOf c).holdOffTime ≠ 0
      holdOffLeft := if (s.contextsOf c).holdOffTime = 0 then (s.contextsOf c).holdOffLeft
        else (s.contextsOf c).holdOffTime } →
    (suspendedOf s c = none → exchangeToOperate c s =
      ctxExamine c (examine c (placeHubFrame c (.context .operate .request none) v))) ∧
    (∀ i r w, suspendedOf s c = some i → s.record i = some r →
      w = placeAtFront i { r with state := .queued, resumed := true, flags := 0 }
        (v.setPosts c { s.postsOf c with pendingFlags := (s.postsOf c).pendingFlags |||
          if r.key.source = 41 then r.flags else 0 }) →
      exchangeToOperate c s = ctxExamine c (examine c (placeHubFrame c (.context .operate .request none)
        (w.setContexts c { w.contextsOf c with suspended := none })))))

/-! ## Escalation -/

/-- The end of a DELIVER frame begins the deadline of a record in WAITING (or SPENT, when the profile has none), continues a frozen
stage with its attention line, and frees the link: PRS examines (R79, R121). -/
def Obligations.StageBeginsWhenDelivered : Prop :=
  ∀ (c : Client) (d : DeliverFields) (i : RecIndex) (r : Record) (e : Escalation) (s v : State),
    (s.link c).tx = some (.hub (.deliver d)) → v = s.setLink c { s.link c with tx := none } →
    (presentedOf s c = none → exec (.transmissionEnd c) s = .next (settle (examine c v))) ∧
    (presentedOf s c = some i → s.record i = some r →
      (d.handle ≠ ⟨i, (s.slot i).gen⟩ → exec (.transmissionEnd c) s = .next (settle (examine c v))) ∧
      (d.handle = ⟨i, (s.slot i).gen⟩ → r.esc = some e →
        (e.stage = .waiting → (s.profiles.get r.profile).deadline ≠ 0 →
          exec (.transmissionEnd c) s = .next (settle (examine c (v.setSlot i ⟨(s.slot i).gen,
            some { r with esc := some ⟨.deadline, (s.profiles.get r.profile).deadline, false, false⟩ }⟩)))) ∧
        (e.stage = .waiting → (s.profiles.get r.profile).deadline = 0 →
          exec (.transmissionEnd c) s = .next (settle (examine c (v.setSlot i ⟨(s.slot i).gen,
            some { r with esc := some ⟨.spent, 0, false, false⟩ }⟩)))) ∧
        (e.stage ≠ .waiting → e.asserting = false → exec (.transmissionEnd c) s = .next (settle (examine c v))) ∧
        (e.stage ≠ .waiting → e.asserting = true →
          exec (.transmissionEnd c) s = .next (settle (examine c
            (v.setClientLines c { s.clientLinesOf c with attention := true }))))))

/-- A deadline expiry charges +8 with its HEALTH notice, offers ESCALATED with the action's number, and takes the profile's action, or
carries out the detach that the charge begins (R122). The delay expiry takes a client reset with cause escalation; if that discards the
reply of a pending RESET_HUB of the client, the board reset follows (R123, R178). -/
def Obligations.StageExpiriesEscalate : Prop :=
  (∀ (c : Client) (i : RecIndex) (r : Record) (e : Escalation) (p : Profile) (s u v w : State),
    Due (.stage c) s → (escOf s c).map Escalation.stage = some .deadline → u = marked (.stage c) (moment s) →
    heldIn u c .presented = some (i, r) → r.esc = some e → e.stage = .deadline → u.attached c = true →
    p = u.profiles.get r.profile →
    v = u.setSlot i ⟨(u.slot i).gen, some { r with esc := some { e with left := 0, expired := true } }⟩ →
    ((u.healthOf c).score + 8 ≤ 255 →
      w = offerNotice .escalated (16 * c.val + p.action.code) (applyScore c ((u.healthOf c).score + 8) v) →
      exec (.deadlineExpiry c) s = .next (settle (match p.action with
        | .noteOnly => w.setRecord i (some { r with esc := some ⟨.spent, 0, true, false⟩ })
        | .attention => setAttention c true (w.setRecord i (some { r with esc := some ⟨.spent, 0, true, true⟩ }))
        | .clientReset => clientReset c .escalation w
        | .attentionThenReset => setAttention c true (w.setRecord i
            (some { r with esc := some ⟨.delay, 16 * 2 ^ p.delayCode.val, true, true⟩ }))
        | .boardReset => boardReset .escalation (some c) w))) ∧
    (255 < (u.healthOf c).score + 8 →
      w = finishDetach c (offerNotice .escalated (16 * c.val + p.action.code)
        (offerNotice .health (16 * c.val + 3) (v.setHealth c ⟨255, .detached, 0, 0⟩))) →
      exec (.deadlineExpiry c) s = .next (settle
        (if p.action = .boardReset then boardReset .escalation (some c) w else w)))) ∧
  (∀ (c : Client) (i : RecIndex) (r : Record) (e : Escalation) (s u : State),
    Due (.stage c) s → (escOf s c).map Escalation.stage = some .delay → u = marked (.stage c) (moment s) →
    heldIn u c .presented = some (i, r) → r.esc = some e → e.stage = .delay →
    exec (.delayExpiry c) s = .next (settle (
      if u.sup.resetPending = some c then boardReset .request (some c) (clientResetSteps c .escalation u)
      else clientResetSteps c .escalation u)))

/-- What a client reset leaves of its client (R127, R128, R114, R131, R156): the line asserted for the pulse width, the link flushed but
for the CONTEXT frame of a change to OPERATE, READY clear with the gate open, the contexts at their defaults, no record PRESENTED,
SUSPENDED or a signal, the attention line released, the cause recorded, and health, other clients' contexts and lines, and what
Untouched names unchanged. No work is lost: each record of the client but a signal is left QUEUED, or merged into one of its key, with
no lower priority, and a returned one is marked interrupted and has no stage (R70; a post of the client to itself cannot be, R147). -/
def Obligations.ClientResetLeavesDefaults : Prop :=
  ∀ (c : Client) (cause : ResetCause) (s t : State), t = clientResetSteps c cause s → RecordLaw s →
    t.clientLinesOf c = ⟨false, true, (s.clientLinesOf c).pulseWidth, (s.clientLinesOf c).pulseWidth, cause⟩ ∧
    (t.link c).receiver = .hunt ∧ (t.link c).requests = [] ∧ (t.link c).replies = [] ∧ (t.link c).tx = none ∧
    (t.link c).hub = (if (s.contextsOf c).active = .service then [.context .operate .reset none] else []) ∧
    t.presentationOf c = ⟨false, true, none⟩ ∧
    t.contextsOf c = ⟨⟨0xFFFF, 0, .off, 0, 1000⟩, ⟨0xFFFF, 0, .off, 0, 1000⟩, none, .operate, false, 0,
      (s.contextsOf c).holdOffTime⟩ ∧
    t.waiting.get (timerNo c .operate) = none ∧ t.waiting.get (timerNo c .service) = none ∧
    (∀ i r, t.record i = some r → r.owner = c → r.state = .queued ∧ r.key.source ≠ 41) ∧
    ((∀ n d h, (s.postsOf c).slots.get n = .waiting d h → d ≠ c) →
      ∀ i r, s.record i = some r → r.owner = c → r.key.source ≠ 41 →
        ∃ j o, t.record j = some o ∧ o.owner = c ∧ o.key = r.key ∧ o.mode = r.mode ∧ o.state = .queued ∧
          r.priority ≤ o.priority ∧ (r.urgent = true → o.urgent = true) ∧
          (r.state ≠ .queued → o.interrupted = true ∧ o.esc = none)) ∧
    (t.postsOf c).pendingFlags = 0 ∧ t.health = s.health ∧ Untouched s t ∧
    ∀ d, d ≠ c → t.contextsOf d = s.contextsOf d ∧ t.clientLinesOf d = s.clientLinesOf d

/-- A client reset of cause escalation or forced in the order of R127: after steps 1 to 4, the PRESENTED and then the SUSPENDED record is
placed at the front of the queue, QUEUED, marked interrupted and without a stage, a signal left for PST (R58, R70); the pending set is
emptied and the client's signals freed (R156); each of its own WAITING slots loses its post, or is ORPHANED when the record is no longer
QUEUED (R152); the attention line is released and the cause recorded; and the CLIENT_RESET notice is offered (R11). -/
def Obligations.ClientResetInItsSteps : Prop :=
  (∀ (c : Client) (cause : ResetCause) (s v w : State),
    v = contextsToDefaults c (clearReady c (flushLink c (startPulse c s))) →
    w = settleOwnSlots c (clearSignals c (returnHeld c .suspended (returnHeld c .presented v))) →
    clientResetSteps c cause s = offerNotice .clientReset (16 * c.val + cause.code)
      (w.setClientLines c { w.clientLinesOf c with attention := false, lastCause := cause })) ∧
  (∀ (c : Client) (st : RecState) (s : State),
    (heldIn s c st = none → returnHeld c st s = s) ∧
    ∀ i r, heldIn s c st = some (i, r) →
      (r.key.source = 41 → returnHeld c st s = s) ∧
      (r.key.source ≠ 41 → st = .suspended → returnHeld c st s =
        placeAtFront i { r with state := .queued, interrupted := true, esc := none } s) ∧
      (r.key.source ≠ 41 → st = .presented → returnHeld c st s =
        placeAtFront i { r with state := .queued, interrupted := true, esc := none }
          (s.setLink r.owner { s.link r.owner with
            hub := (s.link r.owner).hub.filter fun f => !f.delivers ⟨i, (s.slot i).gen⟩ }))) ∧
  (∀ (c : Client) (s : State),
    clearSignals c s = recIndexes.foldl (freeSignal c) (s.setPosts c { s.postsOf c with pendingFlags := 0 }) ∧
    (∀ i r, s.record i = some r → r.owner = c → r.key.source = 41 → freeSignal c s i = freeRecord i r .other s) ∧
    (∀ i, (∀ r, s.record i = some r → r.owner ≠ c ∨ r.key.source ≠ 41) → freeSignal c s i = s) ∧
    settleOwnSlots c s =
      settleOwnSlot c (settleOwnSlot c (settleOwnSlot c (settleOwnSlot c s 0) 1) 2) 3 ∧
    (∀ n, (∀ t h, (s.postsOf c).slots.get n ≠ .waiting t h) → settleOwnSlot c s n = s) ∧
    (∀ n t h, (s.postsOf c).slots.get n = .waiting t h →
      (∀ r, namedRecord s t .queued h = some r → settleOwnSlot c s n = freeRecord h.index r .other s) ∧
      (namedRecord s t .queued h = none → settleOwnSlot c s n =
        s.setPosts c { s.postsOf c with slots := (s.postsOf c).slots.set n (.orphaned t h) })))

/-- A context timer that runs out offers its event, or gets or keeps its waiting expiry when the intake queue is full; then ONCE
becomes OFF and PERIODIC reloads (R100, R8). The ends of the reset pulses, of the board-reset output and of a spacing timer (R127, R131,
R126, R141; that a client's own running pulse outlasts the common one is the model's reading, log entry 22). -/
def Obligations.TimersEndWithTheirEffects : Prop :=
  (∀ (c : Client) (k : ContextName) (s u w : State), Due (.context c k) s → u = marked (.context c k) (moment s) →
    w = (if u.intake.length < 16 then
          u.setIntake (u.intake ++ [⟨⟨BitVec.ofNat 6 (28 + 2 * c.val + contextCode k), 14, 0⟩, u.time.counter⟩])
        else if (u.waiting.get (timerNo c k)).isSome then u
        else u.setWaiting (timerNo c k)
          (some ⟨⟨BitVec.ofNat 6 (28 + 2 * c.val + contextCode k), 14, 0⟩, u.time.counter⟩)) →
    exec (.contextTimerExpiry c k) s = .next (settle (w.setContexts c ((u.contextsOf c).set k
      (if ((u.contextsOf c).get k).timerMode = .periodic then
        { (u.contextsOf c).get k with left := ((u.contextsOf c).get k).reload }
      else { (u.contextsOf c).get k with timerMode := .off, left := 0 }))))) ∧
  ((∀ (c : Client) (s u : State), Due (.pulse c) s → u = marked (.pulse c) (moment s) →
    exec (.clientResetPulseExpiry c) s = .next (settle
      (u.setClientLines c { u.clientLinesOf c with resetLine := false, pulseLeft := 0 }))) ∧
  (∀ s u : State, Due .boardPulse s → u = marked .boardPulse (moment s) → ∃ v,
    exec .boardResetPulseExpiry s = .next (settle v) ∧ v.board = { u.board with pulseLeft := 0 } ∧
    (∀ c, v.clientLinesOf c = if (u.clientLinesOf c).pulseLeft = 0 then
      { u.clientLinesOf c with resetLine := false, pulseLeft := 0 } else u.clientLinesOf c) ∧
    v.pool = u.pool ∧ v.links = u.links ∧ v.intake = u.intake ∧ v.sup = u.sup) ∧
  (∀ s u : State, Due .boardOutput s → u = marked .boardOutput (moment s) →
    exec .boardResetOutputExpiry s = .next (settle (u.setBoard { u.board with output := false, outputLeft := 0 }))) ∧
  (∀ (c : Client) (s u : State), Due (.spacing c) s → u = marked (.spacing c) (moment s) →
    exec (.spacingTimerExpiry c) s = .next (settle (u.setHealth c { u.healthOf c with spacingLeft := 0 }))))

/-! ## Health -/

/-- A score change of an attached client gives the score, the health state of its band and, when the state changes, one HEALTH notice and,
into or out of RESTRICTED, an examination; above 255 it detaches; of a client not attached it is not applied (R134). -/
def Obligations.ScoreChangesByItsBands : Prop :=
  ∀ (c : Client) (k : Nat) (s : State),
    (s.attached c = false → chargeScore c k s = s ∧ lowerScore c s = s) ∧
    (s.attached c = true → 255 < (s.healthOf c).score + k → chargeScore c k s = detach c s) ∧
    (s.attached c = true → (s.healthOf c).score + k ≤ 255 →
      chargeScore c k s = applyScore c ((s.healthOf c).score + k) s) ∧
    (s.attached c = true → lowerScore c s = applyScore c ((s.healthOf c).score - 1) s) ∧
    (∀ n v, v = s.setHealth c { s.healthOf c with score := n, health := bandOf n } →
      (bandOf n = (s.healthOf c).health → applyScore c n s = v) ∧
      (bandOf n ≠ (s.healthOf c).health → bandOf n ≠ .restricted → (s.healthOf c).health ≠ .restricted →
        applyScore c n s = offerNotice .health (16 * c.val + (bandOf n).code) v) ∧
      (bandOf n ≠ (s.healthOf c).health → (bandOf n = .restricted ∨ (s.healthOf c).health = .restricted) →
        applyScore c n s = examine c (offerNotice .health (16 * c.val + (bandOf n).code) v)))

/-- A detach leaves its client DETACHED with score 255 and no record that is not FREE, its suspended handle none, its pending flags
empty, its gate open and its attention line released; READY, the active context, other clients' health and what Untouched names stay
(R137). -/
def Obligations.DetachLeavesNoRecord : Prop :=
  ∀ (c : Client) (s t : State), t = detach c s →
    (∀ i r, s.record i = some r → r.owner = c → presentedOf s c = some i ∨ suspendedOf s c = some i ∨ i ∈ s.queue c) →
    t.healthOf c = ⟨255, .detached, 0, 0⟩ ∧
    (∀ i r, t.record i = some r → r.owner ≠ c) ∧
    (t.contextsOf c).suspended = none ∧ (t.postsOf c).pendingFlags = 0 ∧ (t.presentationOf c).gateOpen = true ∧
    (t.clientLinesOf c).attention = false ∧
    (t.presentationOf c).ready = (s.presentationOf c).ready ∧ (t.contextsOf c).active = (s.contextsOf c).active ∧
    (∀ d, d ≠ c → t.healthOf d = s.healthOf d) ∧ Untouched s t

/-- A detach disposes of the PRESENTED, the SUSPENDED and then the QUEUED records from the front (R137), each by the first line of R138's
table that fits it: a signal is freed, a post dropped, a record whose fallback can receive it transferred, or freed where the fallback
holds a copy of its group, and any other dropped. A transfer moves the record into the fallback's queue by its priority, QUEUED and
without a stage, or merges it into a QUEUED EACH record of its key (R72). The fallbacks that received one are examined afterwards, in
ascending order (the model's choice, log entry 21), and a hub in SLEEP that a free has woken after them (log entry 39): no examination
falls between the steps. -/
def Obligations.DetachDisposesOfEachRecord : Prop :=
  (∀ (c : Client) (s u v : State) (p : State × List Client),
    u = offerNotice .health (16 * c.val + 3) (s.setHealth c ⟨255, .detached, 0, 0⟩) →
    v = u.setClientLines c { u.clientLinesOf c with attention := false } →
    p = ((presentedOf v c).toList ++ (suspendedOf v c).toList ++ v.queue c).foldl (disposeAt c) (v, []) →
    detach c s = completeWake s.sup.mode (([0, 1, 2, 3] : List Client).foldl
      (fun x d => if d ∈ p.2 then examine d (ctxExamine d x) else x) (examine c (clearDetached c p.1)))) ∧
  (∀ (c : Client) (i : RecIndex) (s : State) (fs : List Client),
    (s.record i = none → disposeAt c (s, fs) i = (s, fs)) ∧
    ∀ r, s.record i = some r →
      (r.key.source = 41 → disposeAt c (s, fs) i = (freeWithin i r .other s, fs)) ∧
      (37 ≤ r.key.source.toNat → r.key.source.toNat ≤ 40 →
        disposeAt c (s, fs) i = (freeWithin i r .drop (dropFor c r.key s), fs)) ∧
      (r.key.source.toNat < 37 ∨ 41 < r.key.source.toNat →
        ((∀ f, r.fallback = some f → s.attached f = false ∨ f = c) →
          disposeAt c (s, fs) i = (freeWithin i r .drop (dropFor c r.key s), fs)) ∧
        ∀ f, r.fallback = some f → s.attached f = true → f ≠ c →
          (r.mode = .each → disposeAt c (s, fs) i = (transfer i r f s, f :: fs)) ∧
          (∀ g, r.mode = .first g →
            ((∃ j o, s.record j = some o ∧ o.owner = f ∧ o.mode = .first g) →
              disposeAt c (s, fs) i = (freeWithin i r .other s, fs)) ∧
            ((∀ j o, s.record j = some o → o.owner = f → o.mode ≠ .first g) →
              disposeAt c (s, fs) i = (transfer i r f s, f :: fs))))) ∧
  (∀ (i : RecIndex) (r : Record) (f : Client) (s : State),
    (∀ j o v, r.mode = .each → sameKeyRecord s f r.key none = some (j, o) →
      v = s.setSlot j ⟨(s.slot j).gen, some { o with
        count := min 255 (o.count + r.count), priority := max o.priority r.priority, urgent := o.urgent || r.urgent }⟩ →
      transfer i r f s = freeWithin i r .other (if o.priority < r.priority then moveUp v o.owner r.priority j else v)) ∧
    (∀ v w, r.mode ≠ .each ∨ sameKeyRecord s f r.key none = none →
      v = (if r.state = .presented then s.setLink r.owner { s.link r.owner with
          hub := (s.link r.owner).hub.filter fun x => !x.delivers ⟨i, (s.slot i).gen⟩ } else s) →
      w = (if r.state = .queued then v.setQueue r.owner ((v.queue r.owner).filter (· ≠ i)) else v) →
      transfer i r f s = enqueue (w.setSlot i ⟨(s.slot i).gen,
        some { r with owner := f, state := .queued, esc := none }⟩) f r.priority i))

/-- HEARTBEAT counts only in REJOINING with the spacing timer run out, and the sixteenth completes the rejoin; the reply reports the
health after it (R142, R143). REJOIN brings a DETACHED client to REJOINING with count 0 and a started spacing timer, and refuses any
other (R141). -/
def Obligations.HeartbeatsAndRejoin : Prop :=
  (∀ (s u : State) (c : Client) (a : Arrival) (q : Request), Takes s c .heartbeat a q u →
    (q.payload ≠ [] → exec (.heartbeat c a) s = .next (replied c q .badField [] u)) ∧
    (q.payload = [] →
      ((u.healthOf c).health ≠ .rejoining ∨ (u.healthOf c).spacingLeft ≠ 0 →
        exec (.heartbeat c a) s = .next (replied c q .ok
          [byte (u.healthOf c).health.code, byte (u.healthOf c).score, byte (u.healthOf c).rejoin] u)) ∧
      ((u.healthOf c).health = .rejoining → (u.healthOf c).spacingLeft = 0 →
        ((u.healthOf c).rejoin + 1 < 16 → exec (.heartbeat c a) s = .next (replied c q .ok
          [4, byte (u.healthOf c).score, byte ((u.healthOf c).rejoin + 1)]
          (u.setHealth c { u.healthOf c with rejoin := (u.healthOf c).rejoin + 1, spacingLeft := 10 }))) ∧
        (16 ≤ (u.healthOf c).rejoin + 1 → exec (.heartbeat c a) s = .next (replied c q .ok [0, 0, 0]
          (examine c (ctxExamine c (offerNotice .health (16 * c.val) (u.setHealth c ⟨0, .healthy, 0, 0⟩))))))))) ∧
  (∀ (s u : State) (c : Client) (a : Arrival) (q : Request), Takes s c .rejoin a q u →
    (q.payload ≠ [] → exec (.rejoin c a) s = .next (replied c q .badField [] u)) ∧
    (q.payload = [] → (u.healthOf c).health ≠ .detached →
      exec (.rejoin c a) s = .next (replied c q .notDetached [] u)) ∧
    (q.payload = [] → (u.healthOf c).health = .detached →
      exec (.rejoin c a) s = .next (replied c q .ok []
        (u.setHealth c ⟨(u.healthOf c).score, .rejoining, 0, 10⟩))))

/-- FORCE ATTACH and FORCE DETACH by the table of R144. FORCE RESET takes a client reset, with cause forced, of a client other than the
requester (R130). A malformed FORCE is answered by the row its operation byte names (log entry 7, the model's choice). -/
def Obligations.ForceActsOnAnotherClient : Prop :=
  (∀ (s u : State) (c : Client) (a : Arrival) (q : Request), Takes s c .force a q u →
    (∀ d : Client, q.payload = [0, byte d.val] →
      exec (.forceAttach c a) s = .next (judged c q u
        [(!holds u c .control, .denied), (!u.attached c, .detached), (u.attached d, .notDetached)]
        (replied c q .ok []
          (examine d (ctxExamine d (offerNotice .health (16 * d.val) (u.setHealth d ⟨0, .healthy, 0, 0⟩))))))) ∧
    (∀ d : Client, d ≠ u.sup.straps.supsel → q.payload = [1, byte d.val] →
      exec (.forceDetach c a) s = .next (judged c q u
        [(!holds u c .control, .denied), (!u.attached c, .detached), (!u.attached d, .same)]
        (replied c q .ok [] (detach d u)))) ∧
    (q.payload = [] ∨ (∃ b rest, q.payload = b :: rest ∧ (b = 0 ∨ 2 < b.toNat)) →
      (∀ d : Client, q.payload ≠ [0, byte d.val]) →
      exec (.forceAttach c a) s = .next (judged c q u [(!holds u c .control, .denied)] (replied c q .badField [] u))) ∧
    (q.payload = [] ∨ (∃ b rest, q.payload = b :: rest ∧ (b = 1 ∨ 2 < b.toNat)) →
      (∀ d : Client, d ≠ u.sup.straps.supsel → q.payload ≠ [1, byte d.val]) →
      exec (.forceDetach c a) s = .next (judged c q u [(!holds u c .control, .denied)] (replied c q .badField [] u)))) ∧
  (∀ (s u : State) (c : Client) (a : Arrival) (q : Request), Takes s c .force a q u →
    (∀ d : Client, d ≠ c → q.payload = [2, byte d.val] →
      exec (.forceReset c a) s = .next (judged c q u
        [(!holds u c .control, .denied), (!u.attached c, .detached)]
        (replied c q .ok [] (if u.sup.resetPending = some d
          then boardReset .request (some d) (clientResetSteps d .forced u) else clientResetSteps d .forced u)))) ∧
    (q.payload = [] ∨ (∃ b rest, q.payload = b :: rest ∧ (b = 2 ∨ 2 < b.toNat)) →
      (∀ d : Client, d ≠ c → q.payload ≠ [2, byte d.val]) →
      exec (.forceReset c a) s = .next (judged c q u [(!holds u c .control, .denied)] (replied c q .badField [] u))))

/-! ## Posts and signals -/

/-- RAISE places its descriptor at the tail, or is answered BACKLOG when the queue is full (R15). -/
def Obligations.RaisePlacesAnEvent : Prop :=
  ∀ (s u : State) (c : Client) (a : Arrival) (q : Request), Takes s c .raise a q u →
    (∀ (cls : BitVec 4) (code : BitVec 12), cls.toNat ≤ 11 → q.payload = byte cls.toNat :: be16 code.toNat →
      exec (.raise c a) s = .next (judged c q u
        [(!holds u c .raise, .denied), (!u.attached c, .detached), (16 ≤ u.intake.length, .backlog)]
        (replied c q .ok (be32 q.accepted.toNat ++ [byte (u.intake.length + 1)])
          (u.setIntake (u.intake ++ [⟨⟨BitVec.ofNat 6 (24 + c.val), cls, code⟩, q.accepted⟩]))))) ∧
    ((∀ (cls : BitVec 4) (code : BitVec 12), cls.toNat ≤ 11 → q.payload ≠ byte cls.toNat :: be16 code.toNat) →
      exec (.raise c a) s = .next (judged c q u [(!holds u c .raise, .denied)] (replied c q .badField [] u)))

/-- POST takes the sender's lowest EMPTY slot and makes the record of R148 for its target, or is refused by the first check of R147 that
fails. WITHDRAW frees the QUEUED record of a WAITING slot, which becomes EMPTY without an outcome, and is otherwise answered NOT_WAITING
or TOO_LATE (R151). -/
def Obligations.PostMakesARecord : Prop :=
  (∀ (s u : State) (c : Client) (a : Arrival) (q : Request), Takes s c .post a q u →
    ((∀ f : PostFields, f.target ≠ c → 1 ≤ f.payload.length → f.payload.length ≤ 32 → q.payload ≠ postBytes f) →
      exec (.post c a) s = .next (judged c q u [(!holds u c .post, .denied)] (replied c q .badField [] u))) ∧
    (∀ f : PostFields, f.target ≠ c → 1 ≤ f.payload.length → f.payload.length ≤ 32 → q.payload = postBytes f →
      ((∀ n, (u.postsOf c).slots.get n ≠ .empty) →
        exec (.post c a) s = .next (judged c q u
          [(!holds u c .post, .denied), (!u.attached c, .detached), (!u.attached f.target, .detached)]
          (replied c q .noSlot [] u))) ∧
      (∀ n, (u.postsOf c).slots.get n = .empty → (∀ m, m < n → (u.postsOf c).slots.get m ≠ .empty) →
        (grantedIndex u f.target = none →
          exec (.post c a) s = .next (judged c q u
            [(!holds u c .post, .denied), (!u.attached c, .detached), (!u.attached f.target, .detached)]
            (replied c q .poolFull [] u))) ∧
        (∀ i w, grantedIndex u f.target = some i →
          w = makeAt i ⟨f.target, ⟨BitVec.ofNat 6 (37 + c.val), 12, BitVec.ofNat 12 n.val⟩, f.priority, f.urgent, .each,
            .direct, (u.postsOf f.target).postProfile, none, q.accepted, f.payload⟩ u →
          exec (.post c a) s = .next (judged c q u
            [(!holds u c .post, .denied), (!u.attached c, .detached), (!u.attached f.target, .detached)]
            (replied c q .ok [byte n.val] (examine f.target (ctxExamine f.target
              (w.setPosts c { w.postsOf c with
                slots := (w.postsOf c).slots.set n (.waiting f.target ⟨i, (u.slot i).gen + 1⟩) }))))))))) ∧
  (∀ (s u : State) (c : Client) (a : Arrival) (q : Request), Takes s c .withdraw a q u →
    ((∀ n : SlotNo, q.payload ≠ [byte n.val]) →
      exec (.withdraw c a) s = .next (judged c q u [(!holds u c .post, .denied)] (replied c q .badField [] u))) ∧
    (∀ n : SlotNo, q.payload = [byte n.val] →
      ((∀ t h, (u.postsOf c).slots.get n ≠ .waiting t h) →
        exec (.withdraw c a) s = .next (judged c q u
          [(!holds u c .post, .denied), (!u.attached c, .detached)] (replied c q .notWaiting [] u))) ∧
      (∀ t h, (u.postsOf c).slots.get n = .waiting t h →
        (namedRecord u t .queued h = none →
          exec (.withdraw c a) s = .next (judged c q u
            [(!holds u c .post, .denied), (!u.attached c, .detached)] (replied c q .tooLate [] u))) ∧
        (∀ r, namedRecord u t .queued h = some r →
          exec (.withdraw c a) s = .next (judged c q u
            [(!holds u c .post, .denied), (!u.attached c, .detached)]
            (replied c q .withdrawn [] (freeRecord h.index r .other u))) ∧
          (r.key = ⟨BitVec.ofNat 6 (37 + c.val), 12, BitVec.ofNat 12 n.val⟩ →
            ((freeRecord h.index r .other u).postsOf c).slots.get n = .empty ∧
            (u.sup.mode ≠ .sleep → (freeRecord h.index r .other u).links = u.links))))))

/-- SIGNAL joins its flags to the pending set of a target that has a QUEUED signal record, or makes one, or is refused (R154; that the
flags join before CTX and PRS examine is the model's reading, log entry 19). -/
def Obligations.SignalJoinsOrMakesARecord : Prop :=
  ∀ (s u : State) (c : Client) (a : Arrival) (q : Request), Takes s c .signal a q u →
    ((∀ f : SignalFields, f.target ≠ c → f.flags ≠ 0 → q.payload ≠ signalBytes f) →
      exec (.signal c a) s = .next (judged c q u [(!holds u c .post, .denied)] (replied c q .badField [] u))) ∧
    (∀ f : SignalFields, f.target ≠ c → f.flags ≠ 0 → q.payload = signalBytes f →
      (∀ i r, sameKeyRecord u f.target ⟨41, 13, 0⟩ none = some (i, r) →
        exec (.signal c a) s = .next (judged c q u
          [(!holds u c .post, .denied), (!u.attached c, .detached), (!u.attached f.target, .detached)]
          (replied c q .ok [1] (coalesce i r f.priority f.urgent (u.setPosts f.target
            { u.postsOf f.target with pendingFlags := (u.postsOf f.target).pendingFlags ||| f.flags }))))) ∧
      (sameKeyRecord u f.target ⟨41, 13, 0⟩ none = none →
        (grantedIndex u f.target = none →
          exec (.signal c a) s = .next (judged c q u
            [(!holds u c .post, .denied), (!u.attached c, .detached), (!u.attached f.target, .detached)]
            (replied c q .poolFull [] u))) ∧
        (∀ i w, grantedIndex u f.target = some i →
          w = makeAt i ⟨f.target, ⟨41, 13, 0⟩, f.priority, f.urgent, .each, .direct, (u.postsOf f.target).signalProfile, none,
            q.accepted, []⟩ u →
          exec (.signal c a) s = .next (judged c q u
            [(!holds u c .post, .denied), (!u.attached c, .detached), (!u.attached f.target, .detached)]
            (replied c q .ok [0] (examine f.target (ctxExamine f.target
              (w.setPosts f.target { w.postsOf f.target with pendingFlags := f.flags }))))))))

/-! ## Links -/

/-- The receiver's states (R160): a byte is discarded while the reset line is asserted (R128); otherwise it wakes the hub, a frame whose
gap limit has passed fails first, the byte is stamped, and it advances the receiver. GAP_TIMEOUT lets the time to the link's gap limit
pass, with the ticks and the other links' failures in it, and the frame, if it is still being received, fails with GAP, counted as a
frame error and a gap (R160, R161; the order at one microsecond is the model's, log entries 5 and 40); without a frame in reception
nothing happens. -/
def Obligations.ReceiverFollowsItsStates : Prop :=
  (∀ (s w v : State) (c : Client) (b : Byte),
    ((s.clientLinesOf c).resetLine = true → exec (.receivedByte c b) s = .next (settle s)) ∧
    ((s.clientLinesOf c).resetLine = false →
      w = (if ((wakeHub s).link c).receiver ≠ .hunt ∧ 2000 < ((wakeHub s).time.counter - ((wakeHub s).link c).stamp).toNat
        then gapFails c (wakeHub s) else wakeHub s) →
      v = w.setLink c { w.link c with stamp := w.time.counter } →
      ((v.link c).receiver = .hunt → b = 0xD4 → exec (.receivedByte c b) s = .next (settle (setReceiver c .length v))) ∧
      ((v.link c).receiver = .hunt → b ≠ 0xD4 → exec (.receivedByte c b) s = .next (settle v)) ∧
      ((v.link c).receiver = .length → b.toNat ≤ 48 →
        exec (.receivedByte c b) s = .next (settle (setReceiver c (.body b []) v))) ∧
      ((v.link c).receiver = .length → 48 < b.toNat →
        exec (.receivedByte c b) s = .next (settle (frameError c (setReceiver c .hunt v)))) ∧
      (∀ len got, (v.link c).receiver = .body len got →
        exec (.receivedByte c b) s = .next (settle (setReceiver c
          (if got.length + 1 < len.toNat + 2 then .body len (got ++ [b]) else .check len (got ++ [b]) none) v))) ∧
      (∀ len got, (v.link c).receiver = .check len got none →
        exec (.receivedByte c b) s = .next (settle (setReceiver c (.check len got (some b)) v))) ∧
      (∀ len kind tag payload hi, (v.link c).receiver = .check len (kind :: tag :: payload) (some hi) →
        exec (.receivedByte c b) s = .next (settle (
          if (crc16 (len :: kind :: tag :: payload)).toNat = 256 * hi.toNat + b.toNat
          then frameComplete c kind tag payload (setReceiver c .hunt v)
          else frameError c (setReceiver c .hunt v)))))) ∧
  (∀ (c : Client) (s : State),
    ((s.link c).receiver = .hunt → exec (.gapTimeout c) s = .next (settle s)) ∧
    ((s.link c).receiver ≠ .hunt → ∃ u, Passes (2000 - sinceByte s c) s u ∧
      exec (.gapTimeout c) s = .next (settle (
        if (u.link c).receiver ≠ .hunt ∧ 2000 ≤ sinceByte u c then
          frameError c (u.setLink c { u.link c with gaps := min 65535 ((u.link c).gaps + 1), receiver := .hunt })
        else u))))

/-- A frame error is counted; it charges +2 to an attached client, sets the rejoin count of a REJOINING one back, and does nothing else to
a DETACHED one (R161, R133, R134, R143). A well-formed frame is discarded while a RESET_HUB is pending (R178; one of an unknown kind
too, the model's reading, log entry 30), counted as an overrun when both reply places are held, answered BAD_KIND when its kind is
unknown (at its acceptance, the model's reading, log entry 27), and otherwise accepted (R162). -/
def Obligations.FramesAreAcceptedOrCounted : Prop :=
  ∀ (c : Client) (kind tag : Byte) (payload : List Byte) (s v : State),
    (v = s.setLink c { s.link c with frameErrors := min 65535 ((s.link c).frameErrors + 1) } →
      (s.attached c = true → frameError c s = chargeScore c 2 v) ∧
      ((s.healthOf c).health = .detached → frameError c s = v) ∧
      ((s.healthOf c).health = .rejoining →
        frameError c s = v.setHealth c { s.healthOf c with rejoin := 0, spacingLeft := 10 })) ∧
    (s.sup.resetPending ≠ none → frameComplete c kind tag payload s = s) ∧
    (s.sup.resetPending = none →
      (2 ≤ (s.link c).requests.length + (s.link c).replies.length → frameComplete c kind tag payload s =
        offerNotice .overrun c.val (chargeScore c 2
          (s.setLink c { s.link c with overruns := min 65535 ((s.link c).overruns + 1) }))) ∧
      ((s.link c).requests.length + (s.link c).replies.length < 2 →
        ((∀ k, kindByte k ≠ kind) → frameComplete c kind tag payload s =
          frameError c (placeReply c ⟨tag, kind, .badKind, []⟩ s)) ∧
        (∀ k, kindByte k = kind → frameComplete c kind tag payload s = s.setLink c { s.link c with
          requests := (s.link c).requests ++ [⟨k, tag, payload, s.time.counter⟩] })))

/-- An idle transmitter of a client whose reset line is released begins the oldest reply, or else the oldest hub frame; any other begins
nothing (R165). The end of a frame other than a DELIVER frame frees the transmitter, and that of the reply to a pending RESET_HUB takes
the board reset (R178). That transmissions begin, link by link, and SLEEP is entered at the end of each command is the model's reading
(log entries 12 and 18). The bytes of a frame are SYNC, LEN, KIND, TAG, payload and CHECK (R159); the payloads are those of REPLY with
its status value (R163, R171), DELIVER byte by byte (R172), RECALL, CONTEXT and SLOTS (R170, R92, R107, R150). -/
def Obligations.TransmitterTakesRepliesFirst : Prop :=
  (∀ (c : Client) (s v : State), v = s.setLink c { s.link c with tx := none } →
    ((s.clientLinesOf c).resetLine = true ∨ (s.link c).tx ≠ none → beginTransmission s c = s) ∧
    ((s.clientLinesOf c).resetLine = false → (s.link c).tx = none →
      (∀ r rest, (s.link c).replies = r :: rest →
        beginTransmission s c = s.setLink c { s.link c with tx := some (.reply r), replies := rest }) ∧
      ((s.link c).replies = [] →
        (∀ f rest, (s.link c).hub = f :: rest →
          beginTransmission s c = s.setLink c { s.link c with tx := some (.hub f), hub := rest }) ∧
        ((s.link c).hub = [] → beginTransmission s c = s))) ∧
    ((s.link c).tx = none → exec (.transmissionEnd c) s = .next (settle s)) ∧
    (∀ r, (s.link c).tx = some (.reply r) →
      exec (.transmissionEnd c) s = .next (settle (
        if r.kind = 0x44 ∧ r.status = .ok ∧ s.sup.resetPending = some c then boardReset .request (some c) v else v))) ∧
    (∀ f, (s.link c).tx = some (.hub f) → (∀ d, f ≠ .deliver d) → exec (.transmissionEnd c) s = .next (settle v)) ∧
    settle s = enterSleep (beginTransmission (beginTransmission (beginTransmission (beginTransmission s 0) 1) 2) 3)) ∧
  ((∀ (k tag : Byte) (p : List Byte),
    frameBytes k tag p = [0xD4, byte p.length, k, tag] ++ p ++ be16 (crc16 ([byte p.length, k, tag] ++ p)).toNat) ∧
  crc16 [0x31, 0x32, 0x33, 0x34, 0x35, 0x36, 0x37, 0x38, 0x39] = 0x29B1 ∧ crc16 [] = 0xFFFF ∧
  (∀ (p : List Byte) (b : Byte), crc16 (p ++ [b]) = [0, 1, 2, 3, 4, 5, 6, 7].foldl
    (fun (x : BitVec 16) (_ : Nat) => if x.getLsbD 15 then (x <<< 1) ^^^ 0x1021#16 else x <<< 1)
    (crc16 p ^^^ ((b.zeroExtend 16) <<< 8))) ∧
  [Status.ok, .denied, .frozen, .bankOpen, .badField, .badKind, .busy, .same, .noSlot, .poolFull, .backlog, .detached,
    .notDetached, .stale, .takenElsewhere, .tooLate, .notWaiting, .withdrawn].map Status.code =
    [0, 1, 2, 3, 4, 5, 6, 7, 8, 9, 10, 11, 12, 13, 14, 15, 16, 17] ∧
  (∀ r : Reply, (TxFrame.reply r).bytes = frameBytes 0x80 r.tag ([r.kind, byte r.status.code] ++ r.result)) ∧
  (∀ d : DeliverFields, (TxFrame.hub (.deliver d)).bytes = frameBytes 0x81 0
    ([byte d.handle.index.val, d.handle.gen, byte d.key.source.toNat, byte d.key.cls.toNat, byte (d.key.code.toNat / 256),
      byte d.key.code.toNat, byte (d.priority.val + if d.urgent then 128 else 0), byte d.count,
      byte ((if d.interrupted then 1 else 0) + if d.resumed then 2 else 0), byte (d.created.toNat / 16777216),
      byte (d.created.toNat / 65536), byte (d.created.toNat / 256), byte d.created.toNat,
      match d.hit with | .entry e => byte e.val | .unrouted => 64 | .direct => 65, byte d.body.length] ++ d.body)) ∧
  (∀ (h : Handle) (r : Record), (deliverPayload (deliverOf h r)).length =
    if r.key.source = 41 then 17 else 15 + r.payload.length) ∧
  (∀ h : Handle, (TxFrame.hub (.recall h)).bytes = frameBytes 0x82 0 [byte h.index.val, h.gen]) ∧
  (∀ (k : ContextName) (cause : ContextCause) (h : Option Handle),
    (TxFrame.hub (.context k cause h)).bytes = frameBytes 0x83 0 ([(match k with | .operate => 0 | .service => 1 : Byte),
      match cause with | .request => 0 | .forced => 1 | .reset => 2] ++
      match h with | some x => [byte x.index.val, x.gen] | none => [255, 255])) ∧
  ∀ x : Table 4 SlotsEntry, (TxFrame.hub (.slots x)).bytes = frameBytes 0x84 0
    (([0, 1, 2, 3] : List SlotNo).flatMap fun n =>
      [(match (x.get n).outcome with | .none => 0 | .taken => 1 | .declined => 2 | .lost => 3 : Byte), byte (x.get n).number]))

/-- A request command that carries its frame is the reception of the frame's bytes followed by the taking of the request, for every row
of a request (R159, R170; the two forms are the model's choice, log entry 6). -/
def Obligations.RequestCommandsAreFrames : Prop :=
  ∀ (c : Client) (tag : Byte) (p : List Byte) (s : State),
    let after := fun (k : Byte) (cmd : Client → Arrival → Instr) =>
      exec (cmd c (.sent tag p)) s = exec (cmd c .waiting) (receiveAll c (frameBytes k tag p) s)
    after 0x01 .ready ∧ after 0x02 .ack ∧ after 0x03 .exchange ∧ after 0x04 .contextSet ∧ after 0x05 .timerSet ∧
    after 0x06 .raise ∧ after 0x07 .post ∧ after 0x08 .withdraw ∧ after 0x09 .signal ∧ after 0x0A .heartbeat ∧
    after 0x0B .rejoin ∧ after 0x0C .query ∧ after 0x20 .routeWrite ∧ after 0x21 .bankSet ∧ after 0x22 .lineSet ∧
    after 0x23 .profileSet ∧ after 0x24 .clientSet ∧ after 0x30 .routeRead ∧ after 0x31 .lineRead ∧
    after 0x32 .profileRead ∧ after 0x33 .clientRead ∧ after 0x40 .forceAttach ∧ after 0x40 .forceDetach ∧
    after 0x40 .forceReset ∧ after 0x41 .freeze ∧ after 0x42 .sleep ∧ after 0x43 .wake ∧ after 0x44 .resetHub ∧
    after 0x45 .noteSet ∧ after 0x50 .status

/-- The bytes of a request frame, received in order by a link in HUNT, leave exactly that request as the youngest accepted one: no
bit of kind, tag or payload is lost (R159, R160, R162). -/
def Obligations.FrameBytesSpellTheirRequest : Prop :=
  ∀ (c : Client) (k : RequestKind) (tag : Byte) (payload : List Byte) (s : State), payload.length ≤ 48 →
    (s.link c).receiver = .hunt → (s.clientLinesOf c).resetLine = false → s.sup.resetPending = none →
    (s.link c).requests.length + (s.link c).replies.length < 2 → s.sup.mode ≠ .sleep → settle s = s →
    receiveAll c (frameBytes (kindByte k) tag payload) s = s.setLink c { s.link c with
      stamp := s.time.counter
      requests := (s.link c).requests ++ [⟨k, tag, payload, s.time.counter⟩] }

/-! ## Configuration and reading -/

/-- ROUTE_WRITE replaces every field of an entry of a CLOSED bank (R51), BANK_SET opens or closes a bank (R38), and ROUTE_READ reports an
entry, its bank and the groups in use (R52). -/
def Obligations.RouteTableRequests : Prop :=
  (∀ (s u : State) (c : Client) (a : Arrival) (q : Request), Takes s c .routeWrite a q u →
    (∀ (e : EntryNo) (x : RouteEntry), (x.enabled = true → x.targets ≠ 0) → q.payload = entryBytes e x →
      exec (.routeWrite c a) s = .next (judged c q u
        [(!holds u c .configure, .denied), (u.sup.frozen, .frozen), (!u.attached c, .detached),
         (u.banks.get ⟨e.val / 8, by omega⟩ = .opened, .bankOpen)]
        (replied c q .ok [] (u.setEntry e x)))) ∧
    ((∀ (e : EntryNo) (x : RouteEntry), (x.enabled = true → x.targets ≠ 0) → q.payload ≠ entryBytes e x) →
      exec (.routeWrite c a) s = .next (judged c q u
        [(!holds u c .configure, .denied), (u.sup.frozen, .frozen)] (replied c q .badField [] u)))) ∧
  (∀ (s u : State) (c : Client) (a : Arrival) (q : Request), Takes s c .bankSet a q u →
    (∀ (b : BankNo) (x : BankState), q.payload = [byte b.val, byte x.code] →
      exec (.bankSet c a) s = .next (judged c q u
        [(!holds u c .configure, .denied), (u.sup.frozen, .frozen), (!u.attached c, .detached)]
        (replied c q .ok ([0, 1, 2, 3, 4, 5].map fun n : BankNo => byte ((u.banks.set b x).get n).code)
          (u.setBank b x)))) ∧
    ((∀ (b : BankNo) (x : BankState), q.payload ≠ [byte b.val, byte x.code]) →
      exec (.bankSet c a) s = .next (judged c q u
        [(!holds u c .configure, .denied), (u.sup.frozen, .frozen)] (replied c q .badField [] u)))) ∧
  (∀ (s u : State) (c : Client) (a : Arrival) (q : Request), Takes s c .routeRead a q u →
    (∀ e : EntryNo, q.payload = [byte e.val] →
      exec (.routeRead c a) s = .next (judged c q u [(!u.attached c, .detached)] (replied c q .ok
        (entryBytes e (u.entries.get e) ++ [byte (u.banks.get ⟨e.val / 8, by omega⟩).code,
          byte ((Finset.univ.filter fun g : GroupNo => (u.groups.get g).isSome).card)]) u))) ∧
    ((∀ e : EntryNo, q.payload ≠ [byte e.val]) →
      exec (.routeRead c a) s = .next (replied c q .badField [] u)))

/-- PROFILE_SET replaces the three fields of a profile, and PROFILE_READ reports them (R118, R119). CLIENT_SET replaces all five settings
of the named client (R167). -/
def Obligations.ProfilesAndClientSettings : Prop :=
  ((∀ (s u : State) (c : Client) (a : Arrival) (q : Request), Takes s c .profileSet a q u →
    (∀ p x, x.deadline ≤ 65535 → q.payload = profileSetBytes p x →
      exec (.profileSet c a) s = .next (judged c q u
        [(!holds u c .configure, .denied), (u.sup.frozen, .frozen), (!u.attached c, .detached)]
        (replied c q .ok [] (u.setProfile p x)))) ∧
    ((∀ p x, x.deadline ≤ 65535 → q.payload ≠ profileSetBytes p x) →
      exec (.profileSet c a) s = .next (judged c q u
        [(!holds u c .configure, .denied), (u.sup.frozen, .frozen)] (replied c q .badField [] u)))) ∧
  (∀ (s u : State) (c : Client) (a : Arrival) (q : Request), Takes s c .profileRead a q u →
    (∀ p : ProfileNo, q.payload = [byte p.val] →
      exec (.profileRead c a) s = .next (judged c q u [(!u.attached c, .detached)] (replied c q .ok
        (be16 (u.profiles.get p).deadline ++
          [byte (u.profiles.get p).action.code, byte (u.profiles.get p).delayCode.val]) u))) ∧
    ((∀ p : ProfileNo, q.payload ≠ [byte p.val]) →
      exec (.profileRead c a) s = .next (replied c q .badField [] u)))) ∧
  (∀ (s u : State) (c : Client) (a : Arrival) (q : Request), Takes s c .clientSet a q u →
    (∀ f : ClientSetFields, ClientSettable u.sup.straps.supsel f → q.payload = clientSetBytes f →
      exec (.clientSet c a) s = .next (judged c q u
        [(!holds u c .configure, .denied), (u.sup.frozen, .frozen), (!u.attached c, .detached)]
        (replied c q .ok []
          ((((u.setSup { u.sup with privileges := u.sup.privileges.set f.client f.privileges }).setContexts f.client
            { u.contextsOf f.client with holdOffTime := f.holdOffTime }).setClientLines f.client
            { u.clientLinesOf f.client with pulseWidth := f.pulseWidth }).setPosts f.client
            { u.postsOf f.client with postProfile := f.postProfile, signalProfile := f.signalProfile })))) ∧
    ((∀ f : ClientSetFields, ClientSettable u.sup.straps.supsel f → q.payload ≠ clientSetBytes f) →
      exec (.clientSet c a) s = .next (judged c q u
        [(!holds u c .configure, .denied), (u.sup.frozen, .frozen)] (replied c q .badField [] u))))

/-- QUERY reports the client's own delivery state in 29 bytes, in every health state (R169); LINE_READ (R30), CLIENT_READ (R168) and STATUS
(R183) report the fields of their tables. None changes anything. The last clauses give the numbers that stand for the named values. -/
def Obligations.ReadsReportTheirTables : Prop :=
  (∀ (s u : State) (c : Client) (a : Arrival) (q : Request), Takes s c .query a q u →
    (q.payload ≠ [] → exec (.query c a) s = .next (replied c q .badField [] u)) ∧
    (q.payload = [] → ∃ (stage : List Byte) (snapshot : FlagSet) (res : List Byte),
      (escOf u c = none → stage = [0, 0, 0, 0]) ∧
      (∀ e, escOf u c = some e → stage =
        [byte (match e.stage with | .waiting => 1 | .deadline => 2 | .delay => 3 | .spent => 4)] ++ be16 e.left ++
        [byte ((if e.expired then 1 else 0) + if e.asserting then 2 else 0)]) ∧
      (∀ n, n < 16 → (snapshot.getLsbD n = true ↔ ∃ i r, u.record i = some r ∧ r.owner = c ∧ r.key.source = 41 ∧
        r.state ≠ .queued ∧ r.flags.getLsbD n = true)) ∧
      res = [byte (u.healthOf c).health.code, byte (u.healthOf c).score, byte (u.healthOf c).rejoin,
          bit (u.presentationOf c).ready, byte (contextCode (u.contextsOf c).active), bit (u.contextsOf c).holdOff] ++
        handleBytes ((presentedOf u c).map u.handleAt) ++ stage ++ handleBytes (u.contextsOf c).suspended ++
        handleBytes (u.presentationOf c).lastRecalled ++
        [byte (u.queue c).length, byte (heldCount u c), byte (u.dropsOf c).sinceReady] ++ be16 (u.dropsOf c).total ++
        ([0, 1, 2, 3].map fun n : SlotNo => byte ((u.postsOf c).slots.get n).code) ++
        be16 (u.postsOf c).pendingFlags.toNat ++ be16 snapshot.toNat ∧
      res.length = 29 ∧ exec (.query c a) s = .next (replied c q .ok res u))) ∧
  ((∀ (s u : State) (c : Client) (a : Arrival) (q : Request), Takes s c .lineRead a q u →
    ((∀ l : LineNo, q.payload ≠ [byte l.val]) → exec (.lineRead c a) s = .next (replied c q .badField [] u)) ∧
    (∀ (l : LineNo) (x : Line), q.payload = [byte l.val] → x = u.line l →
      exec (.lineRead c a) s = .next (judged c q u [(!u.attached c, .detached)] (replied c q .ok
        ([byte x.config.mode.code, byte x.config.polarity.code, byte x.config.debounce, byte x.config.interval,
          byte x.config.cls.toNat] ++ be16 x.config.code.toNat ++
         [bit x.raw, bit x.accepted,
          bit (match x.config.polarity with | .activeLow => !x.accepted | .activeHigh => x.accepted),
          byte x.debounceLeft, byte x.latch.code, byte x.queued, bit x.disposed, byte x.repeatLeft,
          byte (u.masked.get ⟨l.val / 8, by omega⟩)]) u)))) ∧
  (∀ (s u : State) (c : Client) (a : Arrival) (q : Request), Takes s c .clientRead a q u →
    ((∀ d : Client, q.payload ≠ [byte d.val]) → exec (.clientRead c a) s = .next (replied c q .badField [] u)) ∧
    (∀ d : Client, q.payload = [byte d.val] →
      exec (.clientRead c a) s = .next (judged c q u [(!u.attached c, .detached)] (replied c q .ok
        ([byte d.val, privilegeByte (u.sup.privileges.get d), byte (u.clientLinesOf d).pulseWidth,
          byte (u.postsOf d).postProfile.val, byte (u.postsOf d).signalProfile.val] ++
         be16 (u.contextsOf d).holdOffTime ++
         [byte (u.healthOf d).health.code, byte (u.healthOf d).score, byte (u.healthOf d).rejoin,
          bit (u.presentationOf d).ready, byte (contextCode (u.contextsOf d).active), byte (heldCount u d),
          byte (u.queue d).length, byte (u.dropsOf d).sinceReady] ++ be16 (u.dropsOf d).total ++
         [byte (u.clientLinesOf d).lastCause.code, bit (u.clientLinesOf d).resetLine, bit (u.clientLinesOf d).attention] ++
         be16 (u.link d).frameErrors ++ be16 (u.link d).overruns ++ be16 (u.link d).gaps) u)))) ∧
  (∀ (s u : State) (c : Client) (a : Arrival) (q : Request), Takes s c .status a q u →
    (q.payload ≠ [] → exec (.status c a) s = .next (replied c q .badField [] u)) ∧
    (q.payload = [] →
      exec (.status c a) s = .next (judged c q u [(!u.attached c, .detached)] (replied c q .ok
        ([byte u.sup.mode.code, bit u.sup.frozen, byte u.sup.cause.kind.code,
          (match u.sup.cause.client with | some d => byte d.val | none => 255), byte u.sup.cause.count] ++
         be32 u.sup.note.toNat ++ [byte (freeCount u), byte u.intake.length] ++ be16 u.lostNotices ++ be16 u.unrouted ++
         [byte u.sup.straps.supsel.val, byte (unroutedCode u.sup.straps.unrouted),
          byte (lineDefCode u.sup.straps.lineDef), byte (rateCode u.sup.straps.rate)]) u))))) ∧
  ([Health.healthy, .warned, .restricted, .detached, .rejoining].map Health.code = [0, 1, 2, 3, 4] ∧
  [ContextName.operate, .service].map contextCode = [0, 1] ∧ [false, true].map bit = [0, 1] ∧
  [LineMode.disabled, .edge, .level, .groupEdge].map LineMode.code = [0, 1, 2, 3] ∧
  [Polarity.activeLow, .activeHigh].map Polarity.code = [0, 1] ∧
  (Latch.armed.code = 0 ∧ (∀ d, (Latch.pending d).code = 1) ∧ Latch.outstanding.code = 2) ∧
  [ResetCause.escalation, .forced, .board].map ResetCause.code = [0, 1, 2] ∧
  (PostSlot.empty.code = 0 ∧ ∀ t h, (PostSlot.waiting t h).code = 1 ∧ (PostSlot.orphaned t h).code = 2) ∧
  [HubMode.run, .sleepPending].map HubMode.code = [0, 1] ∧
  [CauseKind.powerOn, .pin, .escalation, .request].map CauseKind.code = [0, 1, 2, 3] ∧
  [UnroutedStrap.drop, .supervisor].map unroutedCode = [0, 1] ∧ [LineDefStrap.off, .edge].map lineDefCode = [0, 1] ∧
  [RateStrap.baud115200, .baud921600].map rateCode = [0, 1] ∧
  handleBytes none = [255, 255] ∧ ∀ h : Handle, handleBytes (some h) = [byte h.index.val, h.gen])

/-! ## Supervision -/

/-- FREEZE sets FROZEN (R182), NOTE_SET writes the note and reports the old one (R179), and RESET_HUB makes a board reset pending
(R178). -/
def Obligations.FreezeNoteAndResetRequests : Prop :=
  (∀ (s u : State) (c : Client) (a : Arrival) (q : Request), Takes s c .freeze a q u →
    exec (.freeze c a) s = .next (judged c q u
      [(!holds u c .configure, .denied), (u.sup.frozen, .frozen), (q.payload ≠ [], .badField), (!u.attached c, .detached)]
      (replied c q .ok [] (u.setSup { u.sup with frozen := true })))) ∧
  (∀ (s u : State) (c : Client) (a : Arrival) (q : Request), Takes s c .noteSet a q u →
    ((∀ v : BitVec 32, q.payload ≠ be32 v.toNat) →
      exec (.noteSet c a) s = .next (judged c q u [(!holds u c .control, .denied)] (replied c q .badField [] u))) ∧
    (∀ v : BitVec 32, q.payload = be32 v.toNat →
      exec (.noteSet c a) s = .next (judged c q u [(!holds u c .control, .denied), (!u.attached c, .detached)]
        (replied c q .ok (be32 u.sup.note.toNat) (u.setSup { u.sup with note := v }))))) ∧
  (∀ (s u : State) (c : Client) (a : Arrival) (q : Request), Takes s c .resetHub a q u →
    exec (.resetHub c a) s = .next (judged c q u
      [(!holds u c .control, .denied), (q.payload ≠ [], .badField), (!u.attached c, .detached)]
      (replied c q .ok [] (u.setSup { u.sup with resetPending := some c }))))

/-- SLEEP and WAKE by the table of R180, the entry into SLEEP when its four conditions hold at the end of a command (R181; that an
untaken request holds it off, and that it is judged there, are the model's readings: log entries 17 and 18), and the wake: at once,
or, where the wake cause falls within an operation taken whole, at its end (log entry 39). -/
def Obligations.SleepAndWake : Prop :=
  (∀ (s u : State) (c : Client) (a : Arrival) (q : Request), Takes s c .sleep a q u →
    exec (.sleep c a) s = .next (judged c q u
      [(!holds u c .control, .denied), (q.payload ≠ [], .badField), (!u.attached c, .detached), (u.sup.mode ≠ .run, .same)]
      (replied c q .ok [] (u.setSup { u.sup with mode := .sleepPending })))) ∧
  (∀ (s u : State) (c : Client) (a : Arrival) (q : Request), Takes s c .wake a q u →
    exec (.wake c a) s = .next (judged c q u
      [(!holds u c .control, .denied), (q.payload ≠ [], .badField), (!u.attached c, .detached),
       (u.sup.mode ≠ .sleepPending, .same)]
      (replied c q .ok [] (examine 3 (examine 2 (examine 1 (examine 0 (u.setSup { u.sup with mode := .run })))))))) ∧
  (∀ s : State,
    let ready := s.sup.mode = .sleepPending ∧ (∀ i r, s.record i = some r → r.state ≠ .presented) ∧ s.intake = [] ∧
      (∀ c, (s.link c).requests = [] ∧ (s.link c).replies = [] ∧ (s.link c).hub = [] ∧ (s.link c).tx = none) ∧
      ∀ c, (s.clientLinesOf c).resetLine = false
    (ready → enterSleep s = s.setSup { s.sup with mode := .sleep }) ∧ (¬ ready → enterSleep s = s)) ∧
  (∀ s : State, (s.sup.mode ≠ .sleep → wakeHub s = s) ∧ (s.sup.mode = .sleep → wakeHub s =
    examine 3 (examine 2 (examine 1 (examine 0 (s.setSup { s.sup with mode := .run })))))) ∧
  (∀ (m : HubMode) (s : State),
    (m = .sleep → s.sup.mode = .run → completeWake m s = examine 3 (examine 2 (examine 1 (examine 0 s)))) ∧
    (m ≠ .sleep ∨ s.sup.mode ≠ .run → completeWake m s = s))

/-! ## Laws that every step keeps -/

/-- While FROZEN stays set, no step changes route entries, bank states, line configurations, profiles, privileges or client settings
(R182). -/
def Obligations.FrozenConfigurationStands : Prop :=
  ∀ s t : State, s.sup.frozen = true → step s = .next t → t.sup.frozen = true → SameConfiguration s t

/-- Every step keeps the law of the intake queue: its capacity, that it is full while a source waits (R6, R7, R9), and that only the sources
0 to 36 enter it (R2). -/
def Obligations.EveryStepKeepsTheIntakeLaw : Prop := Kept IntakeLaw

/-- Every step keeps the law of the links' outbound queues (R162, R164). -/
def Obligations.EveryStepKeepsTheLinkLaw : Prop := Kept LinkLaw

/-- Every step keeps all four privileges with the supervising client (R166). -/
def Obligations.EveryStepKeepsTheSupervisorsPrivileges : Prop := Kept SupervisorLaw

/-- Every step keeps the law of records and queues: each client's queue holds exactly its QUEUED records (R57), it has at most one
PRESENTED and one SUSPENDED record (R98), its gate is closed exactly while one is PRESENTED (R81), and a client not attached has none
(R137). From a state that meets the laws of the intake queue and of the post slots, every step also keeps it that no client's queue
holds two QUEUED EACH records of one key (R57), and the law of the post slots: a slot is taken exactly while a record has its key, and
names that record (R146). -/
def Obligations.EveryStepKeepsTheQueueLaw : Prop :=
  Kept RecordLaw ∧
  ∀ s t : State, IntakeLaw s → QueueLaw s → PostLaw s → step s = .next t → QueueLaw t ∧ PostLaw t

/-- Every step from a state that meets the law of records and queues keeps the law of FIRST groups: a group IN_USE counts its live copies,
a FREE one has none, and no client holds two copies of one group (R47, R48, R49, R138). -/
def Obligations.EveryStepKeepsTheGroupLaw : Prop :=
  ∀ s t : State, RecordLaw s → GroupLaw s → step s = .next t → GroupLaw t

/-- Every step keeps the law of health: an attached client's state is the band of its score (R134), and a client not attached has score 255
(R137, R141). -/
def Obligations.EveryStepKeepsTheHealthLaw : Prop := Kept HealthLaw

/-- The seven laws hold at State.reset, whose strap and raw levels are the model's choice (log entry 9), and after POWER_ON with any
levels. -/
def Obligations.LawsHoldAtReset : Prop :=
  (IntakeLaw State.reset ∧ LinkLaw State.reset ∧ SupervisorLaw State.reset ∧ QueueLaw State.reset ∧ PostLaw State.reset ∧
    GroupLaw State.reset ∧ HealthLaw State.reset) ∧
  ∀ (pins : PinLevels) (raw : BitVec 24) (s t : State), exec (.powerOn pins raw) s = .next t →
    IntakeLaw t ∧ LinkLaw t ∧ SupervisorLaw t ∧ QueueLaw t ∧ PostLaw t ∧ GroupLaw t ∧ HealthLaw t
end

