-- ==== Sys2Proof/Laws/Table.lean ====
section
/-! SUPPORT. Reading a table after a write, and after building one. -/

namespace Sys2Proof.Table

variable {n : Nat} {α : Type}

theorem get_set (t : Table n α) (i j : Fin n) (v : α) : (t.set i v).get j = if j = i then v else t.get j := by
  by_cases h : j = i
  · subst h; simp [get, set]
  · have h' : i.val ≠ j.val := fun e => h (Fin.ext e.symm)
    simp [get, set, h, h']

@[simp] theorem get_set_same (t : Table n α) (i : Fin n) (v : α) : (t.set i v).get i = v := by simp [get_set]

theorem get_set_ne (t : Table n α) {i j : Fin n} (h : j ≠ i) (v : α) : (t.set i v).get j = t.get j := by simp [get_set, h]

@[simp] theorem get_build (f : Fin n → α) (i : Fin n) : (build f).get i = f i := by simp [get, build]

@[simp] theorem get_const (v : α) (i : Fin n) : (const v : Table n α).get i = v := by simp [get, const]

theorem ext_get {t u : Table n α} (h : ∀ i, t.get i = u.get i) : t = u := by
  cases t with
  | mk d hd =>
    cases u with
    | mk e he =>
      have : d = e := List.ext_getElem (hd.trans he.symm) fun k h₁ _ => h ⟨k, hd ▸ h₁⟩
      subst this; rfl

@[simp] theorem set_get_self (t : Table n α) (i : Fin n) : t.set i (t.get i) = t := by
  apply ext_get; intro j; rw [get_set]; split <;> simp_all

@[simp] theorem set_set (t : Table n α) (i : Fin n) (v w : α) : (t.set i v).set i w = t.set i w := by
  apply ext_get; intro j; simp only [get_set]; split <;> rfl

end Sys2Proof.Table
end

