-- ==== Sys2Proof/Laws/State.lean ====
section
/-! SUPPORT. One lemma per field per update of State, true by rfl, so that no proof unfolds a record update. -/

namespace Sys2Proof.Machine.State

variable (s : State)

@[simp] theorem setTime_time (v : TimeBase) : (s.setTime v).time = v := rfl
@[simp] theorem setTime_lines (v : TimeBase) : (s.setTime v).lines = s.lines := rfl
@[simp] theorem setTime_masked (v : TimeBase) : (s.setTime v).masked = s.masked := rfl
@[simp] theorem setTime_intake (v : TimeBase) : (s.setTime v).intake = s.intake := rfl
@[simp] theorem setTime_waiting (v : TimeBase) : (s.setTime v).waiting = s.waiting := rfl
@[simp] theorem setTime_lostNotices (v : TimeBase) : (s.setTime v).lostNotices = s.lostNotices := rfl
@[simp] theorem setTime_unrouted (v : TimeBase) : (s.setTime v).unrouted = s.unrouted := rfl
@[simp] theorem setTime_entries (v : TimeBase) : (s.setTime v).entries = s.entries := rfl
@[simp] theorem setTime_banks (v : TimeBase) : (s.setTime v).banks = s.banks := rfl
@[simp] theorem setTime_groups (v : TimeBase) : (s.setTime v).groups = s.groups := rfl
@[simp] theorem setTime_pool (v : TimeBase) : (s.setTime v).pool = s.pool := rfl
@[simp] theorem setTime_queues (v : TimeBase) : (s.setTime v).queues = s.queues := rfl
@[simp] theorem setTime_drops (v : TimeBase) : (s.setTime v).drops = s.drops := rfl
@[simp] theorem setTime_presentation (v : TimeBase) : (s.setTime v).presentation = s.presentation := rfl
@[simp] theorem setTime_contexts (v : TimeBase) : (s.setTime v).contexts = s.contexts := rfl
@[simp] theorem setTime_profiles (v : TimeBase) : (s.setTime v).profiles = s.profiles := rfl
@[simp] theorem setTime_clientLines (v : TimeBase) : (s.setTime v).clientLines = s.clientLines := rfl
@[simp] theorem setTime_board (v : TimeBase) : (s.setTime v).board = s.board := rfl
@[simp] theorem setTime_health (v : TimeBase) : (s.setTime v).health = s.health := rfl
@[simp] theorem setTime_posts (v : TimeBase) : (s.setTime v).posts = s.posts := rfl
@[simp] theorem setTime_sup (v : TimeBase) : (s.setTime v).sup = s.sup := rfl
@[simp] theorem setTime_links (v : TimeBase) : (s.setTime v).links = s.links := rfl
@[simp] theorem setTime_pending (v : TimeBase) : (s.setTime v).pending = s.pending := rfl

@[simp] theorem setLine_time (i : LineNo) (v : Line) : (s.setLine i v).time = s.time := rfl
@[simp] theorem setLine_lines (i : LineNo) (v : Line) : (s.setLine i v).lines = s.lines.set i v := rfl
@[simp] theorem setLine_masked (i : LineNo) (v : Line) : (s.setLine i v).masked = s.masked := rfl
@[simp] theorem setLine_intake (i : LineNo) (v : Line) : (s.setLine i v).intake = s.intake := rfl
@[simp] theorem setLine_waiting (i : LineNo) (v : Line) : (s.setLine i v).waiting = s.waiting := rfl
@[simp] theorem setLine_lostNotices (i : LineNo) (v : Line) : (s.setLine i v).lostNotices = s.lostNotices := rfl
@[simp] theorem setLine_unrouted (i : LineNo) (v : Line) : (s.setLine i v).unrouted = s.unrouted := rfl
@[simp] theorem setLine_entries (i : LineNo) (v : Line) : (s.setLine i v).entries = s.entries := rfl
@[simp] theorem setLine_banks (i : LineNo) (v : Line) : (s.setLine i v).banks = s.banks := rfl
@[simp] theorem setLine_groups (i : LineNo) (v : Line) : (s.setLine i v).groups = s.groups := rfl
@[simp] theorem setLine_pool (i : LineNo) (v : Line) : (s.setLine i v).pool = s.pool := rfl
@[simp] theorem setLine_queues (i : LineNo) (v : Line) : (s.setLine i v).queues = s.queues := rfl
@[simp] theorem setLine_drops (i : LineNo) (v : Line) : (s.setLine i v).drops = s.drops := rfl
@[simp] theorem setLine_presentation (i : LineNo) (v : Line) : (s.setLine i v).presentation = s.presentation := rfl
@[simp] theorem setLine_contexts (i : LineNo) (v : Line) : (s.setLine i v).contexts = s.contexts := rfl
@[simp] theorem setLine_profiles (i : LineNo) (v : Line) : (s.setLine i v).profiles = s.profiles := rfl
@[simp] theorem setLine_clientLines (i : LineNo) (v : Line) : (s.setLine i v).clientLines = s.clientLines := rfl
@[simp] theorem setLine_board (i : LineNo) (v : Line) : (s.setLine i v).board = s.board := rfl
@[simp] theorem setLine_health (i : LineNo) (v : Line) : (s.setLine i v).health = s.health := rfl
@[simp] theorem setLine_posts (i : LineNo) (v : Line) : (s.setLine i v).posts = s.posts := rfl
@[simp] theorem setLine_sup (i : LineNo) (v : Line) : (s.setLine i v).sup = s.sup := rfl
@[simp] theorem setLine_links (i : LineNo) (v : Line) : (s.setLine i v).links = s.links := rfl
@[simp] theorem setLine_pending (i : LineNo) (v : Line) : (s.setLine i v).pending = s.pending := rfl

@[simp] theorem setMasked_time (i : LineGroup) (v : Nat) : (s.setMasked i v).time = s.time := rfl
@[simp] theorem setMasked_lines (i : LineGroup) (v : Nat) : (s.setMasked i v).lines = s.lines := rfl
@[simp] theorem setMasked_masked (i : LineGroup) (v : Nat) : (s.setMasked i v).masked = s.masked.set i v := rfl
@[simp] theorem setMasked_intake (i : LineGroup) (v : Nat) : (s.setMasked i v).intake = s.intake := rfl
@[simp] theorem setMasked_waiting (i : LineGroup) (v : Nat) : (s.setMasked i v).waiting = s.waiting := rfl
@[simp] theorem setMasked_lostNotices (i : LineGroup) (v : Nat) : (s.setMasked i v).lostNotices = s.lostNotices := rfl
@[simp] theorem setMasked_unrouted (i : LineGroup) (v : Nat) : (s.setMasked i v).unrouted = s.unrouted := rfl
@[simp] theorem setMasked_entries (i : LineGroup) (v : Nat) : (s.setMasked i v).entries = s.entries := rfl
@[simp] theorem setMasked_banks (i : LineGroup) (v : Nat) : (s.setMasked i v).banks = s.banks := rfl
@[simp] theorem setMasked_groups (i : LineGroup) (v : Nat) : (s.setMasked i v).groups = s.groups := rfl
@[simp] theorem setMasked_pool (i : LineGroup) (v : Nat) : (s.setMasked i v).pool = s.pool := rfl
@[simp] theorem setMasked_queues (i : LineGroup) (v : Nat) : (s.setMasked i v).queues = s.queues := rfl
@[simp] theorem setMasked_drops (i : LineGroup) (v : Nat) : (s.setMasked i v).drops = s.drops := rfl
@[simp] theorem setMasked_presentation (i : LineGroup) (v : Nat) : (s.setMasked i v).presentation = s.presentation := rfl
@[simp] theorem setMasked_contexts (i : LineGroup) (v : Nat) : (s.setMasked i v).contexts = s.contexts := rfl
@[simp] theorem setMasked_profiles (i : LineGroup) (v : Nat) : (s.setMasked i v).profiles = s.profiles := rfl
@[simp] theorem setMasked_clientLines (i : LineGroup) (v : Nat) : (s.setMasked i v).clientLines = s.clientLines := rfl
@[simp] theorem setMasked_board (i : LineGroup) (v : Nat) : (s.setMasked i v).board = s.board := rfl
@[simp] theorem setMasked_health (i : LineGroup) (v : Nat) : (s.setMasked i v).health = s.health := rfl
@[simp] theorem setMasked_posts (i : LineGroup) (v : Nat) : (s.setMasked i v).posts = s.posts := rfl
@[simp] theorem setMasked_sup (i : LineGroup) (v : Nat) : (s.setMasked i v).sup = s.sup := rfl
@[simp] theorem setMasked_links (i : LineGroup) (v : Nat) : (s.setMasked i v).links = s.links := rfl
@[simp] theorem setMasked_pending (i : LineGroup) (v : Nat) : (s.setMasked i v).pending = s.pending := rfl

@[simp] theorem setIntake_time (v : List Descriptor) : (s.setIntake v).time = s.time := rfl
@[simp] theorem setIntake_lines (v : List Descriptor) : (s.setIntake v).lines = s.lines := rfl
@[simp] theorem setIntake_masked (v : List Descriptor) : (s.setIntake v).masked = s.masked := rfl
@[simp] theorem setIntake_intake (v : List Descriptor) : (s.setIntake v).intake = v := rfl
@[simp] theorem setIntake_waiting (v : List Descriptor) : (s.setIntake v).waiting = s.waiting := rfl
@[simp] theorem setIntake_lostNotices (v : List Descriptor) : (s.setIntake v).lostNotices = s.lostNotices := rfl
@[simp] theorem setIntake_unrouted (v : List Descriptor) : (s.setIntake v).unrouted = s.unrouted := rfl
@[simp] theorem setIntake_entries (v : List Descriptor) : (s.setIntake v).entries = s.entries := rfl
@[simp] theorem setIntake_banks (v : List Descriptor) : (s.setIntake v).banks = s.banks := rfl
@[simp] theorem setIntake_groups (v : List Descriptor) : (s.setIntake v).groups = s.groups := rfl
@[simp] theorem setIntake_pool (v : List Descriptor) : (s.setIntake v).pool = s.pool := rfl
@[simp] theorem setIntake_queues (v : List Descriptor) : (s.setIntake v).queues = s.queues := rfl
@[simp] theorem setIntake_drops (v : List Descriptor) : (s.setIntake v).drops = s.drops := rfl
@[simp] theorem setIntake_presentation (v : List Descriptor) : (s.setIntake v).presentation = s.presentation := rfl
@[simp] theorem setIntake_contexts (v : List Descriptor) : (s.setIntake v).contexts = s.contexts := rfl
@[simp] theorem setIntake_profiles (v : List Descriptor) : (s.setIntake v).profiles = s.profiles := rfl
@[simp] theorem setIntake_clientLines (v : List Descriptor) : (s.setIntake v).clientLines = s.clientLines := rfl
@[simp] theorem setIntake_board (v : List Descriptor) : (s.setIntake v).board = s.board := rfl
@[simp] theorem setIntake_health (v : List Descriptor) : (s.setIntake v).health = s.health := rfl
@[simp] theorem setIntake_posts (v : List Descriptor) : (s.setIntake v).posts = s.posts := rfl
@[simp] theorem setIntake_sup (v : List Descriptor) : (s.setIntake v).sup = s.sup := rfl
@[simp] theorem setIntake_links (v : List Descriptor) : (s.setIntake v).links = s.links := rfl
@[simp] theorem setIntake_pending (v : List Descriptor) : (s.setIntake v).pending = s.pending := rfl

@[simp] theorem setWaiting_time (i : Fin 8) (v : Option Descriptor) : (s.setWaiting i v).time = s.time := rfl
@[simp] theorem setWaiting_lines (i : Fin 8) (v : Option Descriptor) : (s.setWaiting i v).lines = s.lines := rfl
@[simp] theorem setWaiting_masked (i : Fin 8) (v : Option Descriptor) : (s.setWaiting i v).masked = s.masked := rfl
@[simp] theorem setWaiting_intake (i : Fin 8) (v : Option Descriptor) : (s.setWaiting i v).intake = s.intake := rfl
@[simp] theorem setWaiting_waiting (i : Fin 8) (v : Option Descriptor) : (s.setWaiting i v).waiting = s.waiting.set i v := rfl
@[simp] theorem setWaiting_lostNotices (i : Fin 8) (v : Option Descriptor) : (s.setWaiting i v).lostNotices = s.lostNotices := rfl
@[simp] theorem setWaiting_unrouted (i : Fin 8) (v : Option Descriptor) : (s.setWaiting i v).unrouted = s.unrouted := rfl
@[simp] theorem setWaiting_entries (i : Fin 8) (v : Option Descriptor) : (s.setWaiting i v).entries = s.entries := rfl
@[simp] theorem setWaiting_banks (i : Fin 8) (v : Option Descriptor) : (s.setWaiting i v).banks = s.banks := rfl
@[simp] theorem setWaiting_groups (i : Fin 8) (v : Option Descriptor) : (s.setWaiting i v).groups = s.groups := rfl
@[simp] theorem setWaiting_pool (i : Fin 8) (v : Option Descriptor) : (s.setWaiting i v).pool = s.pool := rfl
@[simp] theorem setWaiting_queues (i : Fin 8) (v : Option Descriptor) : (s.setWaiting i v).queues = s.queues := rfl
@[simp] theorem setWaiting_drops (i : Fin 8) (v : Option Descriptor) : (s.setWaiting i v).drops = s.drops := rfl
@[simp] theorem setWaiting_presentation (i : Fin 8) (v : Option Descriptor) : (s.setWaiting i v).presentation = s.presentation := rfl
@[simp] theorem setWaiting_contexts (i : Fin 8) (v : Option Descriptor) : (s.setWaiting i v).contexts = s.contexts := rfl
@[simp] theorem setWaiting_profiles (i : Fin 8) (v : Option Descriptor) : (s.setWaiting i v).profiles = s.profiles := rfl
@[simp] theorem setWaiting_clientLines (i : Fin 8) (v : Option Descriptor) : (s.setWaiting i v).clientLines = s.clientLines := rfl
@[simp] theorem setWaiting_board (i : Fin 8) (v : Option Descriptor) : (s.setWaiting i v).board = s.board := rfl
@[simp] theorem setWaiting_health (i : Fin 8) (v : Option Descriptor) : (s.setWaiting i v).health = s.health := rfl
@[simp] theorem setWaiting_posts (i : Fin 8) (v : Option Descriptor) : (s.setWaiting i v).posts = s.posts := rfl
@[simp] theorem setWaiting_sup (i : Fin 8) (v : Option Descriptor) : (s.setWaiting i v).sup = s.sup := rfl
@[simp] theorem setWaiting_links (i : Fin 8) (v : Option Descriptor) : (s.setWaiting i v).links = s.links := rfl
@[simp] theorem setWaiting_pending (i : Fin 8) (v : Option Descriptor) : (s.setWaiting i v).pending = s.pending := rfl

@[simp] theorem setLostNotices_time (v : Nat) : (s.setLostNotices v).time = s.time := rfl
@[simp] theorem setLostNotices_lines (v : Nat) : (s.setLostNotices v).lines = s.lines := rfl
@[simp] theorem setLostNotices_masked (v : Nat) : (s.setLostNotices v).masked = s.masked := rfl
@[simp] theorem setLostNotices_intake (v : Nat) : (s.setLostNotices v).intake = s.intake := rfl
@[simp] theorem setLostNotices_waiting (v : Nat) : (s.setLostNotices v).waiting = s.waiting := rfl
@[simp] theorem setLostNotices_lostNotices (v : Nat) : (s.setLostNotices v).lostNotices = v := rfl
@[simp] theorem setLostNotices_unrouted (v : Nat) : (s.setLostNotices v).unrouted = s.unrouted := rfl
@[simp] theorem setLostNotices_entries (v : Nat) : (s.setLostNotices v).entries = s.entries := rfl
@[simp] theorem setLostNotices_banks (v : Nat) : (s.setLostNotices v).banks = s.banks := rfl
@[simp] theorem setLostNotices_groups (v : Nat) : (s.setLostNotices v).groups = s.groups := rfl
@[simp] theorem setLostNotices_pool (v : Nat) : (s.setLostNotices v).pool = s.pool := rfl
@[simp] theorem setLostNotices_queues (v : Nat) : (s.setLostNotices v).queues = s.queues := rfl
@[simp] theorem setLostNotices_drops (v : Nat) : (s.setLostNotices v).drops = s.drops := rfl
@[simp] theorem setLostNotices_presentation (v : Nat) : (s.setLostNotices v).presentation = s.presentation := rfl
@[simp] theorem setLostNotices_contexts (v : Nat) : (s.setLostNotices v).contexts = s.contexts := rfl
@[simp] theorem setLostNotices_profiles (v : Nat) : (s.setLostNotices v).profiles = s.profiles := rfl
@[simp] theorem setLostNotices_clientLines (v : Nat) : (s.setLostNotices v).clientLines = s.clientLines := rfl
@[simp] theorem setLostNotices_board (v : Nat) : (s.setLostNotices v).board = s.board := rfl
@[simp] theorem setLostNotices_health (v : Nat) : (s.setLostNotices v).health = s.health := rfl
@[simp] theorem setLostNotices_posts (v : Nat) : (s.setLostNotices v).posts = s.posts := rfl
@[simp] theorem setLostNotices_sup (v : Nat) : (s.setLostNotices v).sup = s.sup := rfl
@[simp] theorem setLostNotices_links (v : Nat) : (s.setLostNotices v).links = s.links := rfl
@[simp] theorem setLostNotices_pending (v : Nat) : (s.setLostNotices v).pending = s.pending := rfl

@[simp] theorem setUnrouted_time (v : Nat) : (s.setUnrouted v).time = s.time := rfl
@[simp] theorem setUnrouted_lines (v : Nat) : (s.setUnrouted v).lines = s.lines := rfl
@[simp] theorem setUnrouted_masked (v : Nat) : (s.setUnrouted v).masked = s.masked := rfl
@[simp] theorem setUnrouted_intake (v : Nat) : (s.setUnrouted v).intake = s.intake := rfl
@[simp] theorem setUnrouted_waiting (v : Nat) : (s.setUnrouted v).waiting = s.waiting := rfl
@[simp] theorem setUnrouted_lostNotices (v : Nat) : (s.setUnrouted v).lostNotices = s.lostNotices := rfl
@[simp] theorem setUnrouted_unrouted (v : Nat) : (s.setUnrouted v).unrouted = v := rfl
@[simp] theorem setUnrouted_entries (v : Nat) : (s.setUnrouted v).entries = s.entries := rfl
@[simp] theorem setUnrouted_banks (v : Nat) : (s.setUnrouted v).banks = s.banks := rfl
@[simp] theorem setUnrouted_groups (v : Nat) : (s.setUnrouted v).groups = s.groups := rfl
@[simp] theorem setUnrouted_pool (v : Nat) : (s.setUnrouted v).pool = s.pool := rfl
@[simp] theorem setUnrouted_queues (v : Nat) : (s.setUnrouted v).queues = s.queues := rfl
@[simp] theorem setUnrouted_drops (v : Nat) : (s.setUnrouted v).drops = s.drops := rfl
@[simp] theorem setUnrouted_presentation (v : Nat) : (s.setUnrouted v).presentation = s.presentation := rfl
@[simp] theorem setUnrouted_contexts (v : Nat) : (s.setUnrouted v).contexts = s.contexts := rfl
@[simp] theorem setUnrouted_profiles (v : Nat) : (s.setUnrouted v).profiles = s.profiles := rfl
@[simp] theorem setUnrouted_clientLines (v : Nat) : (s.setUnrouted v).clientLines = s.clientLines := rfl
@[simp] theorem setUnrouted_board (v : Nat) : (s.setUnrouted v).board = s.board := rfl
@[simp] theorem setUnrouted_health (v : Nat) : (s.setUnrouted v).health = s.health := rfl
@[simp] theorem setUnrouted_posts (v : Nat) : (s.setUnrouted v).posts = s.posts := rfl
@[simp] theorem setUnrouted_sup (v : Nat) : (s.setUnrouted v).sup = s.sup := rfl
@[simp] theorem setUnrouted_links (v : Nat) : (s.setUnrouted v).links = s.links := rfl
@[simp] theorem setUnrouted_pending (v : Nat) : (s.setUnrouted v).pending = s.pending := rfl

@[simp] theorem setEntry_time (i : EntryNo) (v : RouteEntry) : (s.setEntry i v).time = s.time := rfl
@[simp] theorem setEntry_lines (i : EntryNo) (v : RouteEntry) : (s.setEntry i v).lines = s.lines := rfl
@[simp] theorem setEntry_masked (i : EntryNo) (v : RouteEntry) : (s.setEntry i v).masked = s.masked := rfl
@[simp] theorem setEntry_intake (i : EntryNo) (v : RouteEntry) : (s.setEntry i v).intake = s.intake := rfl
@[simp] theorem setEntry_waiting (i : EntryNo) (v : RouteEntry) : (s.setEntry i v).waiting = s.waiting := rfl
@[simp] theorem setEntry_lostNotices (i : EntryNo) (v : RouteEntry) : (s.setEntry i v).lostNotices = s.lostNotices := rfl
@[simp] theorem setEntry_unrouted (i : EntryNo) (v : RouteEntry) : (s.setEntry i v).unrouted = s.unrouted := rfl
@[simp] theorem setEntry_entries (i : EntryNo) (v : RouteEntry) : (s.setEntry i v).entries = s.entries.set i v := rfl
@[simp] theorem setEntry_banks (i : EntryNo) (v : RouteEntry) : (s.setEntry i v).banks = s.banks := rfl
@[simp] theorem setEntry_groups (i : EntryNo) (v : RouteEntry) : (s.setEntry i v).groups = s.groups := rfl
@[simp] theorem setEntry_pool (i : EntryNo) (v : RouteEntry) : (s.setEntry i v).pool = s.pool := rfl
@[simp] theorem setEntry_queues (i : EntryNo) (v : RouteEntry) : (s.setEntry i v).queues = s.queues := rfl
@[simp] theorem setEntry_drops (i : EntryNo) (v : RouteEntry) : (s.setEntry i v).drops = s.drops := rfl
@[simp] theorem setEntry_presentation (i : EntryNo) (v : RouteEntry) : (s.setEntry i v).presentation = s.presentation := rfl
@[simp] theorem setEntry_contexts (i : EntryNo) (v : RouteEntry) : (s.setEntry i v).contexts = s.contexts := rfl
@[simp] theorem setEntry_profiles (i : EntryNo) (v : RouteEntry) : (s.setEntry i v).profiles = s.profiles := rfl
@[simp] theorem setEntry_clientLines (i : EntryNo) (v : RouteEntry) : (s.setEntry i v).clientLines = s.clientLines := rfl
@[simp] theorem setEntry_board (i : EntryNo) (v : RouteEntry) : (s.setEntry i v).board = s.board := rfl
@[simp] theorem setEntry_health (i : EntryNo) (v : RouteEntry) : (s.setEntry i v).health = s.health := rfl
@[simp] theorem setEntry_posts (i : EntryNo) (v : RouteEntry) : (s.setEntry i v).posts = s.posts := rfl
@[simp] theorem setEntry_sup (i : EntryNo) (v : RouteEntry) : (s.setEntry i v).sup = s.sup := rfl
@[simp] theorem setEntry_links (i : EntryNo) (v : RouteEntry) : (s.setEntry i v).links = s.links := rfl
@[simp] theorem setEntry_pending (i : EntryNo) (v : RouteEntry) : (s.setEntry i v).pending = s.pending := rfl

@[simp] theorem setBank_time (i : BankNo) (v : BankState) : (s.setBank i v).time = s.time := rfl
@[simp] theorem setBank_lines (i : BankNo) (v : BankState) : (s.setBank i v).lines = s.lines := rfl
@[simp] theorem setBank_masked (i : BankNo) (v : BankState) : (s.setBank i v).masked = s.masked := rfl
@[simp] theorem setBank_intake (i : BankNo) (v : BankState) : (s.setBank i v).intake = s.intake := rfl
@[simp] theorem setBank_waiting (i : BankNo) (v : BankState) : (s.setBank i v).waiting = s.waiting := rfl
@[simp] theorem setBank_lostNotices (i : BankNo) (v : BankState) : (s.setBank i v).lostNotices = s.lostNotices := rfl
@[simp] theorem setBank_unrouted (i : BankNo) (v : BankState) : (s.setBank i v).unrouted = s.unrouted := rfl
@[simp] theorem setBank_entries (i : BankNo) (v : BankState) : (s.setBank i v).entries = s.entries := rfl
@[simp] theorem setBank_banks (i : BankNo) (v : BankState) : (s.setBank i v).banks = s.banks.set i v := rfl
@[simp] theorem setBank_groups (i : BankNo) (v : BankState) : (s.setBank i v).groups = s.groups := rfl
@[simp] theorem setBank_pool (i : BankNo) (v : BankState) : (s.setBank i v).pool = s.pool := rfl
@[simp] theorem setBank_queues (i : BankNo) (v : BankState) : (s.setBank i v).queues = s.queues := rfl
@[simp] theorem setBank_drops (i : BankNo) (v : BankState) : (s.setBank i v).drops = s.drops := rfl
@[simp] theorem setBank_presentation (i : BankNo) (v : BankState) : (s.setBank i v).presentation = s.presentation := rfl
@[simp] theorem setBank_contexts (i : BankNo) (v : BankState) : (s.setBank i v).contexts = s.contexts := rfl
@[simp] theorem setBank_profiles (i : BankNo) (v : BankState) : (s.setBank i v).profiles = s.profiles := rfl
@[simp] theorem setBank_clientLines (i : BankNo) (v : BankState) : (s.setBank i v).clientLines = s.clientLines := rfl
@[simp] theorem setBank_board (i : BankNo) (v : BankState) : (s.setBank i v).board = s.board := rfl
@[simp] theorem setBank_health (i : BankNo) (v : BankState) : (s.setBank i v).health = s.health := rfl
@[simp] theorem setBank_posts (i : BankNo) (v : BankState) : (s.setBank i v).posts = s.posts := rfl
@[simp] theorem setBank_sup (i : BankNo) (v : BankState) : (s.setBank i v).sup = s.sup := rfl
@[simp] theorem setBank_links (i : BankNo) (v : BankState) : (s.setBank i v).links = s.links := rfl
@[simp] theorem setBank_pending (i : BankNo) (v : BankState) : (s.setBank i v).pending = s.pending := rfl

@[simp] theorem setGroup_time (i : GroupNo) (v : Option FirstGroup) : (s.setGroup i v).time = s.time := rfl
@[simp] theorem setGroup_lines (i : GroupNo) (v : Option FirstGroup) : (s.setGroup i v).lines = s.lines := rfl
@[simp] theorem setGroup_masked (i : GroupNo) (v : Option FirstGroup) : (s.setGroup i v).masked = s.masked := rfl
@[simp] theorem setGroup_intake (i : GroupNo) (v : Option FirstGroup) : (s.setGroup i v).intake = s.intake := rfl
@[simp] theorem setGroup_waiting (i : GroupNo) (v : Option FirstGroup) : (s.setGroup i v).waiting = s.waiting := rfl
@[simp] theorem setGroup_lostNotices (i : GroupNo) (v : Option FirstGroup) : (s.setGroup i v).lostNotices = s.lostNotices := rfl
@[simp] theorem setGroup_unrouted (i : GroupNo) (v : Option FirstGroup) : (s.setGroup i v).unrouted = s.unrouted := rfl
@[simp] theorem setGroup_entries (i : GroupNo) (v : Option FirstGroup) : (s.setGroup i v).entries = s.entries := rfl
@[simp] theorem setGroup_banks (i : GroupNo) (v : Option FirstGroup) : (s.setGroup i v).banks = s.banks := rfl
@[simp] theorem setGroup_groups (i : GroupNo) (v : Option FirstGroup) : (s.setGroup i v).groups = s.groups.set i v := rfl
@[simp] theorem setGroup_pool (i : GroupNo) (v : Option FirstGroup) : (s.setGroup i v).pool = s.pool := rfl
@[simp] theorem setGroup_queues (i : GroupNo) (v : Option FirstGroup) : (s.setGroup i v).queues = s.queues := rfl
@[simp] theorem setGroup_drops (i : GroupNo) (v : Option FirstGroup) : (s.setGroup i v).drops = s.drops := rfl
@[simp] theorem setGroup_presentation (i : GroupNo) (v : Option FirstGroup) : (s.setGroup i v).presentation = s.presentation := rfl
@[simp] theorem setGroup_contexts (i : GroupNo) (v : Option FirstGroup) : (s.setGroup i v).contexts = s.contexts := rfl
@[simp] theorem setGroup_profiles (i : GroupNo) (v : Option FirstGroup) : (s.setGroup i v).profiles = s.profiles := rfl
@[simp] theorem setGroup_clientLines (i : GroupNo) (v : Option FirstGroup) : (s.setGroup i v).clientLines = s.clientLines := rfl
@[simp] theorem setGroup_board (i : GroupNo) (v : Option FirstGroup) : (s.setGroup i v).board = s.board := rfl
@[simp] theorem setGroup_health (i : GroupNo) (v : Option FirstGroup) : (s.setGroup i v).health = s.health := rfl
@[simp] theorem setGroup_posts (i : GroupNo) (v : Option FirstGroup) : (s.setGroup i v).posts = s.posts := rfl
@[simp] theorem setGroup_sup (i : GroupNo) (v : Option FirstGroup) : (s.setGroup i v).sup = s.sup := rfl
@[simp] theorem setGroup_links (i : GroupNo) (v : Option FirstGroup) : (s.setGroup i v).links = s.links := rfl
@[simp] theorem setGroup_pending (i : GroupNo) (v : Option FirstGroup) : (s.setGroup i v).pending = s.pending := rfl

@[simp] theorem setSlot_time (i : RecIndex) (v : PoolSlot) : (s.setSlot i v).time = s.time := rfl
@[simp] theorem setSlot_lines (i : RecIndex) (v : PoolSlot) : (s.setSlot i v).lines = s.lines := rfl
@[simp] theorem setSlot_masked (i : RecIndex) (v : PoolSlot) : (s.setSlot i v).masked = s.masked := rfl
@[simp] theorem setSlot_intake (i : RecIndex) (v : PoolSlot) : (s.setSlot i v).intake = s.intake := rfl
@[simp] theorem setSlot_waiting (i : RecIndex) (v : PoolSlot) : (s.setSlot i v).waiting = s.waiting := rfl
@[simp] theorem setSlot_lostNotices (i : RecIndex) (v : PoolSlot) : (s.setSlot i v).lostNotices = s.lostNotices := rfl
@[simp] theorem setSlot_unrouted (i : RecIndex) (v : PoolSlot) : (s.setSlot i v).unrouted = s.unrouted := rfl
@[simp] theorem setSlot_entries (i : RecIndex) (v : PoolSlot) : (s.setSlot i v).entries = s.entries := rfl
@[simp] theorem setSlot_banks (i : RecIndex) (v : PoolSlot) : (s.setSlot i v).banks = s.banks := rfl
@[simp] theorem setSlot_groups (i : RecIndex) (v : PoolSlot) : (s.setSlot i v).groups = s.groups := rfl
@[simp] theorem setSlot_pool (i : RecIndex) (v : PoolSlot) : (s.setSlot i v).pool = s.pool.set i v := rfl
@[simp] theorem setSlot_queues (i : RecIndex) (v : PoolSlot) : (s.setSlot i v).queues = s.queues := rfl
@[simp] theorem setSlot_drops (i : RecIndex) (v : PoolSlot) : (s.setSlot i v).drops = s.drops := rfl
@[simp] theorem setSlot_presentation (i : RecIndex) (v : PoolSlot) : (s.setSlot i v).presentation = s.presentation := rfl
@[simp] theorem setSlot_contexts (i : RecIndex) (v : PoolSlot) : (s.setSlot i v).contexts = s.contexts := rfl
@[simp] theorem setSlot_profiles (i : RecIndex) (v : PoolSlot) : (s.setSlot i v).profiles = s.profiles := rfl
@[simp] theorem setSlot_clientLines (i : RecIndex) (v : PoolSlot) : (s.setSlot i v).clientLines = s.clientLines := rfl
@[simp] theorem setSlot_board (i : RecIndex) (v : PoolSlot) : (s.setSlot i v).board = s.board := rfl
@[simp] theorem setSlot_health (i : RecIndex) (v : PoolSlot) : (s.setSlot i v).health = s.health := rfl
@[simp] theorem setSlot_posts (i : RecIndex) (v : PoolSlot) : (s.setSlot i v).posts = s.posts := rfl
@[simp] theorem setSlot_sup (i : RecIndex) (v : PoolSlot) : (s.setSlot i v).sup = s.sup := rfl
@[simp] theorem setSlot_links (i : RecIndex) (v : PoolSlot) : (s.setSlot i v).links = s.links := rfl
@[simp] theorem setSlot_pending (i : RecIndex) (v : PoolSlot) : (s.setSlot i v).pending = s.pending := rfl

@[simp] theorem setQueue_time (i : Client) (v : List RecIndex) : (s.setQueue i v).time = s.time := rfl
@[simp] theorem setQueue_lines (i : Client) (v : List RecIndex) : (s.setQueue i v).lines = s.lines := rfl
@[simp] theorem setQueue_masked (i : Client) (v : List RecIndex) : (s.setQueue i v).masked = s.masked := rfl
@[simp] theorem setQueue_intake (i : Client) (v : List RecIndex) : (s.setQueue i v).intake = s.intake := rfl
@[simp] theorem setQueue_waiting (i : Client) (v : List RecIndex) : (s.setQueue i v).waiting = s.waiting := rfl
@[simp] theorem setQueue_lostNotices (i : Client) (v : List RecIndex) : (s.setQueue i v).lostNotices = s.lostNotices := rfl
@[simp] theorem setQueue_unrouted (i : Client) (v : List RecIndex) : (s.setQueue i v).unrouted = s.unrouted := rfl
@[simp] theorem setQueue_entries (i : Client) (v : List RecIndex) : (s.setQueue i v).entries = s.entries := rfl
@[simp] theorem setQueue_banks (i : Client) (v : List RecIndex) : (s.setQueue i v).banks = s.banks := rfl
@[simp] theorem setQueue_groups (i : Client) (v : List RecIndex) : (s.setQueue i v).groups = s.groups := rfl
@[simp] theorem setQueue_pool (i : Client) (v : List RecIndex) : (s.setQueue i v).pool = s.pool := rfl
@[simp] theorem setQueue_queues (i : Client) (v : List RecIndex) : (s.setQueue i v).queues = s.queues.set i v := rfl
@[simp] theorem setQueue_drops (i : Client) (v : List RecIndex) : (s.setQueue i v).drops = s.drops := rfl
@[simp] theorem setQueue_presentation (i : Client) (v : List RecIndex) : (s.setQueue i v).presentation = s.presentation := rfl
@[simp] theorem setQueue_contexts (i : Client) (v : List RecIndex) : (s.setQueue i v).contexts = s.contexts := rfl
@[simp] theorem setQueue_profiles (i : Client) (v : List RecIndex) : (s.setQueue i v).profiles = s.profiles := rfl
@[simp] theorem setQueue_clientLines (i : Client) (v : List RecIndex) : (s.setQueue i v).clientLines = s.clientLines := rfl
@[simp] theorem setQueue_board (i : Client) (v : List RecIndex) : (s.setQueue i v).board = s.board := rfl
@[simp] theorem setQueue_health (i : Client) (v : List RecIndex) : (s.setQueue i v).health = s.health := rfl
@[simp] theorem setQueue_posts (i : Client) (v : List RecIndex) : (s.setQueue i v).posts = s.posts := rfl
@[simp] theorem setQueue_sup (i : Client) (v : List RecIndex) : (s.setQueue i v).sup = s.sup := rfl
@[simp] theorem setQueue_links (i : Client) (v : List RecIndex) : (s.setQueue i v).links = s.links := rfl
@[simp] theorem setQueue_pending (i : Client) (v : List RecIndex) : (s.setQueue i v).pending = s.pending := rfl

@[simp] theorem setDrops_time (i : Client) (v : DropCounts) : (s.setDrops i v).time = s.time := rfl
@[simp] theorem setDrops_lines (i : Client) (v : DropCounts) : (s.setDrops i v).lines = s.lines := rfl
@[simp] theorem setDrops_masked (i : Client) (v : DropCounts) : (s.setDrops i v).masked = s.masked := rfl
@[simp] theorem setDrops_intake (i : Client) (v : DropCounts) : (s.setDrops i v).intake = s.intake := rfl
@[simp] theorem setDrops_waiting (i : Client) (v : DropCounts) : (s.setDrops i v).waiting = s.waiting := rfl
@[simp] theorem setDrops_lostNotices (i : Client) (v : DropCounts) : (s.setDrops i v).lostNotices = s.lostNotices := rfl
@[simp] theorem setDrops_unrouted (i : Client) (v : DropCounts) : (s.setDrops i v).unrouted = s.unrouted := rfl
@[simp] theorem setDrops_entries (i : Client) (v : DropCounts) : (s.setDrops i v).entries = s.entries := rfl
@[simp] theorem setDrops_banks (i : Client) (v : DropCounts) : (s.setDrops i v).banks = s.banks := rfl
@[simp] theorem setDrops_groups (i : Client) (v : DropCounts) : (s.setDrops i v).groups = s.groups := rfl
@[simp] theorem setDrops_pool (i : Client) (v : DropCounts) : (s.setDrops i v).pool = s.pool := rfl
@[simp] theorem setDrops_queues (i : Client) (v : DropCounts) : (s.setDrops i v).queues = s.queues := rfl
@[simp] theorem setDrops_drops (i : Client) (v : DropCounts) : (s.setDrops i v).drops = s.drops.set i v := rfl
@[simp] theorem setDrops_presentation (i : Client) (v : DropCounts) : (s.setDrops i v).presentation = s.presentation := rfl
@[simp] theorem setDrops_contexts (i : Client) (v : DropCounts) : (s.setDrops i v).contexts = s.contexts := rfl
@[simp] theorem setDrops_profiles (i : Client) (v : DropCounts) : (s.setDrops i v).profiles = s.profiles := rfl
@[simp] theorem setDrops_clientLines (i : Client) (v : DropCounts) : (s.setDrops i v).clientLines = s.clientLines := rfl
@[simp] theorem setDrops_board (i : Client) (v : DropCounts) : (s.setDrops i v).board = s.board := rfl
@[simp] theorem setDrops_health (i : Client) (v : DropCounts) : (s.setDrops i v).health = s.health := rfl
@[simp] theorem setDrops_posts (i : Client) (v : DropCounts) : (s.setDrops i v).posts = s.posts := rfl
@[simp] theorem setDrops_sup (i : Client) (v : DropCounts) : (s.setDrops i v).sup = s.sup := rfl
@[simp] theorem setDrops_links (i : Client) (v : DropCounts) : (s.setDrops i v).links = s.links := rfl
@[simp] theorem setDrops_pending (i : Client) (v : DropCounts) : (s.setDrops i v).pending = s.pending := rfl

@[simp] theorem setPresentation_time (i : Client) (v : Presentation) : (s.setPresentation i v).time = s.time := rfl
@[simp] theorem setPresentation_lines (i : Client) (v : Presentation) : (s.setPresentation i v).lines = s.lines := rfl
@[simp] theorem setPresentation_masked (i : Client) (v : Presentation) : (s.setPresentation i v).masked = s.masked := rfl
@[simp] theorem setPresentation_intake (i : Client) (v : Presentation) : (s.setPresentation i v).intake = s.intake := rfl
@[simp] theorem setPresentation_waiting (i : Client) (v : Presentation) : (s.setPresentation i v).waiting = s.waiting := rfl
@[simp] theorem setPresentation_lostNotices (i : Client) (v : Presentation) : (s.setPresentation i v).lostNotices = s.lostNotices := rfl
@[simp] theorem setPresentation_unrouted (i : Client) (v : Presentation) : (s.setPresentation i v).unrouted = s.unrouted := rfl
@[simp] theorem setPresentation_entries (i : Client) (v : Presentation) : (s.setPresentation i v).entries = s.entries := rfl
@[simp] theorem setPresentation_banks (i : Client) (v : Presentation) : (s.setPresentation i v).banks = s.banks := rfl
@[simp] theorem setPresentation_groups (i : Client) (v : Presentation) : (s.setPresentation i v).groups = s.groups := rfl
@[simp] theorem setPresentation_pool (i : Client) (v : Presentation) : (s.setPresentation i v).pool = s.pool := rfl
@[simp] theorem setPresentation_queues (i : Client) (v : Presentation) : (s.setPresentation i v).queues = s.queues := rfl
@[simp] theorem setPresentation_drops (i : Client) (v : Presentation) : (s.setPresentation i v).drops = s.drops := rfl
@[simp] theorem setPresentation_presentation (i : Client) (v : Presentation) : (s.setPresentation i v).presentation = s.presentation.set i v := rfl
@[simp] theorem setPresentation_contexts (i : Client) (v : Presentation) : (s.setPresentation i v).contexts = s.contexts := rfl
@[simp] theorem setPresentation_profiles (i : Client) (v : Presentation) : (s.setPresentation i v).profiles = s.profiles := rfl
@[simp] theorem setPresentation_clientLines (i : Client) (v : Presentation) : (s.setPresentation i v).clientLines = s.clientLines := rfl
@[simp] theorem setPresentation_board (i : Client) (v : Presentation) : (s.setPresentation i v).board = s.board := rfl
@[simp] theorem setPresentation_health (i : Client) (v : Presentation) : (s.setPresentation i v).health = s.health := rfl
@[simp] theorem setPresentation_posts (i : Client) (v : Presentation) : (s.setPresentation i v).posts = s.posts := rfl
@[simp] theorem setPresentation_sup (i : Client) (v : Presentation) : (s.setPresentation i v).sup = s.sup := rfl
@[simp] theorem setPresentation_links (i : Client) (v : Presentation) : (s.setPresentation i v).links = s.links := rfl
@[simp] theorem setPresentation_pending (i : Client) (v : Presentation) : (s.setPresentation i v).pending = s.pending := rfl

@[simp] theorem setContexts_time (i : Client) (v : ClientContexts) : (s.setContexts i v).time = s.time := rfl
@[simp] theorem setContexts_lines (i : Client) (v : ClientContexts) : (s.setContexts i v).lines = s.lines := rfl
@[simp] theorem setContexts_masked (i : Client) (v : ClientContexts) : (s.setContexts i v).masked = s.masked := rfl
@[simp] theorem setContexts_intake (i : Client) (v : ClientContexts) : (s.setContexts i v).intake = s.intake := rfl
@[simp] theorem setContexts_waiting (i : Client) (v : ClientContexts) : (s.setContexts i v).waiting = s.waiting := rfl
@[simp] theorem setContexts_lostNotices (i : Client) (v : ClientContexts) : (s.setContexts i v).lostNotices = s.lostNotices := rfl
@[simp] theorem setContexts_unrouted (i : Client) (v : ClientContexts) : (s.setContexts i v).unrouted = s.unrouted := rfl
@[simp] theorem setContexts_entries (i : Client) (v : ClientContexts) : (s.setContexts i v).entries = s.entries := rfl
@[simp] theorem setContexts_banks (i : Client) (v : ClientContexts) : (s.setContexts i v).banks = s.banks := rfl
@[simp] theorem setContexts_groups (i : Client) (v : ClientContexts) : (s.setContexts i v).groups = s.groups := rfl
@[simp] theorem setContexts_pool (i : Client) (v : ClientContexts) : (s.setContexts i v).pool = s.pool := rfl
@[simp] theorem setContexts_queues (i : Client) (v : ClientContexts) : (s.setContexts i v).queues = s.queues := rfl
@[simp] theorem setContexts_drops (i : Client) (v : ClientContexts) : (s.setContexts i v).drops = s.drops := rfl
@[simp] theorem setContexts_presentation (i : Client) (v : ClientContexts) : (s.setContexts i v).presentation = s.presentation := rfl
@[simp] theorem setContexts_contexts (i : Client) (v : ClientContexts) : (s.setContexts i v).contexts = s.contexts.set i v := rfl
@[simp] theorem setContexts_profiles (i : Client) (v : ClientContexts) : (s.setContexts i v).profiles = s.profiles := rfl
@[simp] theorem setContexts_clientLines (i : Client) (v : ClientContexts) : (s.setContexts i v).clientLines = s.clientLines := rfl
@[simp] theorem setContexts_board (i : Client) (v : ClientContexts) : (s.setContexts i v).board = s.board := rfl
@[simp] theorem setContexts_health (i : Client) (v : ClientContexts) : (s.setContexts i v).health = s.health := rfl
@[simp] theorem setContexts_posts (i : Client) (v : ClientContexts) : (s.setContexts i v).posts = s.posts := rfl
@[simp] theorem setContexts_sup (i : Client) (v : ClientContexts) : (s.setContexts i v).sup = s.sup := rfl
@[simp] theorem setContexts_links (i : Client) (v : ClientContexts) : (s.setContexts i v).links = s.links := rfl
@[simp] theorem setContexts_pending (i : Client) (v : ClientContexts) : (s.setContexts i v).pending = s.pending := rfl

@[simp] theorem setProfile_time (i : ProfileNo) (v : Profile) : (s.setProfile i v).time = s.time := rfl
@[simp] theorem setProfile_lines (i : ProfileNo) (v : Profile) : (s.setProfile i v).lines = s.lines := rfl
@[simp] theorem setProfile_masked (i : ProfileNo) (v : Profile) : (s.setProfile i v).masked = s.masked := rfl
@[simp] theorem setProfile_intake (i : ProfileNo) (v : Profile) : (s.setProfile i v).intake = s.intake := rfl
@[simp] theorem setProfile_waiting (i : ProfileNo) (v : Profile) : (s.setProfile i v).waiting = s.waiting := rfl
@[simp] theorem setProfile_lostNotices (i : ProfileNo) (v : Profile) : (s.setProfile i v).lostNotices = s.lostNotices := rfl
@[simp] theorem setProfile_unrouted (i : ProfileNo) (v : Profile) : (s.setProfile i v).unrouted = s.unrouted := rfl
@[simp] theorem setProfile_entries (i : ProfileNo) (v : Profile) : (s.setProfile i v).entries = s.entries := rfl
@[simp] theorem setProfile_banks (i : ProfileNo) (v : Profile) : (s.setProfile i v).banks = s.banks := rfl
@[simp] theorem setProfile_groups (i : ProfileNo) (v : Profile) : (s.setProfile i v).groups = s.groups := rfl
@[simp] theorem setProfile_pool (i : ProfileNo) (v : Profile) : (s.setProfile i v).pool = s.pool := rfl
@[simp] theorem setProfile_queues (i : ProfileNo) (v : Profile) : (s.setProfile i v).queues = s.queues := rfl
@[simp] theorem setProfile_drops (i : ProfileNo) (v : Profile) : (s.setProfile i v).drops = s.drops := rfl
@[simp] theorem setProfile_presentation (i : ProfileNo) (v : Profile) : (s.setProfile i v).presentation = s.presentation := rfl
@[simp] theorem setProfile_contexts (i : ProfileNo) (v : Profile) : (s.setProfile i v).contexts = s.contexts := rfl
@[simp] theorem setProfile_profiles (i : ProfileNo) (v : Profile) : (s.setProfile i v).profiles = s.profiles.set i v := rfl
@[simp] theorem setProfile_clientLines (i : ProfileNo) (v : Profile) : (s.setProfile i v).clientLines = s.clientLines := rfl
@[simp] theorem setProfile_board (i : ProfileNo) (v : Profile) : (s.setProfile i v).board = s.board := rfl
@[simp] theorem setProfile_health (i : ProfileNo) (v : Profile) : (s.setProfile i v).health = s.health := rfl
@[simp] theorem setProfile_posts (i : ProfileNo) (v : Profile) : (s.setProfile i v).posts = s.posts := rfl
@[simp] theorem setProfile_sup (i : ProfileNo) (v : Profile) : (s.setProfile i v).sup = s.sup := rfl
@[simp] theorem setProfile_links (i : ProfileNo) (v : Profile) : (s.setProfile i v).links = s.links := rfl
@[simp] theorem setProfile_pending (i : ProfileNo) (v : Profile) : (s.setProfile i v).pending = s.pending := rfl

@[simp] theorem setClientLines_time (i : Client) (v : ClientLines) : (s.setClientLines i v).time = s.time := rfl
@[simp] theorem setClientLines_lines (i : Client) (v : ClientLines) : (s.setClientLines i v).lines = s.lines := rfl
@[simp] theorem setClientLines_masked (i : Client) (v : ClientLines) : (s.setClientLines i v).masked = s.masked := rfl
@[simp] theorem setClientLines_intake (i : Client) (v : ClientLines) : (s.setClientLines i v).intake = s.intake := rfl
@[simp] theorem setClientLines_waiting (i : Client) (v : ClientLines) : (s.setClientLines i v).waiting = s.waiting := rfl
@[simp] theorem setClientLines_lostNotices (i : Client) (v : ClientLines) : (s.setClientLines i v).lostNotices = s.lostNotices := rfl
@[simp] theorem setClientLines_unrouted (i : Client) (v : ClientLines) : (s.setClientLines i v).unrouted = s.unrouted := rfl
@[simp] theorem setClientLines_entries (i : Client) (v : ClientLines) : (s.setClientLines i v).entries = s.entries := rfl
@[simp] theorem setClientLines_banks (i : Client) (v : ClientLines) : (s.setClientLines i v).banks = s.banks := rfl
@[simp] theorem setClientLines_groups (i : Client) (v : ClientLines) : (s.setClientLines i v).groups = s.groups := rfl
@[simp] theorem setClientLines_pool (i : Client) (v : ClientLines) : (s.setClientLines i v).pool = s.pool := rfl
@[simp] theorem setClientLines_queues (i : Client) (v : ClientLines) : (s.setClientLines i v).queues = s.queues := rfl
@[simp] theorem setClientLines_drops (i : Client) (v : ClientLines) : (s.setClientLines i v).drops = s.drops := rfl
@[simp] theorem setClientLines_presentation (i : Client) (v : ClientLines) : (s.setClientLines i v).presentation = s.presentation := rfl
@[simp] theorem setClientLines_contexts (i : Client) (v : ClientLines) : (s.setClientLines i v).contexts = s.contexts := rfl
@[simp] theorem setClientLines_profiles (i : Client) (v : ClientLines) : (s.setClientLines i v).profiles = s.profiles := rfl
@[simp] theorem setClientLines_clientLines (i : Client) (v : ClientLines) : (s.setClientLines i v).clientLines = s.clientLines.set i v := rfl
@[simp] theorem setClientLines_board (i : Client) (v : ClientLines) : (s.setClientLines i v).board = s.board := rfl
@[simp] theorem setClientLines_health (i : Client) (v : ClientLines) : (s.setClientLines i v).health = s.health := rfl
@[simp] theorem setClientLines_posts (i : Client) (v : ClientLines) : (s.setClientLines i v).posts = s.posts := rfl
@[simp] theorem setClientLines_sup (i : Client) (v : ClientLines) : (s.setClientLines i v).sup = s.sup := rfl
@[simp] theorem setClientLines_links (i : Client) (v : ClientLines) : (s.setClientLines i v).links = s.links := rfl
@[simp] theorem setClientLines_pending (i : Client) (v : ClientLines) : (s.setClientLines i v).pending = s.pending := rfl

@[simp] theorem setBoard_time (v : BoardLines) : (s.setBoard v).time = s.time := rfl
@[simp] theorem setBoard_lines (v : BoardLines) : (s.setBoard v).lines = s.lines := rfl
@[simp] theorem setBoard_masked (v : BoardLines) : (s.setBoard v).masked = s.masked := rfl
@[simp] theorem setBoard_intake (v : BoardLines) : (s.setBoard v).intake = s.intake := rfl
@[simp] theorem setBoard_waiting (v : BoardLines) : (s.setBoard v).waiting = s.waiting := rfl
@[simp] theorem setBoard_lostNotices (v : BoardLines) : (s.setBoard v).lostNotices = s.lostNotices := rfl
@[simp] theorem setBoard_unrouted (v : BoardLines) : (s.setBoard v).unrouted = s.unrouted := rfl
@[simp] theorem setBoard_entries (v : BoardLines) : (s.setBoard v).entries = s.entries := rfl
@[simp] theorem setBoard_banks (v : BoardLines) : (s.setBoard v).banks = s.banks := rfl
@[simp] theorem setBoard_groups (v : BoardLines) : (s.setBoard v).groups = s.groups := rfl
@[simp] theorem setBoard_pool (v : BoardLines) : (s.setBoard v).pool = s.pool := rfl
@[simp] theorem setBoard_queues (v : BoardLines) : (s.setBoard v).queues = s.queues := rfl
@[simp] theorem setBoard_drops (v : BoardLines) : (s.setBoard v).drops = s.drops := rfl
@[simp] theorem setBoard_presentation (v : BoardLines) : (s.setBoard v).presentation = s.presentation := rfl
@[simp] theorem setBoard_contexts (v : BoardLines) : (s.setBoard v).contexts = s.contexts := rfl
@[simp] theorem setBoard_profiles (v : BoardLines) : (s.setBoard v).profiles = s.profiles := rfl
@[simp] theorem setBoard_clientLines (v : BoardLines) : (s.setBoard v).clientLines = s.clientLines := rfl
@[simp] theorem setBoard_board (v : BoardLines) : (s.setBoard v).board = v := rfl
@[simp] theorem setBoard_health (v : BoardLines) : (s.setBoard v).health = s.health := rfl
@[simp] theorem setBoard_posts (v : BoardLines) : (s.setBoard v).posts = s.posts := rfl
@[simp] theorem setBoard_sup (v : BoardLines) : (s.setBoard v).sup = s.sup := rfl
@[simp] theorem setBoard_links (v : BoardLines) : (s.setBoard v).links = s.links := rfl
@[simp] theorem setBoard_pending (v : BoardLines) : (s.setBoard v).pending = s.pending := rfl

@[simp] theorem setHealth_time (i : Client) (v : ClientHealth) : (s.setHealth i v).time = s.time := rfl
@[simp] theorem setHealth_lines (i : Client) (v : ClientHealth) : (s.setHealth i v).lines = s.lines := rfl
@[simp] theorem setHealth_masked (i : Client) (v : ClientHealth) : (s.setHealth i v).masked = s.masked := rfl
@[simp] theorem setHealth_intake (i : Client) (v : ClientHealth) : (s.setHealth i v).intake = s.intake := rfl
@[simp] theorem setHealth_waiting (i : Client) (v : ClientHealth) : (s.setHealth i v).waiting = s.waiting := rfl
@[simp] theorem setHealth_lostNotices (i : Client) (v : ClientHealth) : (s.setHealth i v).lostNotices = s.lostNotices := rfl
@[simp] theorem setHealth_unrouted (i : Client) (v : ClientHealth) : (s.setHealth i v).unrouted = s.unrouted := rfl
@[simp] theorem setHealth_entries (i : Client) (v : ClientHealth) : (s.setHealth i v).entries = s.entries := rfl
@[simp] theorem setHealth_banks (i : Client) (v : ClientHealth) : (s.setHealth i v).banks = s.banks := rfl
@[simp] theorem setHealth_groups (i : Client) (v : ClientHealth) : (s.setHealth i v).groups = s.groups := rfl
@[simp] theorem setHealth_pool (i : Client) (v : ClientHealth) : (s.setHealth i v).pool = s.pool := rfl
@[simp] theorem setHealth_queues (i : Client) (v : ClientHealth) : (s.setHealth i v).queues = s.queues := rfl
@[simp] theorem setHealth_drops (i : Client) (v : ClientHealth) : (s.setHealth i v).drops = s.drops := rfl
@[simp] theorem setHealth_presentation (i : Client) (v : ClientHealth) : (s.setHealth i v).presentation = s.presentation := rfl
@[simp] theorem setHealth_contexts (i : Client) (v : ClientHealth) : (s.setHealth i v).contexts = s.contexts := rfl
@[simp] theorem setHealth_profiles (i : Client) (v : ClientHealth) : (s.setHealth i v).profiles = s.profiles := rfl
@[simp] theorem setHealth_clientLines (i : Client) (v : ClientHealth) : (s.setHealth i v).clientLines = s.clientLines := rfl
@[simp] theorem setHealth_board (i : Client) (v : ClientHealth) : (s.setHealth i v).board = s.board := rfl
@[simp] theorem setHealth_health (i : Client) (v : ClientHealth) : (s.setHealth i v).health = s.health.set i v := rfl
@[simp] theorem setHealth_posts (i : Client) (v : ClientHealth) : (s.setHealth i v).posts = s.posts := rfl
@[simp] theorem setHealth_sup (i : Client) (v : ClientHealth) : (s.setHealth i v).sup = s.sup := rfl
@[simp] theorem setHealth_links (i : Client) (v : ClientHealth) : (s.setHealth i v).links = s.links := rfl
@[simp] theorem setHealth_pending (i : Client) (v : ClientHealth) : (s.setHealth i v).pending = s.pending := rfl

@[simp] theorem setPosts_time (i : Client) (v : ClientPosts) : (s.setPosts i v).time = s.time := rfl
@[simp] theorem setPosts_lines (i : Client) (v : ClientPosts) : (s.setPosts i v).lines = s.lines := rfl
@[simp] theorem setPosts_masked (i : Client) (v : ClientPosts) : (s.setPosts i v).masked = s.masked := rfl
@[simp] theorem setPosts_intake (i : Client) (v : ClientPosts) : (s.setPosts i v).intake = s.intake := rfl
@[simp] theorem setPosts_waiting (i : Client) (v : ClientPosts) : (s.setPosts i v).waiting = s.waiting := rfl
@[simp] theorem setPosts_lostNotices (i : Client) (v : ClientPosts) : (s.setPosts i v).lostNotices = s.lostNotices := rfl
@[simp] theorem setPosts_unrouted (i : Client) (v : ClientPosts) : (s.setPosts i v).unrouted = s.unrouted := rfl
@[simp] theorem setPosts_entries (i : Client) (v : ClientPosts) : (s.setPosts i v).entries = s.entries := rfl
@[simp] theorem setPosts_banks (i : Client) (v : ClientPosts) : (s.setPosts i v).banks = s.banks := rfl
@[simp] theorem setPosts_groups (i : Client) (v : ClientPosts) : (s.setPosts i v).groups = s.groups := rfl
@[simp] theorem setPosts_pool (i : Client) (v : ClientPosts) : (s.setPosts i v).pool = s.pool := rfl
@[simp] theorem setPosts_queues (i : Client) (v : ClientPosts) : (s.setPosts i v).queues = s.queues := rfl
@[simp] theorem setPosts_drops (i : Client) (v : ClientPosts) : (s.setPosts i v).drops = s.drops := rfl
@[simp] theorem setPosts_presentation (i : Client) (v : ClientPosts) : (s.setPosts i v).presentation = s.presentation := rfl
@[simp] theorem setPosts_contexts (i : Client) (v : ClientPosts) : (s.setPosts i v).contexts = s.contexts := rfl
@[simp] theorem setPosts_profiles (i : Client) (v : ClientPosts) : (s.setPosts i v).profiles = s.profiles := rfl
@[simp] theorem setPosts_clientLines (i : Client) (v : ClientPosts) : (s.setPosts i v).clientLines = s.clientLines := rfl
@[simp] theorem setPosts_board (i : Client) (v : ClientPosts) : (s.setPosts i v).board = s.board := rfl
@[simp] theorem setPosts_health (i : Client) (v : ClientPosts) : (s.setPosts i v).health = s.health := rfl
@[simp] theorem setPosts_posts (i : Client) (v : ClientPosts) : (s.setPosts i v).posts = s.posts.set i v := rfl
@[simp] theorem setPosts_sup (i : Client) (v : ClientPosts) : (s.setPosts i v).sup = s.sup := rfl
@[simp] theorem setPosts_links (i : Client) (v : ClientPosts) : (s.setPosts i v).links = s.links := rfl
@[simp] theorem setPosts_pending (i : Client) (v : ClientPosts) : (s.setPosts i v).pending = s.pending := rfl

@[simp] theorem setSup_time (v : Supervisor) : (s.setSup v).time = s.time := rfl
@[simp] theorem setSup_lines (v : Supervisor) : (s.setSup v).lines = s.lines := rfl
@[simp] theorem setSup_masked (v : Supervisor) : (s.setSup v).masked = s.masked := rfl
@[simp] theorem setSup_intake (v : Supervisor) : (s.setSup v).intake = s.intake := rfl
@[simp] theorem setSup_waiting (v : Supervisor) : (s.setSup v).waiting = s.waiting := rfl
@[simp] theorem setSup_lostNotices (v : Supervisor) : (s.setSup v).lostNotices = s.lostNotices := rfl
@[simp] theorem setSup_unrouted (v : Supervisor) : (s.setSup v).unrouted = s.unrouted := rfl
@[simp] theorem setSup_entries (v : Supervisor) : (s.setSup v).entries = s.entries := rfl
@[simp] theorem setSup_banks (v : Supervisor) : (s.setSup v).banks = s.banks := rfl
@[simp] theorem setSup_groups (v : Supervisor) : (s.setSup v).groups = s.groups := rfl
@[simp] theorem setSup_pool (v : Supervisor) : (s.setSup v).pool = s.pool := rfl
@[simp] theorem setSup_queues (v : Supervisor) : (s.setSup v).queues = s.queues := rfl
@[simp] theorem setSup_drops (v : Supervisor) : (s.setSup v).drops = s.drops := rfl
@[simp] theorem setSup_presentation (v : Supervisor) : (s.setSup v).presentation = s.presentation := rfl
@[simp] theorem setSup_contexts (v : Supervisor) : (s.setSup v).contexts = s.contexts := rfl
@[simp] theorem setSup_profiles (v : Supervisor) : (s.setSup v).profiles = s.profiles := rfl
@[simp] theorem setSup_clientLines (v : Supervisor) : (s.setSup v).clientLines = s.clientLines := rfl
@[simp] theorem setSup_board (v : Supervisor) : (s.setSup v).board = s.board := rfl
@[simp] theorem setSup_health (v : Supervisor) : (s.setSup v).health = s.health := rfl
@[simp] theorem setSup_posts (v : Supervisor) : (s.setSup v).posts = s.posts := rfl
@[simp] theorem setSup_sup (v : Supervisor) : (s.setSup v).sup = v := rfl
@[simp] theorem setSup_links (v : Supervisor) : (s.setSup v).links = s.links := rfl
@[simp] theorem setSup_pending (v : Supervisor) : (s.setSup v).pending = s.pending := rfl

@[simp] theorem setLink_time (i : Client) (v : Link) : (s.setLink i v).time = s.time := rfl
@[simp] theorem setLink_lines (i : Client) (v : Link) : (s.setLink i v).lines = s.lines := rfl
@[simp] theorem setLink_masked (i : Client) (v : Link) : (s.setLink i v).masked = s.masked := rfl
@[simp] theorem setLink_intake (i : Client) (v : Link) : (s.setLink i v).intake = s.intake := rfl
@[simp] theorem setLink_waiting (i : Client) (v : Link) : (s.setLink i v).waiting = s.waiting := rfl
@[simp] theorem setLink_lostNotices (i : Client) (v : Link) : (s.setLink i v).lostNotices = s.lostNotices := rfl
@[simp] theorem setLink_unrouted (i : Client) (v : Link) : (s.setLink i v).unrouted = s.unrouted := rfl
@[simp] theorem setLink_entries (i : Client) (v : Link) : (s.setLink i v).entries = s.entries := rfl
@[simp] theorem setLink_banks (i : Client) (v : Link) : (s.setLink i v).banks = s.banks := rfl
@[simp] theorem setLink_groups (i : Client) (v : Link) : (s.setLink i v).groups = s.groups := rfl
@[simp] theorem setLink_pool (i : Client) (v : Link) : (s.setLink i v).pool = s.pool := rfl
@[simp] theorem setLink_queues (i : Client) (v : Link) : (s.setLink i v).queues = s.queues := rfl
@[simp] theorem setLink_drops (i : Client) (v : Link) : (s.setLink i v).drops = s.drops := rfl
@[simp] theorem setLink_presentation (i : Client) (v : Link) : (s.setLink i v).presentation = s.presentation := rfl
@[simp] theorem setLink_contexts (i : Client) (v : Link) : (s.setLink i v).contexts = s.contexts := rfl
@[simp] theorem setLink_profiles (i : Client) (v : Link) : (s.setLink i v).profiles = s.profiles := rfl
@[simp] theorem setLink_clientLines (i : Client) (v : Link) : (s.setLink i v).clientLines = s.clientLines := rfl
@[simp] theorem setLink_board (i : Client) (v : Link) : (s.setLink i v).board = s.board := rfl
@[simp] theorem setLink_health (i : Client) (v : Link) : (s.setLink i v).health = s.health := rfl
@[simp] theorem setLink_posts (i : Client) (v : Link) : (s.setLink i v).posts = s.posts := rfl
@[simp] theorem setLink_sup (i : Client) (v : Link) : (s.setLink i v).sup = s.sup := rfl
@[simp] theorem setLink_links (i : Client) (v : Link) : (s.setLink i v).links = s.links.set i v := rfl
@[simp] theorem setLink_pending (i : Client) (v : Link) : (s.setLink i v).pending = s.pending := rfl

@[simp] theorem setPending_time (v : List Instr) : (s.setPending v).time = s.time := rfl
@[simp] theorem setPending_lines (v : List Instr) : (s.setPending v).lines = s.lines := rfl
@[simp] theorem setPending_masked (v : List Instr) : (s.setPending v).masked = s.masked := rfl
@[simp] theorem setPending_intake (v : List Instr) : (s.setPending v).intake = s.intake := rfl
@[simp] theorem setPending_waiting (v : List Instr) : (s.setPending v).waiting = s.waiting := rfl
@[simp] theorem setPending_lostNotices (v : List Instr) : (s.setPending v).lostNotices = s.lostNotices := rfl
@[simp] theorem setPending_unrouted (v : List Instr) : (s.setPending v).unrouted = s.unrouted := rfl
@[simp] theorem setPending_entries (v : List Instr) : (s.setPending v).entries = s.entries := rfl
@[simp] theorem setPending_banks (v : List Instr) : (s.setPending v).banks = s.banks := rfl
@[simp] theorem setPending_groups (v : List Instr) : (s.setPending v).groups = s.groups := rfl
@[simp] theorem setPending_pool (v : List Instr) : (s.setPending v).pool = s.pool := rfl
@[simp] theorem setPending_queues (v : List Instr) : (s.setPending v).queues = s.queues := rfl
@[simp] theorem setPending_drops (v : List Instr) : (s.setPending v).drops = s.drops := rfl
@[simp] theorem setPending_presentation (v : List Instr) : (s.setPending v).presentation = s.presentation := rfl
@[simp] theorem setPending_contexts (v : List Instr) : (s.setPending v).contexts = s.contexts := rfl
@[simp] theorem setPending_profiles (v : List Instr) : (s.setPending v).profiles = s.profiles := rfl
@[simp] theorem setPending_clientLines (v : List Instr) : (s.setPending v).clientLines = s.clientLines := rfl
@[simp] theorem setPending_board (v : List Instr) : (s.setPending v).board = s.board := rfl
@[simp] theorem setPending_health (v : List Instr) : (s.setPending v).health = s.health := rfl
@[simp] theorem setPending_posts (v : List Instr) : (s.setPending v).posts = s.posts := rfl
@[simp] theorem setPending_sup (v : List Instr) : (s.setPending v).sup = s.sup := rfl
@[simp] theorem setPending_links (v : List Instr) : (s.setPending v).links = s.links := rfl
@[simp] theorem setPending_pending (v : List Instr) : (s.setPending v).pending = v := rfl

@[simp] theorem setRecord_slot (i j : RecIndex) (r : Option Record) :
    (s.setRecord i r).pool.get j = if j = i then ⟨(s.pool.get i).gen, r⟩ else s.pool.get j := by
  simp [setRecord, Table.get_set]

@[simp] theorem setRecord_time (i : RecIndex) (r : Option Record) : (s.setRecord i r).time = s.time := rfl
@[simp] theorem setRecord_lines (i : RecIndex) (r : Option Record) : (s.setRecord i r).lines = s.lines := rfl
@[simp] theorem setRecord_masked (i : RecIndex) (r : Option Record) : (s.setRecord i r).masked = s.masked := rfl
@[simp] theorem setRecord_intake (i : RecIndex) (r : Option Record) : (s.setRecord i r).intake = s.intake := rfl
@[simp] theorem setRecord_waiting (i : RecIndex) (r : Option Record) : (s.setRecord i r).waiting = s.waiting := rfl
@[simp] theorem setRecord_lostNotices (i : RecIndex) (r : Option Record) : (s.setRecord i r).lostNotices = s.lostNotices := rfl
@[simp] theorem setRecord_unrouted (i : RecIndex) (r : Option Record) : (s.setRecord i r).unrouted = s.unrouted := rfl
@[simp] theorem setRecord_entries (i : RecIndex) (r : Option Record) : (s.setRecord i r).entries = s.entries := rfl
@[simp] theorem setRecord_banks (i : RecIndex) (r : Option Record) : (s.setRecord i r).banks = s.banks := rfl
@[simp] theorem setRecord_groups (i : RecIndex) (r : Option Record) : (s.setRecord i r).groups = s.groups := rfl
@[simp] theorem setRecord_queues (i : RecIndex) (r : Option Record) : (s.setRecord i r).queues = s.queues := rfl
@[simp] theorem setRecord_drops (i : RecIndex) (r : Option Record) : (s.setRecord i r).drops = s.drops := rfl
@[simp] theorem setRecord_presentation (i : RecIndex) (r : Option Record) : (s.setRecord i r).presentation = s.presentation := rfl
@[simp] theorem setRecord_contexts (i : RecIndex) (r : Option Record) : (s.setRecord i r).contexts = s.contexts := rfl
@[simp] theorem setRecord_profiles (i : RecIndex) (r : Option Record) : (s.setRecord i r).profiles = s.profiles := rfl
@[simp] theorem setRecord_clientLines (i : RecIndex) (r : Option Record) : (s.setRecord i r).clientLines = s.clientLines := rfl
@[simp] theorem setRecord_board (i : RecIndex) (r : Option Record) : (s.setRecord i r).board = s.board := rfl
@[simp] theorem setRecord_health (i : RecIndex) (r : Option Record) : (s.setRecord i r).health = s.health := rfl
@[simp] theorem setRecord_posts (i : RecIndex) (r : Option Record) : (s.setRecord i r).posts = s.posts := rfl
@[simp] theorem setRecord_sup (i : RecIndex) (r : Option Record) : (s.setRecord i r).sup = s.sup := rfl
@[simp] theorem setRecord_links (i : RecIndex) (r : Option Record) : (s.setRecord i r).links = s.links := rfl
@[simp] theorem setRecord_pending (i : RecIndex) (r : Option Record) : (s.setRecord i r).pending = s.pending := rfl

end Sys2Proof.Machine.State
end

