-- ==== Sys2Proof/Laws/Frames.lean ====
section
/-! SUPPORT. What each operation leaves unchanged: one lemma per operation, naming every field of State it does not touch. -/

set_option linter.unusedTactic false
set_option linter.unusedVariables false

namespace Sys2Proof.Machine

theorem foldl_keeps {σ α β : Type} (f : σ → α → σ) (p : σ → β) (h : ∀ s a, p (f s a) = p s) (l : List α) (s : σ) :
    p (l.foldl f s) = p s := by
  induction l generalizing s with
  | nil => rfl
  | cons a l ih => rw [List.foldl_cons, ih, h]

@[simp] theorem enqueue_keeps (s : State) (c : Client) (p : Priority) (i : RecIndex) :
    (enqueue s c p i).time = s.time ∧
    (enqueue s c p i).lines = s.lines ∧
    (enqueue s c p i).masked = s.masked ∧
    (enqueue s c p i).intake = s.intake ∧
    (enqueue s c p i).waiting = s.waiting ∧
    (enqueue s c p i).lostNotices = s.lostNotices ∧
    (enqueue s c p i).unrouted = s.unrouted ∧
    (enqueue s c p i).entries = s.entries ∧
    (enqueue s c p i).banks = s.banks ∧
    (enqueue s c p i).groups = s.groups ∧
    (enqueue s c p i).pool = s.pool ∧
    (enqueue s c p i).drops = s.drops ∧
    (enqueue s c p i).presentation = s.presentation ∧
    (enqueue s c p i).contexts = s.contexts ∧
    (enqueue s c p i).profiles = s.profiles ∧
    (enqueue s c p i).clientLines = s.clientLines ∧
    (enqueue s c p i).board = s.board ∧
    (enqueue s c p i).health = s.health ∧
    (enqueue s c p i).posts = s.posts ∧
    (enqueue s c p i).sup = s.sup ∧
    (enqueue s c p i).links = s.links ∧
    (enqueue s c p i).pending = s.pending := by
  simp only [enqueue]
  repeat' split
  all_goals simp

@[simp] theorem enqueueFront_keeps (s : State) (c : Client) (i : RecIndex) :
    (enqueueFront s c i).time = s.time ∧
    (enqueueFront s c i).lines = s.lines ∧
    (enqueueFront s c i).masked = s.masked ∧
    (enqueueFront s c i).intake = s.intake ∧
    (enqueueFront s c i).waiting = s.waiting ∧
    (enqueueFront s c i).lostNotices = s.lostNotices ∧
    (enqueueFront s c i).unrouted = s.unrouted ∧
    (enqueueFront s c i).entries = s.entries ∧
    (enqueueFront s c i).banks = s.banks ∧
    (enqueueFront s c i).groups = s.groups ∧
    (enqueueFront s c i).pool = s.pool ∧
    (enqueueFront s c i).drops = s.drops ∧
    (enqueueFront s c i).presentation = s.presentation ∧
    (enqueueFront s c i).contexts = s.contexts ∧
    (enqueueFront s c i).profiles = s.profiles ∧
    (enqueueFront s c i).clientLines = s.clientLines ∧
    (enqueueFront s c i).board = s.board ∧
    (enqueueFront s c i).health = s.health ∧
    (enqueueFront s c i).posts = s.posts ∧
    (enqueueFront s c i).sup = s.sup ∧
    (enqueueFront s c i).links = s.links ∧
    (enqueueFront s c i).pending = s.pending := by
  simp only [enqueueFront]
  repeat' split
  all_goals simp

@[simp] theorem dequeue_keeps (s : State) (c : Client) (i : RecIndex) :
    (dequeue s c i).time = s.time ∧
    (dequeue s c i).lines = s.lines ∧
    (dequeue s c i).masked = s.masked ∧
    (dequeue s c i).intake = s.intake ∧
    (dequeue s c i).waiting = s.waiting ∧
    (dequeue s c i).lostNotices = s.lostNotices ∧
    (dequeue s c i).unrouted = s.unrouted ∧
    (dequeue s c i).entries = s.entries ∧
    (dequeue s c i).banks = s.banks ∧
    (dequeue s c i).groups = s.groups ∧
    (dequeue s c i).pool = s.pool ∧
    (dequeue s c i).drops = s.drops ∧
    (dequeue s c i).presentation = s.presentation ∧
    (dequeue s c i).contexts = s.contexts ∧
    (dequeue s c i).profiles = s.profiles ∧
    (dequeue s c i).clientLines = s.clientLines ∧
    (dequeue s c i).board = s.board ∧
    (dequeue s c i).health = s.health ∧
    (dequeue s c i).posts = s.posts ∧
    (dequeue s c i).sup = s.sup ∧
    (dequeue s c i).links = s.links ∧
    (dequeue s c i).pending = s.pending := by
  simp only [dequeue]
  repeat' split
  all_goals simp

@[simp] theorem moveUp_keeps (s : State) (c : Client) (p : Priority) (i : RecIndex) :
    (moveUp s c p i).time = s.time ∧
    (moveUp s c p i).lines = s.lines ∧
    (moveUp s c p i).masked = s.masked ∧
    (moveUp s c p i).intake = s.intake ∧
    (moveUp s c p i).waiting = s.waiting ∧
    (moveUp s c p i).lostNotices = s.lostNotices ∧
    (moveUp s c p i).unrouted = s.unrouted ∧
    (moveUp s c p i).entries = s.entries ∧
    (moveUp s c p i).banks = s.banks ∧
    (moveUp s c p i).groups = s.groups ∧
    (moveUp s c p i).pool = s.pool ∧
    (moveUp s c p i).drops = s.drops ∧
    (moveUp s c p i).presentation = s.presentation ∧
    (moveUp s c p i).contexts = s.contexts ∧
    (moveUp s c p i).profiles = s.profiles ∧
    (moveUp s c p i).clientLines = s.clientLines ∧
    (moveUp s c p i).board = s.board ∧
    (moveUp s c p i).health = s.health ∧
    (moveUp s c p i).posts = s.posts ∧
    (moveUp s c p i).sup = s.sup ∧
    (moveUp s c p i).links = s.links ∧
    (moveUp s c p i).pending = s.pending := by
  simp only [moveUp]
  repeat' split
  all_goals simp

@[simp] theorem placeEvent_keeps (s : State) (d : Descriptor) :
    (placeEvent s d).time = s.time ∧
    (placeEvent s d).lines = s.lines ∧
    (placeEvent s d).masked = s.masked ∧
    (placeEvent s d).waiting = s.waiting ∧
    (placeEvent s d).lostNotices = s.lostNotices ∧
    (placeEvent s d).unrouted = s.unrouted ∧
    (placeEvent s d).entries = s.entries ∧
    (placeEvent s d).banks = s.banks ∧
    (placeEvent s d).groups = s.groups ∧
    (placeEvent s d).pool = s.pool ∧
    (placeEvent s d).queues = s.queues ∧
    (placeEvent s d).drops = s.drops ∧
    (placeEvent s d).presentation = s.presentation ∧
    (placeEvent s d).contexts = s.contexts ∧
    (placeEvent s d).profiles = s.profiles ∧
    (placeEvent s d).clientLines = s.clientLines ∧
    (placeEvent s d).board = s.board ∧
    (placeEvent s d).health = s.health ∧
    (placeEvent s d).posts = s.posts ∧
    (placeEvent s d).sup = s.sup ∧
    (placeEvent s d).links = s.links ∧
    (placeEvent s d).pending = s.pending := by
  simp only [placeEvent]
  repeat' split
  all_goals simp

@[simp] theorem loseNotice_keeps (s : State) :
    (loseNotice s).time = s.time ∧
    (loseNotice s).lines = s.lines ∧
    (loseNotice s).masked = s.masked ∧
    (loseNotice s).intake = s.intake ∧
    (loseNotice s).waiting = s.waiting ∧
    (loseNotice s).unrouted = s.unrouted ∧
    (loseNotice s).entries = s.entries ∧
    (loseNotice s).banks = s.banks ∧
    (loseNotice s).groups = s.groups ∧
    (loseNotice s).pool = s.pool ∧
    (loseNotice s).queues = s.queues ∧
    (loseNotice s).drops = s.drops ∧
    (loseNotice s).presentation = s.presentation ∧
    (loseNotice s).contexts = s.contexts ∧
    (loseNotice s).profiles = s.profiles ∧
    (loseNotice s).clientLines = s.clientLines ∧
    (loseNotice s).board = s.board ∧
    (loseNotice s).health = s.health ∧
    (loseNotice s).posts = s.posts ∧
    (loseNotice s).sup = s.sup ∧
    (loseNotice s).links = s.links ∧
    (loseNotice s).pending = s.pending := by
  simp only [loseNotice]
  repeat' split
  all_goals simp

@[simp] theorem offerNotice_keeps (t : NoticeType) (detail : Nat) (s : State) :
    (offerNotice t detail s).time = s.time ∧
    (offerNotice t detail s).lines = s.lines ∧
    (offerNotice t detail s).masked = s.masked ∧
    (offerNotice t detail s).waiting = s.waiting ∧
    (offerNotice t detail s).unrouted = s.unrouted ∧
    (offerNotice t detail s).entries = s.entries ∧
    (offerNotice t detail s).banks = s.banks ∧
    (offerNotice t detail s).groups = s.groups ∧
    (offerNotice t detail s).pool = s.pool ∧
    (offerNotice t detail s).queues = s.queues ∧
    (offerNotice t detail s).drops = s.drops ∧
    (offerNotice t detail s).presentation = s.presentation ∧
    (offerNotice t detail s).contexts = s.contexts ∧
    (offerNotice t detail s).profiles = s.profiles ∧
    (offerNotice t detail s).clientLines = s.clientLines ∧
    (offerNotice t detail s).board = s.board ∧
    (offerNotice t detail s).health = s.health ∧
    (offerNotice t detail s).posts = s.posts ∧
    (offerNotice t detail s).sup = s.sup ∧
    (offerNotice t detail s).links = s.links ∧
    (offerNotice t detail s).pending = s.pending := by
  simp only [offerNotice]
  repeat' split
  all_goals simp

@[simp] theorem offerTimerEvent_keeps (c : Client) (k : ContextName) (s : State) :
    (offerTimerEvent c k s).time = s.time ∧
    (offerTimerEvent c k s).lines = s.lines ∧
    (offerTimerEvent c k s).masked = s.masked ∧
    (offerTimerEvent c k s).lostNotices = s.lostNotices ∧
    (offerTimerEvent c k s).unrouted = s.unrouted ∧
    (offerTimerEvent c k s).entries = s.entries ∧
    (offerTimerEvent c k s).banks = s.banks ∧
    (offerTimerEvent c k s).groups = s.groups ∧
    (offerTimerEvent c k s).pool = s.pool ∧
    (offerTimerEvent c k s).queues = s.queues ∧
    (offerTimerEvent c k s).drops = s.drops ∧
    (offerTimerEvent c k s).presentation = s.presentation ∧
    (offerTimerEvent c k s).contexts = s.contexts ∧
    (offerTimerEvent c k s).profiles = s.profiles ∧
    (offerTimerEvent c k s).clientLines = s.clientLines ∧
    (offerTimerEvent c k s).board = s.board ∧
    (offerTimerEvent c k s).health = s.health ∧
    (offerTimerEvent c k s).posts = s.posts ∧
    (offerTimerEvent c k s).sup = s.sup ∧
    (offerTimerEvent c k s).links = s.links ∧
    (offerTimerEvent c k s).pending = s.pending := by
  simp only [offerTimerEvent]
  repeat' split
  all_goals simp

@[simp] theorem dropFor_keeps (c : Client) (k : Key) (s : State) :
    (dropFor c k s).time = s.time ∧
    (dropFor c k s).lines = s.lines ∧
    (dropFor c k s).masked = s.masked ∧
    (dropFor c k s).waiting = s.waiting ∧
    (dropFor c k s).unrouted = s.unrouted ∧
    (dropFor c k s).entries = s.entries ∧
    (dropFor c k s).banks = s.banks ∧
    (dropFor c k s).groups = s.groups ∧
    (dropFor c k s).pool = s.pool ∧
    (dropFor c k s).queues = s.queues ∧
    (dropFor c k s).presentation = s.presentation ∧
    (dropFor c k s).contexts = s.contexts ∧
    (dropFor c k s).profiles = s.profiles ∧
    (dropFor c k s).clientLines = s.clientLines ∧
    (dropFor c k s).board = s.board ∧
    (dropFor c k s).health = s.health ∧
    (dropFor c k s).posts = s.posts ∧
    (dropFor c k s).sup = s.sup ∧
    (dropFor c k s).links = s.links ∧
    (dropFor c k s).pending = s.pending := by
  simp only [dropFor]
  repeat' split
  all_goals simp

@[simp] theorem poolLowTest_keeps (s : State) :
    (poolLowTest s).time = s.time ∧
    (poolLowTest s).lines = s.lines ∧
    (poolLowTest s).masked = s.masked ∧
    (poolLowTest s).waiting = s.waiting ∧
    (poolLowTest s).unrouted = s.unrouted ∧
    (poolLowTest s).entries = s.entries ∧
    (poolLowTest s).banks = s.banks ∧
    (poolLowTest s).groups = s.groups ∧
    (poolLowTest s).pool = s.pool ∧
    (poolLowTest s).queues = s.queues ∧
    (poolLowTest s).drops = s.drops ∧
    (poolLowTest s).presentation = s.presentation ∧
    (poolLowTest s).contexts = s.contexts ∧
    (poolLowTest s).profiles = s.profiles ∧
    (poolLowTest s).clientLines = s.clientLines ∧
    (poolLowTest s).board = s.board ∧
    (poolLowTest s).health = s.health ∧
    (poolLowTest s).posts = s.posts ∧
    (poolLowTest s).links = s.links ∧
    (poolLowTest s).pending = s.pending ∧
    (poolLowTest s).sup.pins = s.sup.pins ∧
    (poolLowTest s).sup.straps = s.sup.straps ∧
    (poolLowTest s).sup.frozen = s.sup.frozen ∧
    (poolLowTest s).sup.cause = s.sup.cause ∧
    (poolLowTest s).sup.note = s.sup.note ∧
    (poolLowTest s).sup.privileges = s.sup.privileges ∧
    (poolLowTest s).sup.resetPending = s.sup.resetPending ∧
    (poolLowTest s).sup.resetInput = s.sup.resetInput := by
  simp only [poolLowTest]
  repeat' split
  all_goals simp

@[simp] theorem poolRearmTest_keeps (s : State) :
    (poolRearmTest s).time = s.time ∧
    (poolRearmTest s).lines = s.lines ∧
    (poolRearmTest s).masked = s.masked ∧
    (poolRearmTest s).intake = s.intake ∧
    (poolRearmTest s).waiting = s.waiting ∧
    (poolRearmTest s).lostNotices = s.lostNotices ∧
    (poolRearmTest s).unrouted = s.unrouted ∧
    (poolRearmTest s).entries = s.entries ∧
    (poolRearmTest s).banks = s.banks ∧
    (poolRearmTest s).groups = s.groups ∧
    (poolRearmTest s).pool = s.pool ∧
    (poolRearmTest s).queues = s.queues ∧
    (poolRearmTest s).drops = s.drops ∧
    (poolRearmTest s).presentation = s.presentation ∧
    (poolRearmTest s).contexts = s.contexts ∧
    (poolRearmTest s).profiles = s.profiles ∧
    (poolRearmTest s).clientLines = s.clientLines ∧
    (poolRearmTest s).board = s.board ∧
    (poolRearmTest s).health = s.health ∧
    (poolRearmTest s).posts = s.posts ∧
    (poolRearmTest s).links = s.links ∧
    (poolRearmTest s).pending = s.pending ∧
    (poolRearmTest s).sup.pins = s.sup.pins ∧
    (poolRearmTest s).sup.straps = s.sup.straps ∧
    (poolRearmTest s).sup.frozen = s.sup.frozen ∧
    (poolRearmTest s).sup.cause = s.sup.cause ∧
    (poolRearmTest s).sup.note = s.sup.note ∧
    (poolRearmTest s).sup.privileges = s.sup.privileges ∧
    (poolRearmTest s).sup.resetPending = s.sup.resetPending ∧
    (poolRearmTest s).sup.resetInput = s.sup.resetInput := by
  simp only [poolRearmTest]
  repeat' split
  all_goals simp

@[simp] theorem placeHubFrame_keeps (c : Client) (f : HubFrame) (s : State) :
    (placeHubFrame c f s).time = s.time ∧
    (placeHubFrame c f s).lines = s.lines ∧
    (placeHubFrame c f s).masked = s.masked ∧
    (placeHubFrame c f s).intake = s.intake ∧
    (placeHubFrame c f s).waiting = s.waiting ∧
    (placeHubFrame c f s).lostNotices = s.lostNotices ∧
    (placeHubFrame c f s).unrouted = s.unrouted ∧
    (placeHubFrame c f s).entries = s.entries ∧
    (placeHubFrame c f s).banks = s.banks ∧
    (placeHubFrame c f s).groups = s.groups ∧
    (placeHubFrame c f s).pool = s.pool ∧
    (placeHubFrame c f s).queues = s.queues ∧
    (placeHubFrame c f s).drops = s.drops ∧
    (placeHubFrame c f s).presentation = s.presentation ∧
    (placeHubFrame c f s).contexts = s.contexts ∧
    (placeHubFrame c f s).profiles = s.profiles ∧
    (placeHubFrame c f s).clientLines = s.clientLines ∧
    (placeHubFrame c f s).board = s.board ∧
    (placeHubFrame c f s).health = s.health ∧
    (placeHubFrame c f s).posts = s.posts ∧
    (placeHubFrame c f s).sup = s.sup ∧
    (placeHubFrame c f s).pending = s.pending := by
  simp only [placeHubFrame]
  repeat' split
  all_goals simp

@[simp] theorem removeDeliver_keeps (c : Client) (h : Handle) (s : State) :
    (removeDeliver c h s).time = s.time ∧
    (removeDeliver c h s).lines = s.lines ∧
    (removeDeliver c h s).masked = s.masked ∧
    (removeDeliver c h s).intake = s.intake ∧
    (removeDeliver c h s).waiting = s.waiting ∧
    (removeDeliver c h s).lostNotices = s.lostNotices ∧
    (removeDeliver c h s).unrouted = s.unrouted ∧
    (removeDeliver c h s).entries = s.entries ∧
    (removeDeliver c h s).banks = s.banks ∧
    (removeDeliver c h s).groups = s.groups ∧
    (removeDeliver c h s).pool = s.pool ∧
    (removeDeliver c h s).queues = s.queues ∧
    (removeDeliver c h s).drops = s.drops ∧
    (removeDeliver c h s).presentation = s.presentation ∧
    (removeDeliver c h s).contexts = s.contexts ∧
    (removeDeliver c h s).profiles = s.profiles ∧
    (removeDeliver c h s).clientLines = s.clientLines ∧
    (removeDeliver c h s).board = s.board ∧
    (removeDeliver c h s).health = s.health ∧
    (removeDeliver c h s).posts = s.posts ∧
    (removeDeliver c h s).sup = s.sup ∧
    (removeDeliver c h s).pending = s.pending := by
  simp only [removeDeliver]
  repeat' split
  all_goals simp

@[simp] theorem reportOutcome_keeps (p : Client) (n : SlotNo) (o : PostOutcome) (s : State) :
    (reportOutcome p n o s).time = s.time ∧
    (reportOutcome p n o s).lines = s.lines ∧
    (reportOutcome p n o s).masked = s.masked ∧
    (reportOutcome p n o s).intake = s.intake ∧
    (reportOutcome p n o s).waiting = s.waiting ∧
    (reportOutcome p n o s).lostNotices = s.lostNotices ∧
    (reportOutcome p n o s).unrouted = s.unrouted ∧
    (reportOutcome p n o s).entries = s.entries ∧
    (reportOutcome p n o s).banks = s.banks ∧
    (reportOutcome p n o s).groups = s.groups ∧
    (reportOutcome p n o s).pool = s.pool ∧
    (reportOutcome p n o s).queues = s.queues ∧
    (reportOutcome p n o s).drops = s.drops ∧
    (reportOutcome p n o s).presentation = s.presentation ∧
    (reportOutcome p n o s).contexts = s.contexts ∧
    (reportOutcome p n o s).profiles = s.profiles ∧
    (reportOutcome p n o s).clientLines = s.clientLines ∧
    (reportOutcome p n o s).board = s.board ∧
    (reportOutcome p n o s).health = s.health ∧
    (reportOutcome p n o s).posts = s.posts ∧
    (reportOutcome p n o s).sup = s.sup ∧
    (reportOutcome p n o s).pending = s.pending := by
  simp only [reportOutcome]
  repeat' split
  all_goals simp

@[simp] theorem setGate_keeps (c : Client) (isOpen : Bool) (s : State) :
    (setGate c isOpen s).time = s.time ∧
    (setGate c isOpen s).lines = s.lines ∧
    (setGate c isOpen s).masked = s.masked ∧
    (setGate c isOpen s).intake = s.intake ∧
    (setGate c isOpen s).waiting = s.waiting ∧
    (setGate c isOpen s).lostNotices = s.lostNotices ∧
    (setGate c isOpen s).unrouted = s.unrouted ∧
    (setGate c isOpen s).entries = s.entries ∧
    (setGate c isOpen s).banks = s.banks ∧
    (setGate c isOpen s).groups = s.groups ∧
    (setGate c isOpen s).pool = s.pool ∧
    (setGate c isOpen s).queues = s.queues ∧
    (setGate c isOpen s).drops = s.drops ∧
    (setGate c isOpen s).contexts = s.contexts ∧
    (setGate c isOpen s).profiles = s.profiles ∧
    (setGate c isOpen s).clientLines = s.clientLines ∧
    (setGate c isOpen s).board = s.board ∧
    (setGate c isOpen s).health = s.health ∧
    (setGate c isOpen s).posts = s.posts ∧
    (setGate c isOpen s).sup = s.sup ∧
    (setGate c isOpen s).links = s.links ∧
    (setGate c isOpen s).pending = s.pending := by
  simp only [setGate]
  repeat' split
  all_goals simp

@[simp] theorem setPendingFlags_keeps (c : Client) (f : FlagSet) (s : State) :
    (setPendingFlags c f s).time = s.time ∧
    (setPendingFlags c f s).lines = s.lines ∧
    (setPendingFlags c f s).masked = s.masked ∧
    (setPendingFlags c f s).intake = s.intake ∧
    (setPendingFlags c f s).waiting = s.waiting ∧
    (setPendingFlags c f s).lostNotices = s.lostNotices ∧
    (setPendingFlags c f s).unrouted = s.unrouted ∧
    (setPendingFlags c f s).entries = s.entries ∧
    (setPendingFlags c f s).banks = s.banks ∧
    (setPendingFlags c f s).groups = s.groups ∧
    (setPendingFlags c f s).pool = s.pool ∧
    (setPendingFlags c f s).queues = s.queues ∧
    (setPendingFlags c f s).drops = s.drops ∧
    (setPendingFlags c f s).presentation = s.presentation ∧
    (setPendingFlags c f s).contexts = s.contexts ∧
    (setPendingFlags c f s).profiles = s.profiles ∧
    (setPendingFlags c f s).clientLines = s.clientLines ∧
    (setPendingFlags c f s).board = s.board ∧
    (setPendingFlags c f s).health = s.health ∧
    (setPendingFlags c f s).sup = s.sup ∧
    (setPendingFlags c f s).links = s.links ∧
    (setPendingFlags c f s).pending = s.pending := by
  simp only [setPendingFlags]
  repeat' split
  all_goals simp

@[simp] theorem present_keeps (c : Client) (i : RecIndex) (r : Record) (s : State) :
    (present c i r s).time = s.time ∧
    (present c i r s).lines = s.lines ∧
    (present c i r s).masked = s.masked ∧
    (present c i r s).intake = s.intake ∧
    (present c i r s).waiting = s.waiting ∧
    (present c i r s).lostNotices = s.lostNotices ∧
    (present c i r s).unrouted = s.unrouted ∧
    (present c i r s).entries = s.entries ∧
    (present c i r s).banks = s.banks ∧
    (present c i r s).groups = s.groups ∧
    (present c i r s).drops = s.drops ∧
    (present c i r s).contexts = s.contexts ∧
    (present c i r s).profiles = s.profiles ∧
    (present c i r s).clientLines = s.clientLines ∧
    (present c i r s).board = s.board ∧
    (present c i r s).health = s.health ∧
    (present c i r s).sup = s.sup ∧
    (present c i r s).pending = s.pending := by
  simp only [present]
  repeat' split
  all_goals simp

@[simp] theorem examine_keeps (c : Client) (s : State) :
    (examine c s).time = s.time ∧
    (examine c s).lines = s.lines ∧
    (examine c s).masked = s.masked ∧
    (examine c s).intake = s.intake ∧
    (examine c s).waiting = s.waiting ∧
    (examine c s).lostNotices = s.lostNotices ∧
    (examine c s).unrouted = s.unrouted ∧
    (examine c s).entries = s.entries ∧
    (examine c s).banks = s.banks ∧
    (examine c s).groups = s.groups ∧
    (examine c s).drops = s.drops ∧
    (examine c s).contexts = s.contexts ∧
    (examine c s).profiles = s.profiles ∧
    (examine c s).clientLines = s.clientLines ∧
    (examine c s).board = s.board ∧
    (examine c s).health = s.health ∧
    (examine c s).sup = s.sup ∧
    (examine c s).pending = s.pending := by
  simp only [examine]
  repeat' split
  all_goals simp

@[simp] theorem openGate_keeps (c : Client) (s : State) :
    (openGate c s).time = s.time ∧
    (openGate c s).lines = s.lines ∧
    (openGate c s).masked = s.masked ∧
    (openGate c s).intake = s.intake ∧
    (openGate c s).waiting = s.waiting ∧
    (openGate c s).lostNotices = s.lostNotices ∧
    (openGate c s).unrouted = s.unrouted ∧
    (openGate c s).entries = s.entries ∧
    (openGate c s).banks = s.banks ∧
    (openGate c s).groups = s.groups ∧
    (openGate c s).drops = s.drops ∧
    (openGate c s).contexts = s.contexts ∧
    (openGate c s).profiles = s.profiles ∧
    (openGate c s).clientLines = s.clientLines ∧
    (openGate c s).board = s.board ∧
    (openGate c s).health = s.health ∧
    (openGate c s).sup = s.sup ∧
    (openGate c s).pending = s.pending := by
  simp only [openGate]
  repeat' split
  all_goals simp

@[simp] theorem examineAll_keeps (s : State) :
    (examineAll s).time = s.time ∧
    (examineAll s).lines = s.lines ∧
    (examineAll s).masked = s.masked ∧
    (examineAll s).intake = s.intake ∧
    (examineAll s).waiting = s.waiting ∧
    (examineAll s).lostNotices = s.lostNotices ∧
    (examineAll s).unrouted = s.unrouted ∧
    (examineAll s).entries = s.entries ∧
    (examineAll s).banks = s.banks ∧
    (examineAll s).groups = s.groups ∧
    (examineAll s).drops = s.drops ∧
    (examineAll s).contexts = s.contexts ∧
    (examineAll s).profiles = s.profiles ∧
    (examineAll s).clientLines = s.clientLines ∧
    (examineAll s).board = s.board ∧
    (examineAll s).health = s.health ∧
    (examineAll s).sup = s.sup ∧
    (examineAll s).pending = s.pending := by
  unfold examineAll
  exact ⟨(foldl_keeps _ (fun u : State => u.time) (by intros; simp) _ _).trans (by simp),
    (foldl_keeps _ (fun u : State => u.lines) (by intros; simp) _ _).trans (by simp),
    (foldl_keeps _ (fun u : State => u.masked) (by intros; simp) _ _).trans (by simp),
    (foldl_keeps _ (fun u : State => u.intake) (by intros; simp) _ _).trans (by simp),
    (foldl_keeps _ (fun u : State => u.waiting) (by intros; simp) _ _).trans (by simp),
    (foldl_keeps _ (fun u : State => u.lostNotices) (by intros; simp) _ _).trans (by simp),
    (foldl_keeps _ (fun u : State => u.unrouted) (by intros; simp) _ _).trans (by simp),
    (foldl_keeps _ (fun u : State => u.entries) (by intros; simp) _ _).trans (by simp),
    (foldl_keeps _ (fun u : State => u.banks) (by intros; simp) _ _).trans (by simp),
    (foldl_keeps _ (fun u : State => u.groups) (by intros; simp) _ _).trans (by simp),
    (foldl_keeps _ (fun u : State => u.drops) (by intros; simp) _ _).trans (by simp),
    (foldl_keeps _ (fun u : State => u.contexts) (by intros; simp) _ _).trans (by simp),
    (foldl_keeps _ (fun u : State => u.profiles) (by intros; simp) _ _).trans (by simp),
    (foldl_keeps _ (fun u : State => u.clientLines) (by intros; simp) _ _).trans (by simp),
    (foldl_keeps _ (fun u : State => u.board) (by intros; simp) _ _).trans (by simp),
    (foldl_keeps _ (fun u : State => u.health) (by intros; simp) _ _).trans (by simp),
    (foldl_keeps _ (fun u : State => u.sup) (by intros; simp) _ _).trans (by simp),
    (foldl_keeps _ (fun u : State => u.pending) (by intros; simp) _ _).trans (by simp)⟩

@[simp] theorem setMode_keeps (m : HubMode) (s : State) :
    (setMode m s).time = s.time ∧
    (setMode m s).lines = s.lines ∧
    (setMode m s).masked = s.masked ∧
    (setMode m s).intake = s.intake ∧
    (setMode m s).waiting = s.waiting ∧
    (setMode m s).lostNotices = s.lostNotices ∧
    (setMode m s).unrouted = s.unrouted ∧
    (setMode m s).entries = s.entries ∧
    (setMode m s).banks = s.banks ∧
    (setMode m s).groups = s.groups ∧
    (setMode m s).pool = s.pool ∧
    (setMode m s).queues = s.queues ∧
    (setMode m s).drops = s.drops ∧
    (setMode m s).presentation = s.presentation ∧
    (setMode m s).contexts = s.contexts ∧
    (setMode m s).profiles = s.profiles ∧
    (setMode m s).clientLines = s.clientLines ∧
    (setMode m s).board = s.board ∧
    (setMode m s).health = s.health ∧
    (setMode m s).posts = s.posts ∧
    (setMode m s).links = s.links ∧
    (setMode m s).pending = s.pending ∧
    (setMode m s).sup.pins = s.sup.pins ∧
    (setMode m s).sup.straps = s.sup.straps ∧
    (setMode m s).sup.frozen = s.sup.frozen ∧
    (setMode m s).sup.cause = s.sup.cause ∧
    (setMode m s).sup.note = s.sup.note ∧
    (setMode m s).sup.privileges = s.sup.privileges ∧
    (setMode m s).sup.resetPending = s.sup.resetPending ∧
    (setMode m s).sup.resetInput = s.sup.resetInput := by
  simp only [setMode]
  repeat' split
  all_goals simp

@[simp] theorem rouse_keeps (s : State) :
    (rouse s).time = s.time ∧
    (rouse s).lines = s.lines ∧
    (rouse s).masked = s.masked ∧
    (rouse s).intake = s.intake ∧
    (rouse s).waiting = s.waiting ∧
    (rouse s).lostNotices = s.lostNotices ∧
    (rouse s).unrouted = s.unrouted ∧
    (rouse s).entries = s.entries ∧
    (rouse s).banks = s.banks ∧
    (rouse s).groups = s.groups ∧
    (rouse s).pool = s.pool ∧
    (rouse s).queues = s.queues ∧
    (rouse s).presentation = s.presentation ∧
    (rouse s).posts = s.posts ∧
    (rouse s).links = s.links ∧
    (rouse s).drops = s.drops ∧
    (rouse s).contexts = s.contexts ∧
    (rouse s).profiles = s.profiles ∧
    (rouse s).clientLines = s.clientLines ∧
    (rouse s).board = s.board ∧
    (rouse s).health = s.health ∧
    (rouse s).pending = s.pending ∧
    (rouse s).sup.pins = s.sup.pins ∧
    (rouse s).sup.straps = s.sup.straps ∧
    (rouse s).sup.frozen = s.sup.frozen ∧
    (rouse s).sup.cause = s.sup.cause ∧
    (rouse s).sup.note = s.sup.note ∧
    (rouse s).sup.privileges = s.sup.privileges ∧
    (rouse s).sup.resetPending = s.sup.resetPending ∧
    (rouse s).sup.resetInput = s.sup.resetInput := by
  simp only [rouse]
  repeat' split
  all_goals simp

@[simp] theorem completeWake_keeps (m : HubMode) (s : State) :
    (completeWake m s).time = s.time ∧
    (completeWake m s).lines = s.lines ∧
    (completeWake m s).masked = s.masked ∧
    (completeWake m s).intake = s.intake ∧
    (completeWake m s).waiting = s.waiting ∧
    (completeWake m s).lostNotices = s.lostNotices ∧
    (completeWake m s).unrouted = s.unrouted ∧
    (completeWake m s).entries = s.entries ∧
    (completeWake m s).banks = s.banks ∧
    (completeWake m s).groups = s.groups ∧
    (completeWake m s).drops = s.drops ∧
    (completeWake m s).contexts = s.contexts ∧
    (completeWake m s).profiles = s.profiles ∧
    (completeWake m s).clientLines = s.clientLines ∧
    (completeWake m s).board = s.board ∧
    (completeWake m s).health = s.health ∧
    (completeWake m s).sup = s.sup ∧
    (completeWake m s).pending = s.pending := by
  simp only [completeWake]
  repeat' split
  all_goals simp

@[simp] theorem wakeHub_keeps (s : State) :
    (wakeHub s).time = s.time ∧
    (wakeHub s).lines = s.lines ∧
    (wakeHub s).masked = s.masked ∧
    (wakeHub s).intake = s.intake ∧
    (wakeHub s).waiting = s.waiting ∧
    (wakeHub s).lostNotices = s.lostNotices ∧
    (wakeHub s).unrouted = s.unrouted ∧
    (wakeHub s).entries = s.entries ∧
    (wakeHub s).banks = s.banks ∧
    (wakeHub s).groups = s.groups ∧
    (wakeHub s).drops = s.drops ∧
    (wakeHub s).contexts = s.contexts ∧
    (wakeHub s).profiles = s.profiles ∧
    (wakeHub s).clientLines = s.clientLines ∧
    (wakeHub s).board = s.board ∧
    (wakeHub s).health = s.health ∧
    (wakeHub s).pending = s.pending ∧
    (wakeHub s).sup.pins = s.sup.pins ∧
    (wakeHub s).sup.straps = s.sup.straps ∧
    (wakeHub s).sup.frozen = s.sup.frozen ∧
    (wakeHub s).sup.cause = s.sup.cause ∧
    (wakeHub s).sup.note = s.sup.note ∧
    (wakeHub s).sup.privileges = s.sup.privileges ∧
    (wakeHub s).sup.resetPending = s.sup.resetPending ∧
    (wakeHub s).sup.resetInput = s.sup.resetInput := by
  simp only [wakeHub]
  repeat' split
  all_goals simp

@[simp] theorem placeLineEvent_keeps (l : LineNo) (d : Descriptor) (s : State) :
    (placeLineEvent l d s).time = s.time ∧
    (placeLineEvent l d s).masked = s.masked ∧
    (placeLineEvent l d s).waiting = s.waiting ∧
    (placeLineEvent l d s).lostNotices = s.lostNotices ∧
    (placeLineEvent l d s).unrouted = s.unrouted ∧
    (placeLineEvent l d s).entries = s.entries ∧
    (placeLineEvent l d s).banks = s.banks ∧
    (placeLineEvent l d s).groups = s.groups ∧
    (placeLineEvent l d s).pool = s.pool ∧
    (placeLineEvent l d s).queues = s.queues ∧
    (placeLineEvent l d s).presentation = s.presentation ∧
    (placeLineEvent l d s).posts = s.posts ∧
    (placeLineEvent l d s).links = s.links ∧
    (placeLineEvent l d s).drops = s.drops ∧
    (placeLineEvent l d s).contexts = s.contexts ∧
    (placeLineEvent l d s).profiles = s.profiles ∧
    (placeLineEvent l d s).clientLines = s.clientLines ∧
    (placeLineEvent l d s).board = s.board ∧
    (placeLineEvent l d s).health = s.health ∧
    (placeLineEvent l d s).pending = s.pending ∧
    (placeLineEvent l d s).sup = s.sup := by
  simp only [placeLineEvent]
  repeat' split
  all_goals simp

@[simp] theorem offerLineEvent_keeps (l : LineNo) (d : Descriptor) (s : State) :
    (offerLineEvent l d s).time = s.time ∧
    (offerLineEvent l d s).masked = s.masked ∧
    (offerLineEvent l d s).waiting = s.waiting ∧
    (offerLineEvent l d s).lostNotices = s.lostNotices ∧
    (offerLineEvent l d s).unrouted = s.unrouted ∧
    (offerLineEvent l d s).entries = s.entries ∧
    (offerLineEvent l d s).banks = s.banks ∧
    (offerLineEvent l d s).groups = s.groups ∧
    (offerLineEvent l d s).drops = s.drops ∧
    (offerLineEvent l d s).contexts = s.contexts ∧
    (offerLineEvent l d s).profiles = s.profiles ∧
    (offerLineEvent l d s).clientLines = s.clientLines ∧
    (offerLineEvent l d s).board = s.board ∧
    (offerLineEvent l d s).health = s.health ∧
    (offerLineEvent l d s).pending = s.pending ∧
    (offerLineEvent l d s).sup.pins = s.sup.pins ∧
    (offerLineEvent l d s).sup.straps = s.sup.straps ∧
    (offerLineEvent l d s).sup.frozen = s.sup.frozen ∧
    (offerLineEvent l d s).sup.cause = s.sup.cause ∧
    (offerLineEvent l d s).sup.note = s.sup.note ∧
    (offerLineEvent l d s).sup.privileges = s.sup.privileges ∧
    (offerLineEvent l d s).sup.resetPending = s.sup.resetPending ∧
    (offerLineEvent l d s).sup.resetInput = s.sup.resetInput := by
  simp only [offerLineEvent]
  repeat' split
  all_goals simp

@[simp] theorem startRaise_keeps (l : LineNo) (s : State) :
    (startRaise l s).time = s.time ∧
    (startRaise l s).masked = s.masked ∧
    (startRaise l s).intake = s.intake ∧
    (startRaise l s).waiting = s.waiting ∧
    (startRaise l s).lostNotices = s.lostNotices ∧
    (startRaise l s).unrouted = s.unrouted ∧
    (startRaise l s).entries = s.entries ∧
    (startRaise l s).banks = s.banks ∧
    (startRaise l s).groups = s.groups ∧
    (startRaise l s).pool = s.pool ∧
    (startRaise l s).queues = s.queues ∧
    (startRaise l s).presentation = s.presentation ∧
    (startRaise l s).posts = s.posts ∧
    (startRaise l s).links = s.links ∧
    (startRaise l s).drops = s.drops ∧
    (startRaise l s).contexts = s.contexts ∧
    (startRaise l s).profiles = s.profiles ∧
    (startRaise l s).clientLines = s.clientLines ∧
    (startRaise l s).board = s.board ∧
    (startRaise l s).health = s.health ∧
    (startRaise l s).pending = s.pending ∧
    (startRaise l s).sup = s.sup := by
  simp only [startRaise]
  repeat' split
  all_goals simp

@[simp] theorem raiseLine_keeps (l : LineNo) (s : State) :
    (raiseLine l s).time = s.time ∧
    (raiseLine l s).masked = s.masked ∧
    (raiseLine l s).waiting = s.waiting ∧
    (raiseLine l s).lostNotices = s.lostNotices ∧
    (raiseLine l s).unrouted = s.unrouted ∧
    (raiseLine l s).entries = s.entries ∧
    (raiseLine l s).banks = s.banks ∧
    (raiseLine l s).groups = s.groups ∧
    (raiseLine l s).drops = s.drops ∧
    (raiseLine l s).contexts = s.contexts ∧
    (raiseLine l s).profiles = s.profiles ∧
    (raiseLine l s).clientLines = s.clientLines ∧
    (raiseLine l s).board = s.board ∧
    (raiseLine l s).health = s.health ∧
    (raiseLine l s).pending = s.pending ∧
    (raiseLine l s).sup.pins = s.sup.pins ∧
    (raiseLine l s).sup.straps = s.sup.straps ∧
    (raiseLine l s).sup.frozen = s.sup.frozen ∧
    (raiseLine l s).sup.cause = s.sup.cause ∧
    (raiseLine l s).sup.note = s.sup.note ∧
    (raiseLine l s).sup.privileges = s.sup.privileges ∧
    (raiseLine l s).sup.resetPending = s.sup.resetPending ∧
    (raiseLine l s).sup.resetInput = s.sup.resetInput := by
  simp only [raiseLine]
  repeat' split
  all_goals simp

@[simp] theorem raiseWithin_keeps (l : LineNo) (s : State) :
    (raiseWithin l s).time = s.time ∧
    (raiseWithin l s).masked = s.masked ∧
    (raiseWithin l s).waiting = s.waiting ∧
    (raiseWithin l s).lostNotices = s.lostNotices ∧
    (raiseWithin l s).unrouted = s.unrouted ∧
    (raiseWithin l s).entries = s.entries ∧
    (raiseWithin l s).banks = s.banks ∧
    (raiseWithin l s).groups = s.groups ∧
    (raiseWithin l s).pool = s.pool ∧
    (raiseWithin l s).queues = s.queues ∧
    (raiseWithin l s).presentation = s.presentation ∧
    (raiseWithin l s).posts = s.posts ∧
    (raiseWithin l s).links = s.links ∧
    (raiseWithin l s).drops = s.drops ∧
    (raiseWithin l s).contexts = s.contexts ∧
    (raiseWithin l s).profiles = s.profiles ∧
    (raiseWithin l s).clientLines = s.clientLines ∧
    (raiseWithin l s).board = s.board ∧
    (raiseWithin l s).health = s.health ∧
    (raiseWithin l s).pending = s.pending ∧
    (raiseWithin l s).sup.pins = s.sup.pins ∧
    (raiseWithin l s).sup.straps = s.sup.straps ∧
    (raiseWithin l s).sup.frozen = s.sup.frozen ∧
    (raiseWithin l s).sup.cause = s.sup.cause ∧
    (raiseWithin l s).sup.note = s.sup.note ∧
    (raiseWithin l s).sup.privileges = s.sup.privileges ∧
    (raiseWithin l s).sup.resetPending = s.sup.resetPending ∧
    (raiseWithin l s).sup.resetInput = s.sup.resetInput := by
  simp only [raiseWithin]
  repeat' split
  all_goals simp

@[simp] theorem raiseIfArmed_keeps (l : LineNo) (s : State) :
    (raiseIfArmed l s).time = s.time ∧
    (raiseIfArmed l s).masked = s.masked ∧
    (raiseIfArmed l s).waiting = s.waiting ∧
    (raiseIfArmed l s).lostNotices = s.lostNotices ∧
    (raiseIfArmed l s).unrouted = s.unrouted ∧
    (raiseIfArmed l s).entries = s.entries ∧
    (raiseIfArmed l s).banks = s.banks ∧
    (raiseIfArmed l s).groups = s.groups ∧
    (raiseIfArmed l s).drops = s.drops ∧
    (raiseIfArmed l s).contexts = s.contexts ∧
    (raiseIfArmed l s).profiles = s.profiles ∧
    (raiseIfArmed l s).clientLines = s.clientLines ∧
    (raiseIfArmed l s).board = s.board ∧
    (raiseIfArmed l s).health = s.health ∧
    (raiseIfArmed l s).pending = s.pending ∧
    (raiseIfArmed l s).sup.pins = s.sup.pins ∧
    (raiseIfArmed l s).sup.straps = s.sup.straps ∧
    (raiseIfArmed l s).sup.frozen = s.sup.frozen ∧
    (raiseIfArmed l s).sup.cause = s.sup.cause ∧
    (raiseIfArmed l s).sup.note = s.sup.note ∧
    (raiseIfArmed l s).sup.privileges = s.sup.privileges ∧
    (raiseIfArmed l s).sup.resetPending = s.sup.resetPending ∧
    (raiseIfArmed l s).sup.resetInput = s.sup.resetInput := by
  simp only [raiseIfArmed]
  repeat' split
  all_goals simp

@[simp] theorem activation_keeps (l : LineNo) (s : State) :
    (activation l s).time = s.time ∧
    (activation l s).waiting = s.waiting ∧
    (activation l s).lostNotices = s.lostNotices ∧
    (activation l s).unrouted = s.unrouted ∧
    (activation l s).entries = s.entries ∧
    (activation l s).banks = s.banks ∧
    (activation l s).groups = s.groups ∧
    (activation l s).drops = s.drops ∧
    (activation l s).contexts = s.contexts ∧
    (activation l s).profiles = s.profiles ∧
    (activation l s).clientLines = s.clientLines ∧
    (activation l s).board = s.board ∧
    (activation l s).health = s.health ∧
    (activation l s).pending = s.pending ∧
    (activation l s).sup.pins = s.sup.pins ∧
    (activation l s).sup.straps = s.sup.straps ∧
    (activation l s).sup.frozen = s.sup.frozen ∧
    (activation l s).sup.cause = s.sup.cause ∧
    (activation l s).sup.note = s.sup.note ∧
    (activation l s).sup.privileges = s.sup.privileges ∧
    (activation l s).sup.resetPending = s.sup.resetPending ∧
    (activation l s).sup.resetInput = s.sup.resetInput := by
  simp only [activation]
  repeat' split
  all_goals simp

@[simp] theorem rearmLevel_keeps (l : LineNo) (s : State) :
    (rearmLevel l s).time = s.time ∧
    (rearmLevel l s).masked = s.masked ∧
    (rearmLevel l s).intake = s.intake ∧
    (rearmLevel l s).waiting = s.waiting ∧
    (rearmLevel l s).lostNotices = s.lostNotices ∧
    (rearmLevel l s).unrouted = s.unrouted ∧
    (rearmLevel l s).entries = s.entries ∧
    (rearmLevel l s).banks = s.banks ∧
    (rearmLevel l s).groups = s.groups ∧
    (rearmLevel l s).pool = s.pool ∧
    (rearmLevel l s).queues = s.queues ∧
    (rearmLevel l s).drops = s.drops ∧
    (rearmLevel l s).presentation = s.presentation ∧
    (rearmLevel l s).contexts = s.contexts ∧
    (rearmLevel l s).profiles = s.profiles ∧
    (rearmLevel l s).clientLines = s.clientLines ∧
    (rearmLevel l s).board = s.board ∧
    (rearmLevel l s).health = s.health ∧
    (rearmLevel l s).posts = s.posts ∧
    (rearmLevel l s).sup = s.sup ∧
    (rearmLevel l s).links = s.links ∧
    (rearmLevel l s).pending = s.pending := by
  simp only [rearmLevel]
  repeat' split
  all_goals simp

@[simp] theorem deactivation_keeps (l : LineNo) (s : State) :
    (deactivation l s).time = s.time ∧
    (deactivation l s).masked = s.masked ∧
    (deactivation l s).intake = s.intake ∧
    (deactivation l s).waiting = s.waiting ∧
    (deactivation l s).lostNotices = s.lostNotices ∧
    (deactivation l s).unrouted = s.unrouted ∧
    (deactivation l s).entries = s.entries ∧
    (deactivation l s).banks = s.banks ∧
    (deactivation l s).groups = s.groups ∧
    (deactivation l s).pool = s.pool ∧
    (deactivation l s).queues = s.queues ∧
    (deactivation l s).drops = s.drops ∧
    (deactivation l s).presentation = s.presentation ∧
    (deactivation l s).contexts = s.contexts ∧
    (deactivation l s).profiles = s.profiles ∧
    (deactivation l s).clientLines = s.clientLines ∧
    (deactivation l s).board = s.board ∧
    (deactivation l s).health = s.health ∧
    (deactivation l s).posts = s.posts ∧
    (deactivation l s).sup = s.sup ∧
    (deactivation l s).links = s.links ∧
    (deactivation l s).pending = s.pending := by
  simp only [deactivation]
  repeat' split
  all_goals simp

@[simp] theorem activityChange_keeps (l : LineNo) (before : Bool) (s : State) :
    (activityChange l before s).time = s.time ∧
    (activityChange l before s).waiting = s.waiting ∧
    (activityChange l before s).lostNotices = s.lostNotices ∧
    (activityChange l before s).unrouted = s.unrouted ∧
    (activityChange l before s).entries = s.entries ∧
    (activityChange l before s).banks = s.banks ∧
    (activityChange l before s).groups = s.groups ∧
    (activityChange l before s).drops = s.drops ∧
    (activityChange l before s).contexts = s.contexts ∧
    (activityChange l before s).profiles = s.profiles ∧
    (activityChange l before s).clientLines = s.clientLines ∧
    (activityChange l before s).board = s.board ∧
    (activityChange l before s).health = s.health ∧
    (activityChange l before s).pending = s.pending ∧
    (activityChange l before s).sup.pins = s.sup.pins ∧
    (activityChange l before s).sup.straps = s.sup.straps ∧
    (activityChange l before s).sup.frozen = s.sup.frozen ∧
    (activityChange l before s).sup.cause = s.sup.cause ∧
    (activityChange l before s).sup.note = s.sup.note ∧
    (activityChange l before s).sup.privileges = s.sup.privileges ∧
    (activityChange l before s).sup.resetPending = s.sup.resetPending ∧
    (activityChange l before s).sup.resetInput = s.sup.resetInput := by
  simp only [activityChange]
  repeat' split
  all_goals simp

@[simp] theorem acceptLevel_keeps (l : LineNo) (s : State) :
    (acceptLevel l s).time = s.time ∧
    (acceptLevel l s).waiting = s.waiting ∧
    (acceptLevel l s).lostNotices = s.lostNotices ∧
    (acceptLevel l s).unrouted = s.unrouted ∧
    (acceptLevel l s).entries = s.entries ∧
    (acceptLevel l s).banks = s.banks ∧
    (acceptLevel l s).groups = s.groups ∧
    (acceptLevel l s).drops = s.drops ∧
    (acceptLevel l s).contexts = s.contexts ∧
    (acceptLevel l s).profiles = s.profiles ∧
    (acceptLevel l s).clientLines = s.clientLines ∧
    (acceptLevel l s).board = s.board ∧
    (acceptLevel l s).health = s.health ∧
    (acceptLevel l s).pending = s.pending ∧
    (acceptLevel l s).sup.pins = s.sup.pins ∧
    (acceptLevel l s).sup.straps = s.sup.straps ∧
    (acceptLevel l s).sup.frozen = s.sup.frozen ∧
    (acceptLevel l s).sup.cause = s.sup.cause ∧
    (acceptLevel l s).sup.note = s.sup.note ∧
    (acceptLevel l s).sup.privileges = s.sup.privileges ∧
    (acceptLevel l s).sup.resetPending = s.sup.resetPending ∧
    (acceptLevel l s).sup.resetInput = s.sup.resetInput := by
  simp only [acceptLevel]
  repeat' split
  all_goals simp

@[simp] theorem changeRawLevel_keeps (l : LineNo) (level : Bool) (s : State) :
    (changeRawLevel l level s).time = s.time ∧
    (changeRawLevel l level s).waiting = s.waiting ∧
    (changeRawLevel l level s).lostNotices = s.lostNotices ∧
    (changeRawLevel l level s).unrouted = s.unrouted ∧
    (changeRawLevel l level s).entries = s.entries ∧
    (changeRawLevel l level s).banks = s.banks ∧
    (changeRawLevel l level s).groups = s.groups ∧
    (changeRawLevel l level s).drops = s.drops ∧
    (changeRawLevel l level s).contexts = s.contexts ∧
    (changeRawLevel l level s).profiles = s.profiles ∧
    (changeRawLevel l level s).clientLines = s.clientLines ∧
    (changeRawLevel l level s).board = s.board ∧
    (changeRawLevel l level s).health = s.health ∧
    (changeRawLevel l level s).pending = s.pending ∧
    (changeRawLevel l level s).sup.pins = s.sup.pins ∧
    (changeRawLevel l level s).sup.straps = s.sup.straps ∧
    (changeRawLevel l level s).sup.frozen = s.sup.frozen ∧
    (changeRawLevel l level s).sup.cause = s.sup.cause ∧
    (changeRawLevel l level s).sup.note = s.sup.note ∧
    (changeRawLevel l level s).sup.privileges = s.sup.privileges ∧
    (changeRawLevel l level s).sup.resetPending = s.sup.resetPending ∧
    (changeRawLevel l level s).sup.resetInput = s.sup.resetInput := by
  simp only [changeRawLevel]
  repeat' split
  all_goals simp

@[simp] theorem reRaise_keeps (l : LineNo) (s : State) :
    (reRaise l s).time = s.time ∧
    (reRaise l s).masked = s.masked ∧
    (reRaise l s).waiting = s.waiting ∧
    (reRaise l s).lostNotices = s.lostNotices ∧
    (reRaise l s).unrouted = s.unrouted ∧
    (reRaise l s).entries = s.entries ∧
    (reRaise l s).banks = s.banks ∧
    (reRaise l s).groups = s.groups ∧
    (reRaise l s).drops = s.drops ∧
    (reRaise l s).contexts = s.contexts ∧
    (reRaise l s).profiles = s.profiles ∧
    (reRaise l s).clientLines = s.clientLines ∧
    (reRaise l s).board = s.board ∧
    (reRaise l s).health = s.health ∧
    (reRaise l s).pending = s.pending ∧
    (reRaise l s).sup.pins = s.sup.pins ∧
    (reRaise l s).sup.straps = s.sup.straps ∧
    (reRaise l s).sup.frozen = s.sup.frozen ∧
    (reRaise l s).sup.cause = s.sup.cause ∧
    (reRaise l s).sup.note = s.sup.note ∧
    (reRaise l s).sup.privileges = s.sup.privileges ∧
    (reRaise l s).sup.resetPending = s.sup.resetPending ∧
    (reRaise l s).sup.resetInput = s.sup.resetInput := by
  simp only [reRaise]
  repeat' split
  all_goals simp

@[simp] theorem repeatRunsOut_keeps (l : LineNo) (s : State) :
    (repeatRunsOut l s).time = s.time ∧
    (repeatRunsOut l s).masked = s.masked ∧
    (repeatRunsOut l s).waiting = s.waiting ∧
    (repeatRunsOut l s).lostNotices = s.lostNotices ∧
    (repeatRunsOut l s).unrouted = s.unrouted ∧
    (repeatRunsOut l s).entries = s.entries ∧
    (repeatRunsOut l s).banks = s.banks ∧
    (repeatRunsOut l s).groups = s.groups ∧
    (repeatRunsOut l s).drops = s.drops ∧
    (repeatRunsOut l s).contexts = s.contexts ∧
    (repeatRunsOut l s).profiles = s.profiles ∧
    (repeatRunsOut l s).clientLines = s.clientLines ∧
    (repeatRunsOut l s).board = s.board ∧
    (repeatRunsOut l s).health = s.health ∧
    (repeatRunsOut l s).pending = s.pending ∧
    (repeatRunsOut l s).sup.pins = s.sup.pins ∧
    (repeatRunsOut l s).sup.straps = s.sup.straps ∧
    (repeatRunsOut l s).sup.frozen = s.sup.frozen ∧
    (repeatRunsOut l s).sup.cause = s.sup.cause ∧
    (repeatRunsOut l s).sup.note = s.sup.note ∧
    (repeatRunsOut l s).sup.privileges = s.sup.privileges ∧
    (repeatRunsOut l s).sup.resetPending = s.sup.resetPending ∧
    (repeatRunsOut l s).sup.resetInput = s.sup.resetInput := by
  simp only [repeatRunsOut]
  repeat' split
  all_goals simp

@[simp] theorem lineTaken_keeps (l : LineNo) (s : State) :
    (lineTaken l s).time = s.time ∧
    (lineTaken l s).masked = s.masked ∧
    (lineTaken l s).intake = s.intake ∧
    (lineTaken l s).waiting = s.waiting ∧
    (lineTaken l s).lostNotices = s.lostNotices ∧
    (lineTaken l s).unrouted = s.unrouted ∧
    (lineTaken l s).entries = s.entries ∧
    (lineTaken l s).banks = s.banks ∧
    (lineTaken l s).groups = s.groups ∧
    (lineTaken l s).pool = s.pool ∧
    (lineTaken l s).queues = s.queues ∧
    (lineTaken l s).drops = s.drops ∧
    (lineTaken l s).presentation = s.presentation ∧
    (lineTaken l s).contexts = s.contexts ∧
    (lineTaken l s).profiles = s.profiles ∧
    (lineTaken l s).clientLines = s.clientLines ∧
    (lineTaken l s).board = s.board ∧
    (lineTaken l s).health = s.health ∧
    (lineTaken l s).posts = s.posts ∧
    (lineTaken l s).sup = s.sup ∧
    (lineTaken l s).links = s.links ∧
    (lineTaken l s).pending = s.pending := by
  simp only [lineTaken]
  repeat' split
  all_goals simp

@[simp] theorem lineDisposed_keeps (l : LineNo) (s : State) :
    (lineDisposed l s).time = s.time ∧
    (lineDisposed l s).masked = s.masked ∧
    (lineDisposed l s).waiting = s.waiting ∧
    (lineDisposed l s).lostNotices = s.lostNotices ∧
    (lineDisposed l s).unrouted = s.unrouted ∧
    (lineDisposed l s).entries = s.entries ∧
    (lineDisposed l s).banks = s.banks ∧
    (lineDisposed l s).groups = s.groups ∧
    (lineDisposed l s).pool = s.pool ∧
    (lineDisposed l s).queues = s.queues ∧
    (lineDisposed l s).presentation = s.presentation ∧
    (lineDisposed l s).posts = s.posts ∧
    (lineDisposed l s).links = s.links ∧
    (lineDisposed l s).drops = s.drops ∧
    (lineDisposed l s).contexts = s.contexts ∧
    (lineDisposed l s).profiles = s.profiles ∧
    (lineDisposed l s).clientLines = s.clientLines ∧
    (lineDisposed l s).board = s.board ∧
    (lineDisposed l s).health = s.health ∧
    (lineDisposed l s).pending = s.pending ∧
    (lineDisposed l s).sup.pins = s.sup.pins ∧
    (lineDisposed l s).sup.straps = s.sup.straps ∧
    (lineDisposed l s).sup.frozen = s.sup.frozen ∧
    (lineDisposed l s).sup.cause = s.sup.cause ∧
    (lineDisposed l s).sup.note = s.sup.note ∧
    (lineDisposed l s).sup.privileges = s.sup.privileges ∧
    (lineDisposed l s).sup.resetPending = s.sup.resetPending ∧
    (lineDisposed l s).sup.resetInput = s.sup.resetInput := by
  simp only [lineDisposed]
  repeat' split
  all_goals simp

@[simp] theorem reportDisposed_keeps (src : BitVec 6) (s : State) :
    (reportDisposed src s).time = s.time ∧
    (reportDisposed src s).masked = s.masked ∧
    (reportDisposed src s).waiting = s.waiting ∧
    (reportDisposed src s).lostNotices = s.lostNotices ∧
    (reportDisposed src s).unrouted = s.unrouted ∧
    (reportDisposed src s).entries = s.entries ∧
    (reportDisposed src s).banks = s.banks ∧
    (reportDisposed src s).groups = s.groups ∧
    (reportDisposed src s).pool = s.pool ∧
    (reportDisposed src s).queues = s.queues ∧
    (reportDisposed src s).presentation = s.presentation ∧
    (reportDisposed src s).posts = s.posts ∧
    (reportDisposed src s).links = s.links ∧
    (reportDisposed src s).drops = s.drops ∧
    (reportDisposed src s).contexts = s.contexts ∧
    (reportDisposed src s).profiles = s.profiles ∧
    (reportDisposed src s).clientLines = s.clientLines ∧
    (reportDisposed src s).board = s.board ∧
    (reportDisposed src s).health = s.health ∧
    (reportDisposed src s).pending = s.pending ∧
    (reportDisposed src s).sup.pins = s.sup.pins ∧
    (reportDisposed src s).sup.straps = s.sup.straps ∧
    (reportDisposed src s).sup.frozen = s.sup.frozen ∧
    (reportDisposed src s).sup.cause = s.sup.cause ∧
    (reportDisposed src s).sup.note = s.sup.note ∧
    (reportDisposed src s).sup.privileges = s.sup.privileges ∧
    (reportDisposed src s).sup.resetPending = s.sup.resetPending ∧
    (reportDisposed src s).sup.resetInput = s.sup.resetInput := by
  simp only [reportDisposed]
  repeat' split
  all_goals simp

@[simp] theorem lineModeChange_keeps (l : LineNo) (s : State) :
    (lineModeChange l s).time = s.time ∧
    (lineModeChange l s).masked = s.masked ∧
    (lineModeChange l s).intake = s.intake ∧
    (lineModeChange l s).waiting = s.waiting ∧
    (lineModeChange l s).lostNotices = s.lostNotices ∧
    (lineModeChange l s).unrouted = s.unrouted ∧
    (lineModeChange l s).entries = s.entries ∧
    (lineModeChange l s).banks = s.banks ∧
    (lineModeChange l s).groups = s.groups ∧
    (lineModeChange l s).pool = s.pool ∧
    (lineModeChange l s).queues = s.queues ∧
    (lineModeChange l s).drops = s.drops ∧
    (lineModeChange l s).presentation = s.presentation ∧
    (lineModeChange l s).contexts = s.contexts ∧
    (lineModeChange l s).profiles = s.profiles ∧
    (lineModeChange l s).clientLines = s.clientLines ∧
    (lineModeChange l s).board = s.board ∧
    (lineModeChange l s).health = s.health ∧
    (lineModeChange l s).posts = s.posts ∧
    (lineModeChange l s).sup = s.sup ∧
    (lineModeChange l s).links = s.links ∧
    (lineModeChange l s).pending = s.pending := by
  simp only [lineModeChange]
  repeat' split
  all_goals simp

@[simp] theorem lineRetimeDebounce_keeps (l : LineNo) (old : LineConfig) (s : State) :
    (lineRetimeDebounce l old s).time = s.time ∧
    (lineRetimeDebounce l old s).masked = s.masked ∧
    (lineRetimeDebounce l old s).intake = s.intake ∧
    (lineRetimeDebounce l old s).waiting = s.waiting ∧
    (lineRetimeDebounce l old s).lostNotices = s.lostNotices ∧
    (lineRetimeDebounce l old s).unrouted = s.unrouted ∧
    (lineRetimeDebounce l old s).entries = s.entries ∧
    (lineRetimeDebounce l old s).banks = s.banks ∧
    (lineRetimeDebounce l old s).groups = s.groups ∧
    (lineRetimeDebounce l old s).pool = s.pool ∧
    (lineRetimeDebounce l old s).queues = s.queues ∧
    (lineRetimeDebounce l old s).drops = s.drops ∧
    (lineRetimeDebounce l old s).presentation = s.presentation ∧
    (lineRetimeDebounce l old s).contexts = s.contexts ∧
    (lineRetimeDebounce l old s).profiles = s.profiles ∧
    (lineRetimeDebounce l old s).clientLines = s.clientLines ∧
    (lineRetimeDebounce l old s).board = s.board ∧
    (lineRetimeDebounce l old s).health = s.health ∧
    (lineRetimeDebounce l old s).posts = s.posts ∧
    (lineRetimeDebounce l old s).sup = s.sup ∧
    (lineRetimeDebounce l old s).links = s.links ∧
    (lineRetimeDebounce l old s).pending = s.pending := by
  simp only [lineRetimeDebounce]
  repeat' split
  all_goals simp

@[simp] theorem lineRetimeRepeat_keeps (l : LineNo) (old : LineConfig) (s : State) :
    (lineRetimeRepeat l old s).time = s.time ∧
    (lineRetimeRepeat l old s).masked = s.masked ∧
    (lineRetimeRepeat l old s).waiting = s.waiting ∧
    (lineRetimeRepeat l old s).lostNotices = s.lostNotices ∧
    (lineRetimeRepeat l old s).unrouted = s.unrouted ∧
    (lineRetimeRepeat l old s).entries = s.entries ∧
    (lineRetimeRepeat l old s).banks = s.banks ∧
    (lineRetimeRepeat l old s).groups = s.groups ∧
    (lineRetimeRepeat l old s).drops = s.drops ∧
    (lineRetimeRepeat l old s).contexts = s.contexts ∧
    (lineRetimeRepeat l old s).profiles = s.profiles ∧
    (lineRetimeRepeat l old s).clientLines = s.clientLines ∧
    (lineRetimeRepeat l old s).board = s.board ∧
    (lineRetimeRepeat l old s).health = s.health ∧
    (lineRetimeRepeat l old s).pending = s.pending ∧
    (lineRetimeRepeat l old s).sup.pins = s.sup.pins ∧
    (lineRetimeRepeat l old s).sup.straps = s.sup.straps ∧
    (lineRetimeRepeat l old s).sup.frozen = s.sup.frozen ∧
    (lineRetimeRepeat l old s).sup.cause = s.sup.cause ∧
    (lineRetimeRepeat l old s).sup.note = s.sup.note ∧
    (lineRetimeRepeat l old s).sup.privileges = s.sup.privileges ∧
    (lineRetimeRepeat l old s).sup.resetPending = s.sup.resetPending ∧
    (lineRetimeRepeat l old s).sup.resetInput = s.sup.resetInput := by
  simp only [lineRetimeRepeat]
  repeat' split
  all_goals simp

@[simp] theorem configureLine_keeps (l : LineNo) (cfg : LineConfig) (clearGroup : Bool) (s : State) :
    (configureLine l cfg clearGroup s).time = s.time ∧
    (configureLine l cfg clearGroup s).waiting = s.waiting ∧
    (configureLine l cfg clearGroup s).lostNotices = s.lostNotices ∧
    (configureLine l cfg clearGroup s).unrouted = s.unrouted ∧
    (configureLine l cfg clearGroup s).entries = s.entries ∧
    (configureLine l cfg clearGroup s).banks = s.banks ∧
    (configureLine l cfg clearGroup s).groups = s.groups ∧
    (configureLine l cfg clearGroup s).drops = s.drops ∧
    (configureLine l cfg clearGroup s).contexts = s.contexts ∧
    (configureLine l cfg clearGroup s).profiles = s.profiles ∧
    (configureLine l cfg clearGroup s).clientLines = s.clientLines ∧
    (configureLine l cfg clearGroup s).board = s.board ∧
    (configureLine l cfg clearGroup s).health = s.health ∧
    (configureLine l cfg clearGroup s).pending = s.pending ∧
    (configureLine l cfg clearGroup s).sup.pins = s.sup.pins ∧
    (configureLine l cfg clearGroup s).sup.straps = s.sup.straps ∧
    (configureLine l cfg clearGroup s).sup.frozen = s.sup.frozen ∧
    (configureLine l cfg clearGroup s).sup.cause = s.sup.cause ∧
    (configureLine l cfg clearGroup s).sup.note = s.sup.note ∧
    (configureLine l cfg clearGroup s).sup.privileges = s.sup.privileges ∧
    (configureLine l cfg clearGroup s).sup.resetPending = s.sup.resetPending ∧
    (configureLine l cfg clearGroup s).sup.resetInput = s.sup.resetInput := by
  simp only [configureLine]
  repeat' split
  all_goals simp

@[simp] theorem setAttention_keeps (c : Client) (on : Bool) (s : State) :
    (setAttention c on s).time = s.time ∧
    (setAttention c on s).lines = s.lines ∧
    (setAttention c on s).masked = s.masked ∧
    (setAttention c on s).intake = s.intake ∧
    (setAttention c on s).waiting = s.waiting ∧
    (setAttention c on s).lostNotices = s.lostNotices ∧
    (setAttention c on s).unrouted = s.unrouted ∧
    (setAttention c on s).entries = s.entries ∧
    (setAttention c on s).banks = s.banks ∧
    (setAttention c on s).groups = s.groups ∧
    (setAttention c on s).pool = s.pool ∧
    (setAttention c on s).queues = s.queues ∧
    (setAttention c on s).drops = s.drops ∧
    (setAttention c on s).presentation = s.presentation ∧
    (setAttention c on s).contexts = s.contexts ∧
    (setAttention c on s).profiles = s.profiles ∧
    (setAttention c on s).board = s.board ∧
    (setAttention c on s).health = s.health ∧
    (setAttention c on s).posts = s.posts ∧
    (setAttention c on s).sup = s.sup ∧
    (setAttention c on s).links = s.links ∧
    (setAttention c on s).pending = s.pending := by
  simp only [setAttention]
  repeat' split
  all_goals simp

@[simp] theorem suspend_keeps (c : Client) (i : RecIndex) (r : Record) (s : State) :
    (suspend c i r s).time = s.time ∧
    (suspend c i r s).lines = s.lines ∧
    (suspend c i r s).masked = s.masked ∧
    (suspend c i r s).intake = s.intake ∧
    (suspend c i r s).waiting = s.waiting ∧
    (suspend c i r s).lostNotices = s.lostNotices ∧
    (suspend c i r s).unrouted = s.unrouted ∧
    (suspend c i r s).entries = s.entries ∧
    (suspend c i r s).banks = s.banks ∧
    (suspend c i r s).groups = s.groups ∧
    (suspend c i r s).queues = s.queues ∧
    (suspend c i r s).drops = s.drops ∧
    (suspend c i r s).presentation = s.presentation ∧
    (suspend c i r s).contexts = s.contexts ∧
    (suspend c i r s).profiles = s.profiles ∧
    (suspend c i r s).board = s.board ∧
    (suspend c i r s).health = s.health ∧
    (suspend c i r s).posts = s.posts ∧
    (suspend c i r s).sup = s.sup ∧
    (suspend c i r s).pending = s.pending := by
  simp only [suspend]
  repeat' split
  all_goals simp

@[simp] theorem enterService_keeps (c : Client) (h : Option Handle) (s : State) :
    (enterService c h s).time = s.time ∧
    (enterService c h s).lines = s.lines ∧
    (enterService c h s).masked = s.masked ∧
    (enterService c h s).intake = s.intake ∧
    (enterService c h s).waiting = s.waiting ∧
    (enterService c h s).lostNotices = s.lostNotices ∧
    (enterService c h s).unrouted = s.unrouted ∧
    (enterService c h s).entries = s.entries ∧
    (enterService c h s).banks = s.banks ∧
    (enterService c h s).groups = s.groups ∧
    (enterService c h s).pool = s.pool ∧
    (enterService c h s).queues = s.queues ∧
    (enterService c h s).drops = s.drops ∧
    (enterService c h s).presentation = s.presentation ∧
    (enterService c h s).profiles = s.profiles ∧
    (enterService c h s).clientLines = s.clientLines ∧
    (enterService c h s).board = s.board ∧
    (enterService c h s).health = s.health ∧
    (enterService c h s).posts = s.posts ∧
    (enterService c h s).sup = s.sup ∧
    (enterService c h s).links = s.links ∧
    (enterService c h s).pending = s.pending := by
  simp only [enterService]
  repeat' split
  all_goals simp

@[simp] theorem exchangeToService_keeps (c : Client) (cause : ContextCause) (s : State) :
    (exchangeToService c cause s).time = s.time ∧
    (exchangeToService c cause s).lines = s.lines ∧
    (exchangeToService c cause s).masked = s.masked ∧
    (exchangeToService c cause s).intake = s.intake ∧
    (exchangeToService c cause s).waiting = s.waiting ∧
    (exchangeToService c cause s).lostNotices = s.lostNotices ∧
    (exchangeToService c cause s).unrouted = s.unrouted ∧
    (exchangeToService c cause s).entries = s.entries ∧
    (exchangeToService c cause s).banks = s.banks ∧
    (exchangeToService c cause s).groups = s.groups ∧
    (exchangeToService c cause s).drops = s.drops ∧
    (exchangeToService c cause s).profiles = s.profiles ∧
    (exchangeToService c cause s).board = s.board ∧
    (exchangeToService c cause s).health = s.health ∧
    (exchangeToService c cause s).sup = s.sup ∧
    (exchangeToService c cause s).pending = s.pending := by
  simp only [exchangeToService]
  repeat' split
  all_goals simp

@[simp] theorem ctxExamine_keeps (c : Client) (s : State) :
    (ctxExamine c s).time = s.time ∧
    (ctxExamine c s).lines = s.lines ∧
    (ctxExamine c s).masked = s.masked ∧
    (ctxExamine c s).intake = s.intake ∧
    (ctxExamine c s).waiting = s.waiting ∧
    (ctxExamine c s).lostNotices = s.lostNotices ∧
    (ctxExamine c s).unrouted = s.unrouted ∧
    (ctxExamine c s).entries = s.entries ∧
    (ctxExamine c s).banks = s.banks ∧
    (ctxExamine c s).groups = s.groups ∧
    (ctxExamine c s).drops = s.drops ∧
    (ctxExamine c s).profiles = s.profiles ∧
    (ctxExamine c s).board = s.board ∧
    (ctxExamine c s).health = s.health ∧
    (ctxExamine c s).sup = s.sup ∧
    (ctxExamine c s).pending = s.pending := by
  simp only [ctxExamine]
  repeat' split
  all_goals simp

@[simp] theorem entered_keeps (c : Client) (s : State) :
    (entered c s).time = s.time ∧
    (entered c s).lines = s.lines ∧
    (entered c s).masked = s.masked ∧
    (entered c s).intake = s.intake ∧
    (entered c s).waiting = s.waiting ∧
    (entered c s).lostNotices = s.lostNotices ∧
    (entered c s).unrouted = s.unrouted ∧
    (entered c s).entries = s.entries ∧
    (entered c s).banks = s.banks ∧
    (entered c s).groups = s.groups ∧
    (entered c s).drops = s.drops ∧
    (entered c s).profiles = s.profiles ∧
    (entered c s).board = s.board ∧
    (entered c s).health = s.health ∧
    (entered c s).sup = s.sup ∧
    (entered c s).pending = s.pending := by
  simp only [entered]
  repeat' split
  all_goals simp

@[simp] theorem release_keeps (i : RecIndex) (r : Record) (s : State) :
    (release i r s).time = s.time ∧
    (release i r s).lines = s.lines ∧
    (release i r s).masked = s.masked ∧
    (release i r s).intake = s.intake ∧
    (release i r s).waiting = s.waiting ∧
    (release i r s).lostNotices = s.lostNotices ∧
    (release i r s).unrouted = s.unrouted ∧
    (release i r s).entries = s.entries ∧
    (release i r s).banks = s.banks ∧
    (release i r s).groups = s.groups ∧
    (release i r s).drops = s.drops ∧
    (release i r s).presentation = s.presentation ∧
    (release i r s).contexts = s.contexts ∧
    (release i r s).profiles = s.profiles ∧
    (release i r s).clientLines = s.clientLines ∧
    (release i r s).board = s.board ∧
    (release i r s).health = s.health ∧
    (release i r s).posts = s.posts ∧
    (release i r s).sup = s.sup ∧
    (release i r s).links = s.links ∧
    (release i r s).pending = s.pending := by
  simp only [release]
  repeat' split
  all_goals simp

@[simp] theorem endGroup_keeps (g : GroupNo) (x : FirstGroup) (k : Key) (s : State) :
    (endGroup g x k s).time = s.time ∧
    (endGroup g x k s).lines = s.lines ∧
    (endGroup g x k s).masked = s.masked ∧
    (endGroup g x k s).waiting = s.waiting ∧
    (endGroup g x k s).unrouted = s.unrouted ∧
    (endGroup g x k s).entries = s.entries ∧
    (endGroup g x k s).banks = s.banks ∧
    (endGroup g x k s).pool = s.pool ∧
    (endGroup g x k s).queues = s.queues ∧
    (endGroup g x k s).drops = s.drops ∧
    (endGroup g x k s).presentation = s.presentation ∧
    (endGroup g x k s).contexts = s.contexts ∧
    (endGroup g x k s).profiles = s.profiles ∧
    (endGroup g x k s).clientLines = s.clientLines ∧
    (endGroup g x k s).board = s.board ∧
    (endGroup g x k s).health = s.health ∧
    (endGroup g x k s).posts = s.posts ∧
    (endGroup g x k s).sup = s.sup ∧
    (endGroup g x k s).links = s.links ∧
    (endGroup g x k s).pending = s.pending := by
  simp only [endGroup]
  repeat' split
  all_goals simp

@[simp] theorem groupLosesCopy_keeps (g : GroupNo) (k : Key) (s : State) :
    (groupLosesCopy g k s).time = s.time ∧
    (groupLosesCopy g k s).lines = s.lines ∧
    (groupLosesCopy g k s).masked = s.masked ∧
    (groupLosesCopy g k s).waiting = s.waiting ∧
    (groupLosesCopy g k s).unrouted = s.unrouted ∧
    (groupLosesCopy g k s).entries = s.entries ∧
    (groupLosesCopy g k s).banks = s.banks ∧
    (groupLosesCopy g k s).pool = s.pool ∧
    (groupLosesCopy g k s).queues = s.queues ∧
    (groupLosesCopy g k s).drops = s.drops ∧
    (groupLosesCopy g k s).presentation = s.presentation ∧
    (groupLosesCopy g k s).contexts = s.contexts ∧
    (groupLosesCopy g k s).profiles = s.profiles ∧
    (groupLosesCopy g k s).clientLines = s.clientLines ∧
    (groupLosesCopy g k s).board = s.board ∧
    (groupLosesCopy g k s).health = s.health ∧
    (groupLosesCopy g k s).posts = s.posts ∧
    (groupLosesCopy g k s).sup = s.sup ∧
    (groupLosesCopy g k s).links = s.links ∧
    (groupLosesCopy g k s).pending = s.pending := by
  simp only [groupLosesCopy]
  repeat' split
  all_goals simp

@[simp] theorem setPostSlot_keeps (p : Client) (n : SlotNo) (v : PostSlot) (s : State) :
    (setPostSlot p n v s).time = s.time ∧
    (setPostSlot p n v s).lines = s.lines ∧
    (setPostSlot p n v s).masked = s.masked ∧
    (setPostSlot p n v s).intake = s.intake ∧
    (setPostSlot p n v s).waiting = s.waiting ∧
    (setPostSlot p n v s).lostNotices = s.lostNotices ∧
    (setPostSlot p n v s).unrouted = s.unrouted ∧
    (setPostSlot p n v s).entries = s.entries ∧
    (setPostSlot p n v s).banks = s.banks ∧
    (setPostSlot p n v s).groups = s.groups ∧
    (setPostSlot p n v s).pool = s.pool ∧
    (setPostSlot p n v s).queues = s.queues ∧
    (setPostSlot p n v s).drops = s.drops ∧
    (setPostSlot p n v s).presentation = s.presentation ∧
    (setPostSlot p n v s).contexts = s.contexts ∧
    (setPostSlot p n v s).profiles = s.profiles ∧
    (setPostSlot p n v s).clientLines = s.clientLines ∧
    (setPostSlot p n v s).board = s.board ∧
    (setPostSlot p n v s).health = s.health ∧
    (setPostSlot p n v s).sup = s.sup ∧
    (setPostSlot p n v s).links = s.links ∧
    (setPostSlot p n v s).pending = s.pending := by
  simp only [setPostSlot]
  repeat' split
  all_goals simp

@[simp] theorem settlePost_keeps (k : Key) (h : Handle) (cause : FreeCause) (s : State) :
    (settlePost k h cause s).time = s.time ∧
    (settlePost k h cause s).lines = s.lines ∧
    (settlePost k h cause s).masked = s.masked ∧
    (settlePost k h cause s).intake = s.intake ∧
    (settlePost k h cause s).waiting = s.waiting ∧
    (settlePost k h cause s).lostNotices = s.lostNotices ∧
    (settlePost k h cause s).unrouted = s.unrouted ∧
    (settlePost k h cause s).entries = s.entries ∧
    (settlePost k h cause s).banks = s.banks ∧
    (settlePost k h cause s).groups = s.groups ∧
    (settlePost k h cause s).pool = s.pool ∧
    (settlePost k h cause s).queues = s.queues ∧
    (settlePost k h cause s).drops = s.drops ∧
    (settlePost k h cause s).presentation = s.presentation ∧
    (settlePost k h cause s).contexts = s.contexts ∧
    (settlePost k h cause s).profiles = s.profiles ∧
    (settlePost k h cause s).clientLines = s.clientLines ∧
    (settlePost k h cause s).board = s.board ∧
    (settlePost k h cause s).health = s.health ∧
    (settlePost k h cause s).sup = s.sup ∧
    (settlePost k h cause s).pending = s.pending := by
  simp only [settlePost]
  repeat' split
  all_goals simp

@[simp] theorem reportCopy_keeps (r : Record) (s : State) :
    (reportCopy r s).time = s.time ∧
    (reportCopy r s).lines = s.lines ∧
    (reportCopy r s).masked = s.masked ∧
    (reportCopy r s).waiting = s.waiting ∧
    (reportCopy r s).unrouted = s.unrouted ∧
    (reportCopy r s).entries = s.entries ∧
    (reportCopy r s).banks = s.banks ∧
    (reportCopy r s).pool = s.pool ∧
    (reportCopy r s).queues = s.queues ∧
    (reportCopy r s).drops = s.drops ∧
    (reportCopy r s).presentation = s.presentation ∧
    (reportCopy r s).contexts = s.contexts ∧
    (reportCopy r s).profiles = s.profiles ∧
    (reportCopy r s).clientLines = s.clientLines ∧
    (reportCopy r s).board = s.board ∧
    (reportCopy r s).health = s.health ∧
    (reportCopy r s).posts = s.posts ∧
    (reportCopy r s).sup = s.sup ∧
    (reportCopy r s).links = s.links ∧
    (reportCopy r s).pending = s.pending := by
  simp only [reportCopy]
  repeat' split
  all_goals simp

@[simp] theorem reportPost_keeps (r : Record) (h : Handle) (cause : FreeCause) (s : State) :
    (reportPost r h cause s).time = s.time ∧
    (reportPost r h cause s).lines = s.lines ∧
    (reportPost r h cause s).masked = s.masked ∧
    (reportPost r h cause s).intake = s.intake ∧
    (reportPost r h cause s).waiting = s.waiting ∧
    (reportPost r h cause s).lostNotices = s.lostNotices ∧
    (reportPost r h cause s).unrouted = s.unrouted ∧
    (reportPost r h cause s).entries = s.entries ∧
    (reportPost r h cause s).banks = s.banks ∧
    (reportPost r h cause s).groups = s.groups ∧
    (reportPost r h cause s).pool = s.pool ∧
    (reportPost r h cause s).queues = s.queues ∧
    (reportPost r h cause s).drops = s.drops ∧
    (reportPost r h cause s).presentation = s.presentation ∧
    (reportPost r h cause s).contexts = s.contexts ∧
    (reportPost r h cause s).profiles = s.profiles ∧
    (reportPost r h cause s).clientLines = s.clientLines ∧
    (reportPost r h cause s).board = s.board ∧
    (reportPost r h cause s).health = s.health ∧
    (reportPost r h cause s).sup = s.sup ∧
    (reportPost r h cause s).pending = s.pending := by
  simp only [reportPost]
  repeat' split
  all_goals simp

@[simp] theorem reportPresented_keeps (r : Record) (h : Handle) (s : State) :
    (reportPresented r h s).time = s.time ∧
    (reportPresented r h s).lines = s.lines ∧
    (reportPresented r h s).masked = s.masked ∧
    (reportPresented r h s).intake = s.intake ∧
    (reportPresented r h s).waiting = s.waiting ∧
    (reportPresented r h s).lostNotices = s.lostNotices ∧
    (reportPresented r h s).unrouted = s.unrouted ∧
    (reportPresented r h s).entries = s.entries ∧
    (reportPresented r h s).banks = s.banks ∧
    (reportPresented r h s).groups = s.groups ∧
    (reportPresented r h s).pool = s.pool ∧
    (reportPresented r h s).queues = s.queues ∧
    (reportPresented r h s).drops = s.drops ∧
    (reportPresented r h s).presentation = s.presentation ∧
    (reportPresented r h s).contexts = s.contexts ∧
    (reportPresented r h s).profiles = s.profiles ∧
    (reportPresented r h s).clientLines = s.clientLines ∧
    (reportPresented r h s).board = s.board ∧
    (reportPresented r h s).health = s.health ∧
    (reportPresented r h s).posts = s.posts ∧
    (reportPresented r h s).sup = s.sup ∧
    (reportPresented r h s).pending = s.pending := by
  simp only [reportPresented]
  repeat' split
  all_goals simp

@[simp] theorem freeUntested_keeps (i : RecIndex) (r : Record) (cause : FreeCause) (s : State) :
    (freeUntested i r cause s).time = s.time ∧
    (freeUntested i r cause s).masked = s.masked ∧
    (freeUntested i r cause s).waiting = s.waiting ∧
    (freeUntested i r cause s).unrouted = s.unrouted ∧
    (freeUntested i r cause s).entries = s.entries ∧
    (freeUntested i r cause s).banks = s.banks ∧
    (freeUntested i r cause s).drops = s.drops ∧
    (freeUntested i r cause s).contexts = s.contexts ∧
    (freeUntested i r cause s).profiles = s.profiles ∧
    (freeUntested i r cause s).clientLines = s.clientLines ∧
    (freeUntested i r cause s).board = s.board ∧
    (freeUntested i r cause s).health = s.health ∧
    (freeUntested i r cause s).pending = s.pending ∧
    (freeUntested i r cause s).sup.pins = s.sup.pins ∧
    (freeUntested i r cause s).sup.straps = s.sup.straps ∧
    (freeUntested i r cause s).sup.frozen = s.sup.frozen ∧
    (freeUntested i r cause s).sup.cause = s.sup.cause ∧
    (freeUntested i r cause s).sup.note = s.sup.note ∧
    (freeUntested i r cause s).sup.privileges = s.sup.privileges ∧
    (freeUntested i r cause s).sup.resetPending = s.sup.resetPending ∧
    (freeUntested i r cause s).sup.resetInput = s.sup.resetInput := by
  simp only [freeUntested]
  repeat' split
  all_goals simp

@[simp] theorem freeWithin_keeps (i : RecIndex) (r : Record) (cause : FreeCause) (s : State) :
    (freeWithin i r cause s).time = s.time ∧
    (freeWithin i r cause s).masked = s.masked ∧
    (freeWithin i r cause s).waiting = s.waiting ∧
    (freeWithin i r cause s).unrouted = s.unrouted ∧
    (freeWithin i r cause s).entries = s.entries ∧
    (freeWithin i r cause s).banks = s.banks ∧
    (freeWithin i r cause s).drops = s.drops ∧
    (freeWithin i r cause s).contexts = s.contexts ∧
    (freeWithin i r cause s).profiles = s.profiles ∧
    (freeWithin i r cause s).clientLines = s.clientLines ∧
    (freeWithin i r cause s).board = s.board ∧
    (freeWithin i r cause s).health = s.health ∧
    (freeWithin i r cause s).pending = s.pending ∧
    (freeWithin i r cause s).sup.pins = s.sup.pins ∧
    (freeWithin i r cause s).sup.straps = s.sup.straps ∧
    (freeWithin i r cause s).sup.frozen = s.sup.frozen ∧
    (freeWithin i r cause s).sup.cause = s.sup.cause ∧
    (freeWithin i r cause s).sup.note = s.sup.note ∧
    (freeWithin i r cause s).sup.privileges = s.sup.privileges ∧
    (freeWithin i r cause s).sup.resetPending = s.sup.resetPending ∧
    (freeWithin i r cause s).sup.resetInput = s.sup.resetInput := by
  simp only [freeWithin]
  repeat' split
  all_goals simp

@[simp] theorem freeRecord_keeps (i : RecIndex) (r : Record) (cause : FreeCause) (s : State) :
    (freeRecord i r cause s).time = s.time ∧
    (freeRecord i r cause s).masked = s.masked ∧
    (freeRecord i r cause s).waiting = s.waiting ∧
    (freeRecord i r cause s).unrouted = s.unrouted ∧
    (freeRecord i r cause s).entries = s.entries ∧
    (freeRecord i r cause s).banks = s.banks ∧
    (freeRecord i r cause s).drops = s.drops ∧
    (freeRecord i r cause s).contexts = s.contexts ∧
    (freeRecord i r cause s).profiles = s.profiles ∧
    (freeRecord i r cause s).clientLines = s.clientLines ∧
    (freeRecord i r cause s).board = s.board ∧
    (freeRecord i r cause s).health = s.health ∧
    (freeRecord i r cause s).pending = s.pending ∧
    (freeRecord i r cause s).sup.pins = s.sup.pins ∧
    (freeRecord i r cause s).sup.straps = s.sup.straps ∧
    (freeRecord i r cause s).sup.frozen = s.sup.frozen ∧
    (freeRecord i r cause s).sup.cause = s.sup.cause ∧
    (freeRecord i r cause s).sup.note = s.sup.note ∧
    (freeRecord i r cause s).sup.privileges = s.sup.privileges ∧
    (freeRecord i r cause s).sup.resetPending = s.sup.resetPending ∧
    (freeRecord i r cause s).sup.resetInput = s.sup.resetInput := by
  simp only [freeRecord]
  repeat' split
  all_goals simp

@[simp] theorem groupGainsCopy_keeps (m : RecMode) (s : State) :
    (groupGainsCopy m s).time = s.time ∧
    (groupGainsCopy m s).lines = s.lines ∧
    (groupGainsCopy m s).masked = s.masked ∧
    (groupGainsCopy m s).intake = s.intake ∧
    (groupGainsCopy m s).waiting = s.waiting ∧
    (groupGainsCopy m s).lostNotices = s.lostNotices ∧
    (groupGainsCopy m s).unrouted = s.unrouted ∧
    (groupGainsCopy m s).entries = s.entries ∧
    (groupGainsCopy m s).banks = s.banks ∧
    (groupGainsCopy m s).pool = s.pool ∧
    (groupGainsCopy m s).queues = s.queues ∧
    (groupGainsCopy m s).drops = s.drops ∧
    (groupGainsCopy m s).presentation = s.presentation ∧
    (groupGainsCopy m s).contexts = s.contexts ∧
    (groupGainsCopy m s).profiles = s.profiles ∧
    (groupGainsCopy m s).clientLines = s.clientLines ∧
    (groupGainsCopy m s).board = s.board ∧
    (groupGainsCopy m s).health = s.health ∧
    (groupGainsCopy m s).posts = s.posts ∧
    (groupGainsCopy m s).sup = s.sup ∧
    (groupGainsCopy m s).links = s.links ∧
    (groupGainsCopy m s).pending = s.pending := by
  simp only [groupGainsCopy]
  repeat' split
  all_goals simp

@[simp] theorem makeAt_keeps (i : RecIndex) (q : StoreRequest) (s : State) :
    (makeAt i q s).time = s.time ∧
    (makeAt i q s).lines = s.lines ∧
    (makeAt i q s).masked = s.masked ∧
    (makeAt i q s).waiting = s.waiting ∧
    (makeAt i q s).unrouted = s.unrouted ∧
    (makeAt i q s).entries = s.entries ∧
    (makeAt i q s).banks = s.banks ∧
    (makeAt i q s).drops = s.drops ∧
    (makeAt i q s).presentation = s.presentation ∧
    (makeAt i q s).contexts = s.contexts ∧
    (makeAt i q s).profiles = s.profiles ∧
    (makeAt i q s).clientLines = s.clientLines ∧
    (makeAt i q s).board = s.board ∧
    (makeAt i q s).health = s.health ∧
    (makeAt i q s).posts = s.posts ∧
    (makeAt i q s).links = s.links ∧
    (makeAt i q s).pending = s.pending ∧
    (makeAt i q s).sup.pins = s.sup.pins ∧
    (makeAt i q s).sup.straps = s.sup.straps ∧
    (makeAt i q s).sup.frozen = s.sup.frozen ∧
    (makeAt i q s).sup.cause = s.sup.cause ∧
    (makeAt i q s).sup.note = s.sup.note ∧
    (makeAt i q s).sup.privileges = s.sup.privileges ∧
    (makeAt i q s).sup.resetPending = s.sup.resetPending ∧
    (makeAt i q s).sup.resetInput = s.sup.resetInput := by
  simp only [makeAt]
  repeat' split
  all_goals simp

@[simp] theorem foldInto_keeps (i : RecIndex) (r : Record) (count : Nat) (p : Priority) (u : Bool) (s : State) :
    (foldInto i r count p u s).time = s.time ∧
    (foldInto i r count p u s).lines = s.lines ∧
    (foldInto i r count p u s).masked = s.masked ∧
    (foldInto i r count p u s).intake = s.intake ∧
    (foldInto i r count p u s).waiting = s.waiting ∧
    (foldInto i r count p u s).lostNotices = s.lostNotices ∧
    (foldInto i r count p u s).unrouted = s.unrouted ∧
    (foldInto i r count p u s).entries = s.entries ∧
    (foldInto i r count p u s).banks = s.banks ∧
    (foldInto i r count p u s).groups = s.groups ∧
    (foldInto i r count p u s).drops = s.drops ∧
    (foldInto i r count p u s).presentation = s.presentation ∧
    (foldInto i r count p u s).contexts = s.contexts ∧
    (foldInto i r count p u s).profiles = s.profiles ∧
    (foldInto i r count p u s).clientLines = s.clientLines ∧
    (foldInto i r count p u s).board = s.board ∧
    (foldInto i r count p u s).health = s.health ∧
    (foldInto i r count p u s).posts = s.posts ∧
    (foldInto i r count p u s).sup = s.sup ∧
    (foldInto i r count p u s).links = s.links ∧
    (foldInto i r count p u s).pending = s.pending := by
  simp only [foldInto]
  repeat' split
  all_goals simp

@[simp] theorem coalesce_keeps (i : RecIndex) (r : Record) (p : Priority) (u : Bool) (s : State) :
    (coalesce i r p u s).time = s.time ∧
    (coalesce i r p u s).lines = s.lines ∧
    (coalesce i r p u s).masked = s.masked ∧
    (coalesce i r p u s).intake = s.intake ∧
    (coalesce i r p u s).waiting = s.waiting ∧
    (coalesce i r p u s).lostNotices = s.lostNotices ∧
    (coalesce i r p u s).unrouted = s.unrouted ∧
    (coalesce i r p u s).entries = s.entries ∧
    (coalesce i r p u s).banks = s.banks ∧
    (coalesce i r p u s).groups = s.groups ∧
    (coalesce i r p u s).drops = s.drops ∧
    (coalesce i r p u s).profiles = s.profiles ∧
    (coalesce i r p u s).board = s.board ∧
    (coalesce i r p u s).health = s.health ∧
    (coalesce i r p u s).sup = s.sup ∧
    (coalesce i r p u s).pending = s.pending := by
  simp only [coalesce]
  repeat' split
  all_goals simp

@[simp] theorem displace_keeps (i : RecIndex) (r : Record) (q : StoreRequest) (s : State) :
    (displace i r q s).time = s.time ∧
    (displace i r q s).masked = s.masked ∧
    (displace i r q s).waiting = s.waiting ∧
    (displace i r q s).unrouted = s.unrouted ∧
    (displace i r q s).entries = s.entries ∧
    (displace i r q s).banks = s.banks ∧
    (displace i r q s).contexts = s.contexts ∧
    (displace i r q s).profiles = s.profiles ∧
    (displace i r q s).clientLines = s.clientLines ∧
    (displace i r q s).board = s.board ∧
    (displace i r q s).health = s.health ∧
    (displace i r q s).pending = s.pending ∧
    (displace i r q s).sup.pins = s.sup.pins ∧
    (displace i r q s).sup.straps = s.sup.straps ∧
    (displace i r q s).sup.frozen = s.sup.frozen ∧
    (displace i r q s).sup.cause = s.sup.cause ∧
    (displace i r q s).sup.note = s.sup.note ∧
    (displace i r q s).sup.privileges = s.sup.privileges ∧
    (displace i r q s).sup.resetPending = s.sup.resetPending ∧
    (displace i r q s).sup.resetInput = s.sup.resetInput := by
  simp only [displace]
  repeat' split
  all_goals simp

@[simp] theorem makeOrDrop_keeps (q : StoreRequest) (s : State) :
    (makeOrDrop q s).time = s.time ∧
    (makeOrDrop q s).masked = s.masked ∧
    (makeOrDrop q s).waiting = s.waiting ∧
    (makeOrDrop q s).unrouted = s.unrouted ∧
    (makeOrDrop q s).entries = s.entries ∧
    (makeOrDrop q s).banks = s.banks ∧
    (makeOrDrop q s).profiles = s.profiles ∧
    (makeOrDrop q s).board = s.board ∧
    (makeOrDrop q s).health = s.health ∧
    (makeOrDrop q s).pending = s.pending ∧
    (makeOrDrop q s).sup.pins = s.sup.pins ∧
    (makeOrDrop q s).sup.straps = s.sup.straps ∧
    (makeOrDrop q s).sup.frozen = s.sup.frozen ∧
    (makeOrDrop q s).sup.cause = s.sup.cause ∧
    (makeOrDrop q s).sup.note = s.sup.note ∧
    (makeOrDrop q s).sup.privileges = s.sup.privileges ∧
    (makeOrDrop q s).sup.resetPending = s.sup.resetPending ∧
    (makeOrDrop q s).sup.resetInput = s.sup.resetInput := by
  simp only [makeOrDrop]
  repeat' split
  all_goals simp

@[simp] theorem routingRequest_keeps (q : StoreRequest) (s : State) :
    (routingRequest q s).time = s.time ∧
    (routingRequest q s).masked = s.masked ∧
    (routingRequest q s).waiting = s.waiting ∧
    (routingRequest q s).unrouted = s.unrouted ∧
    (routingRequest q s).entries = s.entries ∧
    (routingRequest q s).banks = s.banks ∧
    (routingRequest q s).profiles = s.profiles ∧
    (routingRequest q s).board = s.board ∧
    (routingRequest q s).health = s.health ∧
    (routingRequest q s).pending = s.pending ∧
    (routingRequest q s).sup.pins = s.sup.pins ∧
    (routingRequest q s).sup.straps = s.sup.straps ∧
    (routingRequest q s).sup.frozen = s.sup.frozen ∧
    (routingRequest q s).sup.cause = s.sup.cause ∧
    (routingRequest q s).sup.note = s.sup.note ∧
    (routingRequest q s).sup.privileges = s.sup.privileges ∧
    (routingRequest q s).sup.resetPending = s.sup.resetPending ∧
    (routingRequest q s).sup.resetInput = s.sup.resetInput := by
  simp only [routingRequest]
  repeat' split
  all_goals simp

@[simp] theorem mergeFront_keeps (i : RecIndex) (r : Record) (j : RecIndex) (o : Record) (s : State) :
    (mergeFront i r j o s).time = s.time ∧
    (mergeFront i r j o s).masked = s.masked ∧
    (mergeFront i r j o s).waiting = s.waiting ∧
    (mergeFront i r j o s).unrouted = s.unrouted ∧
    (mergeFront i r j o s).entries = s.entries ∧
    (mergeFront i r j o s).banks = s.banks ∧
    (mergeFront i r j o s).drops = s.drops ∧
    (mergeFront i r j o s).contexts = s.contexts ∧
    (mergeFront i r j o s).profiles = s.profiles ∧
    (mergeFront i r j o s).clientLines = s.clientLines ∧
    (mergeFront i r j o s).board = s.board ∧
    (mergeFront i r j o s).health = s.health ∧
    (mergeFront i r j o s).pending = s.pending ∧
    (mergeFront i r j o s).sup.pins = s.sup.pins ∧
    (mergeFront i r j o s).sup.straps = s.sup.straps ∧
    (mergeFront i r j o s).sup.frozen = s.sup.frozen ∧
    (mergeFront i r j o s).sup.cause = s.sup.cause ∧
    (mergeFront i r j o s).sup.note = s.sup.note ∧
    (mergeFront i r j o s).sup.privileges = s.sup.privileges ∧
    (mergeFront i r j o s).sup.resetPending = s.sup.resetPending ∧
    (mergeFront i r j o s).sup.resetInput = s.sup.resetInput := by
  simp only [mergeFront]
  repeat' split
  all_goals simp

@[simp] theorem placeAtFront_keeps (i : RecIndex) (r : Record) (s : State) :
    (placeAtFront i r s).time = s.time ∧
    (placeAtFront i r s).masked = s.masked ∧
    (placeAtFront i r s).waiting = s.waiting ∧
    (placeAtFront i r s).unrouted = s.unrouted ∧
    (placeAtFront i r s).entries = s.entries ∧
    (placeAtFront i r s).banks = s.banks ∧
    (placeAtFront i r s).drops = s.drops ∧
    (placeAtFront i r s).contexts = s.contexts ∧
    (placeAtFront i r s).profiles = s.profiles ∧
    (placeAtFront i r s).clientLines = s.clientLines ∧
    (placeAtFront i r s).board = s.board ∧
    (placeAtFront i r s).health = s.health ∧
    (placeAtFront i r s).pending = s.pending ∧
    (placeAtFront i r s).sup.pins = s.sup.pins ∧
    (placeAtFront i r s).sup.straps = s.sup.straps ∧
    (placeAtFront i r s).sup.frozen = s.sup.frozen ∧
    (placeAtFront i r s).sup.cause = s.sup.cause ∧
    (placeAtFront i r s).sup.note = s.sup.note ∧
    (placeAtFront i r s).sup.privileges = s.sup.privileges ∧
    (placeAtFront i r s).sup.resetPending = s.sup.resetPending ∧
    (placeAtFront i r s).sup.resetInput = s.sup.resetInput := by
  simp only [placeAtFront]
  repeat' split
  all_goals simp

@[simp] theorem returnRecord_keeps (i : RecIndex) (r : Record) (s : State) :
    (returnRecord i r s).time = s.time ∧
    (returnRecord i r s).masked = s.masked ∧
    (returnRecord i r s).waiting = s.waiting ∧
    (returnRecord i r s).unrouted = s.unrouted ∧
    (returnRecord i r s).entries = s.entries ∧
    (returnRecord i r s).banks = s.banks ∧
    (returnRecord i r s).drops = s.drops ∧
    (returnRecord i r s).contexts = s.contexts ∧
    (returnRecord i r s).profiles = s.profiles ∧
    (returnRecord i r s).clientLines = s.clientLines ∧
    (returnRecord i r s).board = s.board ∧
    (returnRecord i r s).health = s.health ∧
    (returnRecord i r s).pending = s.pending ∧
    (returnRecord i r s).sup.pins = s.sup.pins ∧
    (returnRecord i r s).sup.straps = s.sup.straps ∧
    (returnRecord i r s).sup.frozen = s.sup.frozen ∧
    (returnRecord i r s).sup.cause = s.sup.cause ∧
    (returnRecord i r s).sup.note = s.sup.note ∧
    (returnRecord i r s).sup.privileges = s.sup.privileges ∧
    (returnRecord i r s).sup.resetPending = s.sup.resetPending ∧
    (returnRecord i r s).sup.resetInput = s.sup.resetInput := by
  simp only [returnRecord]
  repeat' split
  all_goals simp

@[simp] theorem transfer_keeps (i : RecIndex) (r : Record) (f : Client) (s : State) :
    (transfer i r f s).time = s.time ∧
    (transfer i r f s).masked = s.masked ∧
    (transfer i r f s).waiting = s.waiting ∧
    (transfer i r f s).unrouted = s.unrouted ∧
    (transfer i r f s).entries = s.entries ∧
    (transfer i r f s).banks = s.banks ∧
    (transfer i r f s).drops = s.drops ∧
    (transfer i r f s).contexts = s.contexts ∧
    (transfer i r f s).profiles = s.profiles ∧
    (transfer i r f s).clientLines = s.clientLines ∧
    (transfer i r f s).board = s.board ∧
    (transfer i r f s).health = s.health ∧
    (transfer i r f s).pending = s.pending ∧
    (transfer i r f s).sup.pins = s.sup.pins ∧
    (transfer i r f s).sup.straps = s.sup.straps ∧
    (transfer i r f s).sup.frozen = s.sup.frozen ∧
    (transfer i r f s).sup.cause = s.sup.cause ∧
    (transfer i r f s).sup.note = s.sup.note ∧
    (transfer i r f s).sup.privileges = s.sup.privileges ∧
    (transfer i r f s).sup.resetPending = s.sup.resetPending ∧
    (transfer i r f s).sup.resetInput = s.sup.resetInput := by
  simp only [transfer]
  repeat' split
  all_goals simp

@[simp] theorem clearSuspended_keeps (c : Client) (s : State) :
    (clearSuspended c s).time = s.time ∧
    (clearSuspended c s).lines = s.lines ∧
    (clearSuspended c s).masked = s.masked ∧
    (clearSuspended c s).intake = s.intake ∧
    (clearSuspended c s).waiting = s.waiting ∧
    (clearSuspended c s).lostNotices = s.lostNotices ∧
    (clearSuspended c s).unrouted = s.unrouted ∧
    (clearSuspended c s).entries = s.entries ∧
    (clearSuspended c s).banks = s.banks ∧
    (clearSuspended c s).groups = s.groups ∧
    (clearSuspended c s).pool = s.pool ∧
    (clearSuspended c s).queues = s.queues ∧
    (clearSuspended c s).drops = s.drops ∧
    (clearSuspended c s).presentation = s.presentation ∧
    (clearSuspended c s).profiles = s.profiles ∧
    (clearSuspended c s).clientLines = s.clientLines ∧
    (clearSuspended c s).board = s.board ∧
    (clearSuspended c s).health = s.health ∧
    (clearSuspended c s).posts = s.posts ∧
    (clearSuspended c s).sup = s.sup ∧
    (clearSuspended c s).links = s.links ∧
    (clearSuspended c s).pending = s.pending := by
  simp only [clearSuspended]
  repeat' split
  all_goals simp

@[simp] theorem startHoldOff_keeps (c : Client) (s : State) :
    (startHoldOff c s).time = s.time ∧
    (startHoldOff c s).lines = s.lines ∧
    (startHoldOff c s).masked = s.masked ∧
    (startHoldOff c s).intake = s.intake ∧
    (startHoldOff c s).waiting = s.waiting ∧
    (startHoldOff c s).lostNotices = s.lostNotices ∧
    (startHoldOff c s).unrouted = s.unrouted ∧
    (startHoldOff c s).entries = s.entries ∧
    (startHoldOff c s).banks = s.banks ∧
    (startHoldOff c s).groups = s.groups ∧
    (startHoldOff c s).pool = s.pool ∧
    (startHoldOff c s).queues = s.queues ∧
    (startHoldOff c s).drops = s.drops ∧
    (startHoldOff c s).presentation = s.presentation ∧
    (startHoldOff c s).profiles = s.profiles ∧
    (startHoldOff c s).clientLines = s.clientLines ∧
    (startHoldOff c s).board = s.board ∧
    (startHoldOff c s).health = s.health ∧
    (startHoldOff c s).posts = s.posts ∧
    (startHoldOff c s).sup = s.sup ∧
    (startHoldOff c s).links = s.links ∧
    (startHoldOff c s).pending = s.pending := by
  simp only [startHoldOff]
  repeat' split
  all_goals simp

@[simp] theorem endHoldOff_keeps (c : Client) (s : State) :
    (endHoldOff c s).time = s.time ∧
    (endHoldOff c s).lines = s.lines ∧
    (endHoldOff c s).masked = s.masked ∧
    (endHoldOff c s).intake = s.intake ∧
    (endHoldOff c s).waiting = s.waiting ∧
    (endHoldOff c s).lostNotices = s.lostNotices ∧
    (endHoldOff c s).unrouted = s.unrouted ∧
    (endHoldOff c s).entries = s.entries ∧
    (endHoldOff c s).banks = s.banks ∧
    (endHoldOff c s).groups = s.groups ∧
    (endHoldOff c s).drops = s.drops ∧
    (endHoldOff c s).profiles = s.profiles ∧
    (endHoldOff c s).board = s.board ∧
    (endHoldOff c s).health = s.health ∧
    (endHoldOff c s).sup = s.sup ∧
    (endHoldOff c s).pending = s.pending := by
  simp only [endHoldOff]
  repeat' split
  all_goals simp

@[simp] theorem returnFlags_keeps (c : Client) (r : Record) (s : State) :
    (returnFlags c r s).time = s.time ∧
    (returnFlags c r s).lines = s.lines ∧
    (returnFlags c r s).masked = s.masked ∧
    (returnFlags c r s).intake = s.intake ∧
    (returnFlags c r s).waiting = s.waiting ∧
    (returnFlags c r s).lostNotices = s.lostNotices ∧
    (returnFlags c r s).unrouted = s.unrouted ∧
    (returnFlags c r s).entries = s.entries ∧
    (returnFlags c r s).banks = s.banks ∧
    (returnFlags c r s).groups = s.groups ∧
    (returnFlags c r s).pool = s.pool ∧
    (returnFlags c r s).queues = s.queues ∧
    (returnFlags c r s).drops = s.drops ∧
    (returnFlags c r s).presentation = s.presentation ∧
    (returnFlags c r s).contexts = s.contexts ∧
    (returnFlags c r s).profiles = s.profiles ∧
    (returnFlags c r s).clientLines = s.clientLines ∧
    (returnFlags c r s).board = s.board ∧
    (returnFlags c r s).health = s.health ∧
    (returnFlags c r s).sup = s.sup ∧
    (returnFlags c r s).links = s.links ∧
    (returnFlags c r s).pending = s.pending := by
  simp only [returnFlags]
  repeat' split
  all_goals simp

@[simp] theorem resume_keeps (c : Client) (s : State) :
    (resume c s).time = s.time ∧
    (resume c s).masked = s.masked ∧
    (resume c s).waiting = s.waiting ∧
    (resume c s).unrouted = s.unrouted ∧
    (resume c s).entries = s.entries ∧
    (resume c s).banks = s.banks ∧
    (resume c s).drops = s.drops ∧
    (resume c s).profiles = s.profiles ∧
    (resume c s).clientLines = s.clientLines ∧
    (resume c s).board = s.board ∧
    (resume c s).health = s.health ∧
    (resume c s).pending = s.pending ∧
    (resume c s).sup.pins = s.sup.pins ∧
    (resume c s).sup.straps = s.sup.straps ∧
    (resume c s).sup.frozen = s.sup.frozen ∧
    (resume c s).sup.cause = s.sup.cause ∧
    (resume c s).sup.note = s.sup.note ∧
    (resume c s).sup.privileges = s.sup.privileges ∧
    (resume c s).sup.resetPending = s.sup.resetPending ∧
    (resume c s).sup.resetInput = s.sup.resetInput := by
  simp only [resume]
  repeat' split
  all_goals simp

@[simp] theorem enterOperate_keeps (c : Client) (s : State) :
    (enterOperate c s).time = s.time ∧
    (enterOperate c s).lines = s.lines ∧
    (enterOperate c s).masked = s.masked ∧
    (enterOperate c s).intake = s.intake ∧
    (enterOperate c s).waiting = s.waiting ∧
    (enterOperate c s).lostNotices = s.lostNotices ∧
    (enterOperate c s).unrouted = s.unrouted ∧
    (enterOperate c s).entries = s.entries ∧
    (enterOperate c s).banks = s.banks ∧
    (enterOperate c s).groups = s.groups ∧
    (enterOperate c s).pool = s.pool ∧
    (enterOperate c s).queues = s.queues ∧
    (enterOperate c s).drops = s.drops ∧
    (enterOperate c s).presentation = s.presentation ∧
    (enterOperate c s).profiles = s.profiles ∧
    (enterOperate c s).clientLines = s.clientLines ∧
    (enterOperate c s).board = s.board ∧
    (enterOperate c s).health = s.health ∧
    (enterOperate c s).posts = s.posts ∧
    (enterOperate c s).sup = s.sup ∧
    (enterOperate c s).links = s.links ∧
    (enterOperate c s).pending = s.pending := by
  simp only [enterOperate]
  repeat' split
  all_goals simp

@[simp] theorem exchangeToOperate_keeps (c : Client) (s : State) :
    (exchangeToOperate c s).time = s.time ∧
    (exchangeToOperate c s).masked = s.masked ∧
    (exchangeToOperate c s).waiting = s.waiting ∧
    (exchangeToOperate c s).unrouted = s.unrouted ∧
    (exchangeToOperate c s).entries = s.entries ∧
    (exchangeToOperate c s).banks = s.banks ∧
    (exchangeToOperate c s).drops = s.drops ∧
    (exchangeToOperate c s).profiles = s.profiles ∧
    (exchangeToOperate c s).board = s.board ∧
    (exchangeToOperate c s).health = s.health ∧
    (exchangeToOperate c s).pending = s.pending ∧
    (exchangeToOperate c s).sup.pins = s.sup.pins ∧
    (exchangeToOperate c s).sup.straps = s.sup.straps ∧
    (exchangeToOperate c s).sup.frozen = s.sup.frozen ∧
    (exchangeToOperate c s).sup.cause = s.sup.cause ∧
    (exchangeToOperate c s).sup.note = s.sup.note ∧
    (exchangeToOperate c s).sup.privileges = s.sup.privileges ∧
    (exchangeToOperate c s).sup.resetPending = s.sup.resetPending ∧
    (exchangeToOperate c s).sup.resetInput = s.sup.resetInput := by
  simp only [exchangeToOperate]
  repeat' split
  all_goals simp

@[simp] theorem applyScore_keeps (c : Client) (score : Nat) (s : State) :
    (applyScore c score s).time = s.time ∧
    (applyScore c score s).lines = s.lines ∧
    (applyScore c score s).masked = s.masked ∧
    (applyScore c score s).waiting = s.waiting ∧
    (applyScore c score s).unrouted = s.unrouted ∧
    (applyScore c score s).entries = s.entries ∧
    (applyScore c score s).banks = s.banks ∧
    (applyScore c score s).groups = s.groups ∧
    (applyScore c score s).drops = s.drops ∧
    (applyScore c score s).contexts = s.contexts ∧
    (applyScore c score s).profiles = s.profiles ∧
    (applyScore c score s).clientLines = s.clientLines ∧
    (applyScore c score s).board = s.board ∧
    (applyScore c score s).sup = s.sup ∧
    (applyScore c score s).pending = s.pending := by
  simp only [applyScore]
  repeat' split
  all_goals simp

@[simp] theorem lowerScore_keeps (c : Client) (s : State) :
    (lowerScore c s).time = s.time ∧
    (lowerScore c s).lines = s.lines ∧
    (lowerScore c s).masked = s.masked ∧
    (lowerScore c s).waiting = s.waiting ∧
    (lowerScore c s).unrouted = s.unrouted ∧
    (lowerScore c s).entries = s.entries ∧
    (lowerScore c s).banks = s.banks ∧
    (lowerScore c s).groups = s.groups ∧
    (lowerScore c s).drops = s.drops ∧
    (lowerScore c s).contexts = s.contexts ∧
    (lowerScore c s).profiles = s.profiles ∧
    (lowerScore c s).clientLines = s.clientLines ∧
    (lowerScore c s).board = s.board ∧
    (lowerScore c s).sup = s.sup ∧
    (lowerScore c s).pending = s.pending := by
  simp only [lowerScore]
  repeat' split
  all_goals simp

@[simp] theorem beginDetach_keeps (c : Client) (s : State) :
    (beginDetach c s).time = s.time ∧
    (beginDetach c s).lines = s.lines ∧
    (beginDetach c s).masked = s.masked ∧
    (beginDetach c s).waiting = s.waiting ∧
    (beginDetach c s).unrouted = s.unrouted ∧
    (beginDetach c s).entries = s.entries ∧
    (beginDetach c s).banks = s.banks ∧
    (beginDetach c s).groups = s.groups ∧
    (beginDetach c s).pool = s.pool ∧
    (beginDetach c s).queues = s.queues ∧
    (beginDetach c s).drops = s.drops ∧
    (beginDetach c s).presentation = s.presentation ∧
    (beginDetach c s).contexts = s.contexts ∧
    (beginDetach c s).profiles = s.profiles ∧
    (beginDetach c s).clientLines = s.clientLines ∧
    (beginDetach c s).board = s.board ∧
    (beginDetach c s).posts = s.posts ∧
    (beginDetach c s).sup = s.sup ∧
    (beginDetach c s).links = s.links ∧
    (beginDetach c s).pending = s.pending := by
  simp only [beginDetach]
  repeat' split
  all_goals simp

@[simp] theorem raiseScore_keeps (c : Client) (k : Nat) (s : State) :
    (raiseScore c k s).1.time = s.time ∧
    (raiseScore c k s).1.lines = s.lines ∧
    (raiseScore c k s).1.masked = s.masked ∧
    (raiseScore c k s).1.waiting = s.waiting ∧
    (raiseScore c k s).1.unrouted = s.unrouted ∧
    (raiseScore c k s).1.entries = s.entries ∧
    (raiseScore c k s).1.banks = s.banks ∧
    (raiseScore c k s).1.groups = s.groups ∧
    (raiseScore c k s).1.drops = s.drops ∧
    (raiseScore c k s).1.contexts = s.contexts ∧
    (raiseScore c k s).1.profiles = s.profiles ∧
    (raiseScore c k s).1.clientLines = s.clientLines ∧
    (raiseScore c k s).1.board = s.board ∧
    (raiseScore c k s).1.sup = s.sup ∧
    (raiseScore c k s).1.pending = s.pending := by
  simp only [raiseScore]
  repeat' split
  all_goals simp

@[simp] theorem dropRecord_keeps (c : Client) (i : RecIndex) (r : Record) (s : State) :
    (dropRecord c i r s).time = s.time ∧
    (dropRecord c i r s).masked = s.masked ∧
    (dropRecord c i r s).waiting = s.waiting ∧
    (dropRecord c i r s).unrouted = s.unrouted ∧
    (dropRecord c i r s).entries = s.entries ∧
    (dropRecord c i r s).banks = s.banks ∧
    (dropRecord c i r s).contexts = s.contexts ∧
    (dropRecord c i r s).profiles = s.profiles ∧
    (dropRecord c i r s).clientLines = s.clientLines ∧
    (dropRecord c i r s).board = s.board ∧
    (dropRecord c i r s).health = s.health ∧
    (dropRecord c i r s).pending = s.pending ∧
    (dropRecord c i r s).sup.pins = s.sup.pins ∧
    (dropRecord c i r s).sup.straps = s.sup.straps ∧
    (dropRecord c i r s).sup.frozen = s.sup.frozen ∧
    (dropRecord c i r s).sup.cause = s.sup.cause ∧
    (dropRecord c i r s).sup.note = s.sup.note ∧
    (dropRecord c i r s).sup.privileges = s.sup.privileges ∧
    (dropRecord c i r s).sup.resetPending = s.sup.resetPending ∧
    (dropRecord c i r s).sup.resetInput = s.sup.resetInput := by
  simp only [dropRecord]
  repeat' split
  all_goals simp

@[simp] theorem disposeRecord_keeps (c : Client) (i : RecIndex) (r : Record) (p : State × List Client) :
    (disposeRecord c i r p).1.time = p.1.time ∧
    (disposeRecord c i r p).1.masked = p.1.masked ∧
    (disposeRecord c i r p).1.waiting = p.1.waiting ∧
    (disposeRecord c i r p).1.unrouted = p.1.unrouted ∧
    (disposeRecord c i r p).1.entries = p.1.entries ∧
    (disposeRecord c i r p).1.banks = p.1.banks ∧
    (disposeRecord c i r p).1.contexts = p.1.contexts ∧
    (disposeRecord c i r p).1.profiles = p.1.profiles ∧
    (disposeRecord c i r p).1.clientLines = p.1.clientLines ∧
    (disposeRecord c i r p).1.board = p.1.board ∧
    (disposeRecord c i r p).1.health = p.1.health ∧
    (disposeRecord c i r p).1.pending = p.1.pending ∧
    (disposeRecord c i r p).1.sup.pins = p.1.sup.pins ∧
    (disposeRecord c i r p).1.sup.straps = p.1.sup.straps ∧
    (disposeRecord c i r p).1.sup.frozen = p.1.sup.frozen ∧
    (disposeRecord c i r p).1.sup.cause = p.1.sup.cause ∧
    (disposeRecord c i r p).1.sup.note = p.1.sup.note ∧
    (disposeRecord c i r p).1.sup.privileges = p.1.sup.privileges ∧
    (disposeRecord c i r p).1.sup.resetPending = p.1.sup.resetPending ∧
    (disposeRecord c i r p).1.sup.resetInput = p.1.sup.resetInput := by
  simp only [disposeRecord]
  repeat' split
  all_goals simp

@[simp] theorem disposeAt_keeps (c : Client) (p : State × List Client) (i : RecIndex) :
    (disposeAt c p i).1.time = p.1.time ∧
    (disposeAt c p i).1.masked = p.1.masked ∧
    (disposeAt c p i).1.waiting = p.1.waiting ∧
    (disposeAt c p i).1.unrouted = p.1.unrouted ∧
    (disposeAt c p i).1.entries = p.1.entries ∧
    (disposeAt c p i).1.banks = p.1.banks ∧
    (disposeAt c p i).1.contexts = p.1.contexts ∧
    (disposeAt c p i).1.profiles = p.1.profiles ∧
    (disposeAt c p i).1.clientLines = p.1.clientLines ∧
    (disposeAt c p i).1.board = p.1.board ∧
    (disposeAt c p i).1.health = p.1.health ∧
    (disposeAt c p i).1.pending = p.1.pending ∧
    (disposeAt c p i).1.sup.pins = p.1.sup.pins ∧
    (disposeAt c p i).1.sup.straps = p.1.sup.straps ∧
    (disposeAt c p i).1.sup.frozen = p.1.sup.frozen ∧
    (disposeAt c p i).1.sup.cause = p.1.sup.cause ∧
    (disposeAt c p i).1.sup.note = p.1.sup.note ∧
    (disposeAt c p i).1.sup.privileges = p.1.sup.privileges ∧
    (disposeAt c p i).1.sup.resetPending = p.1.sup.resetPending ∧
    (disposeAt c p i).1.sup.resetInput = p.1.sup.resetInput := by
  simp only [disposeAt]
  repeat' split
  all_goals simp

@[simp] theorem examineFallbacks_keeps (fs : List Client) (s : State) :
    (examineFallbacks fs s).time = s.time ∧
    (examineFallbacks fs s).lines = s.lines ∧
    (examineFallbacks fs s).masked = s.masked ∧
    (examineFallbacks fs s).intake = s.intake ∧
    (examineFallbacks fs s).waiting = s.waiting ∧
    (examineFallbacks fs s).lostNotices = s.lostNotices ∧
    (examineFallbacks fs s).unrouted = s.unrouted ∧
    (examineFallbacks fs s).entries = s.entries ∧
    (examineFallbacks fs s).banks = s.banks ∧
    (examineFallbacks fs s).groups = s.groups ∧
    (examineFallbacks fs s).drops = s.drops ∧
    (examineFallbacks fs s).profiles = s.profiles ∧
    (examineFallbacks fs s).board = s.board ∧
    (examineFallbacks fs s).health = s.health ∧
    (examineFallbacks fs s).sup = s.sup ∧
    (examineFallbacks fs s).pending = s.pending := by
  unfold examineFallbacks
  exact ⟨(foldl_keeps _ (fun u : State => u.time) (by intros; simp) _ _).trans (by simp),
    (foldl_keeps _ (fun u : State => u.lines) (by intros; simp) _ _).trans (by simp),
    (foldl_keeps _ (fun u : State => u.masked) (by intros; simp) _ _).trans (by simp),
    (foldl_keeps _ (fun u : State => u.intake) (by intros; simp) _ _).trans (by simp),
    (foldl_keeps _ (fun u : State => u.waiting) (by intros; simp) _ _).trans (by simp),
    (foldl_keeps _ (fun u : State => u.lostNotices) (by intros; simp) _ _).trans (by simp),
    (foldl_keeps _ (fun u : State => u.unrouted) (by intros; simp) _ _).trans (by simp),
    (foldl_keeps _ (fun u : State => u.entries) (by intros; simp) _ _).trans (by simp),
    (foldl_keeps _ (fun u : State => u.banks) (by intros; simp) _ _).trans (by simp),
    (foldl_keeps _ (fun u : State => u.groups) (by intros; simp) _ _).trans (by simp),
    (foldl_keeps _ (fun u : State => u.drops) (by intros; simp) _ _).trans (by simp),
    (foldl_keeps _ (fun u : State => u.profiles) (by intros; simp) _ _).trans (by simp),
    (foldl_keeps _ (fun u : State => u.board) (by intros; simp) _ _).trans (by simp),
    (foldl_keeps _ (fun u : State => u.health) (by intros; simp) _ _).trans (by simp),
    (foldl_keeps _ (fun u : State => u.sup) (by intros; simp) _ _).trans (by simp),
    (foldl_keeps _ (fun u : State => u.pending) (by intros; simp) _ _).trans (by simp)⟩

@[simp] theorem disposeAll_keeps (c : Client) (s : State) :
    (disposeAll c s).1.time = s.time ∧
    (disposeAll c s).1.masked = s.masked ∧
    (disposeAll c s).1.waiting = s.waiting ∧
    (disposeAll c s).1.unrouted = s.unrouted ∧
    (disposeAll c s).1.entries = s.entries ∧
    (disposeAll c s).1.banks = s.banks ∧
    (disposeAll c s).1.contexts = s.contexts ∧
    (disposeAll c s).1.profiles = s.profiles ∧
    (disposeAll c s).1.board = s.board ∧
    (disposeAll c s).1.health = s.health ∧
    (disposeAll c s).1.pending = s.pending ∧
    (disposeAll c s).1.sup.pins = s.sup.pins ∧
    (disposeAll c s).1.sup.straps = s.sup.straps ∧
    (disposeAll c s).1.sup.frozen = s.sup.frozen ∧
    (disposeAll c s).1.sup.cause = s.sup.cause ∧
    (disposeAll c s).1.sup.note = s.sup.note ∧
    (disposeAll c s).1.sup.privileges = s.sup.privileges ∧
    (disposeAll c s).1.sup.resetPending = s.sup.resetPending ∧
    (disposeAll c s).1.sup.resetInput = s.sup.resetInput := by
  unfold disposeAll
  exact ⟨(foldl_keeps _ (fun u : State × List Client => u.1.time) (by intros; simp) _ _).trans (by simp),
    (foldl_keeps _ (fun u : State × List Client => u.1.masked) (by intros; simp) _ _).trans (by simp),
    (foldl_keeps _ (fun u : State × List Client => u.1.waiting) (by intros; simp) _ _).trans (by simp),
    (foldl_keeps _ (fun u : State × List Client => u.1.unrouted) (by intros; simp) _ _).trans (by simp),
    (foldl_keeps _ (fun u : State × List Client => u.1.entries) (by intros; simp) _ _).trans (by simp),
    (foldl_keeps _ (fun u : State × List Client => u.1.banks) (by intros; simp) _ _).trans (by simp),
    (foldl_keeps _ (fun u : State × List Client => u.1.contexts) (by intros; simp) _ _).trans (by simp),
    (foldl_keeps _ (fun u : State × List Client => u.1.profiles) (by intros; simp) _ _).trans (by simp),
    (foldl_keeps _ (fun u : State × List Client => u.1.board) (by intros; simp) _ _).trans (by simp),
    (foldl_keeps _ (fun u : State × List Client => u.1.health) (by intros; simp) _ _).trans (by simp),
    (foldl_keeps _ (fun u : State × List Client => u.1.pending) (by intros; simp) _ _).trans (by simp),
    (foldl_keeps _ (fun u : State × List Client => u.1.sup.pins) (by intros; simp) _ _).trans (by simp),
    (foldl_keeps _ (fun u : State × List Client => u.1.sup.straps) (by intros; simp) _ _).trans (by simp),
    (foldl_keeps _ (fun u : State × List Client => u.1.sup.frozen) (by intros; simp) _ _).trans (by simp),
    (foldl_keeps _ (fun u : State × List Client => u.1.sup.cause) (by intros; simp) _ _).trans (by simp),
    (foldl_keeps _ (fun u : State × List Client => u.1.sup.note) (by intros; simp) _ _).trans (by simp),
    (foldl_keeps _ (fun u : State × List Client => u.1.sup.privileges) (by intros; simp) _ _).trans (by simp),
    (foldl_keeps _ (fun u : State × List Client => u.1.sup.resetPending) (by intros; simp) _ _).trans (by simp),
    (foldl_keeps _ (fun u : State × List Client => u.1.sup.resetInput) (by intros; simp) _ _).trans (by simp)⟩

@[simp] theorem clearDetached_keeps (c : Client) (s : State) :
    (clearDetached c s).time = s.time ∧
    (clearDetached c s).lines = s.lines ∧
    (clearDetached c s).masked = s.masked ∧
    (clearDetached c s).intake = s.intake ∧
    (clearDetached c s).waiting = s.waiting ∧
    (clearDetached c s).lostNotices = s.lostNotices ∧
    (clearDetached c s).unrouted = s.unrouted ∧
    (clearDetached c s).entries = s.entries ∧
    (clearDetached c s).banks = s.banks ∧
    (clearDetached c s).groups = s.groups ∧
    (clearDetached c s).pool = s.pool ∧
    (clearDetached c s).queues = s.queues ∧
    (clearDetached c s).drops = s.drops ∧
    (clearDetached c s).profiles = s.profiles ∧
    (clearDetached c s).clientLines = s.clientLines ∧
    (clearDetached c s).board = s.board ∧
    (clearDetached c s).health = s.health ∧
    (clearDetached c s).sup = s.sup ∧
    (clearDetached c s).links = s.links ∧
    (clearDetached c s).pending = s.pending := by
  simp only [clearDetached]
  repeat' split
  all_goals simp

@[simp] theorem finishDetach_keeps (c : Client) (s : State) :
    (finishDetach c s).time = s.time ∧
    (finishDetach c s).masked = s.masked ∧
    (finishDetach c s).waiting = s.waiting ∧
    (finishDetach c s).unrouted = s.unrouted ∧
    (finishDetach c s).entries = s.entries ∧
    (finishDetach c s).banks = s.banks ∧
    (finishDetach c s).profiles = s.profiles ∧
    (finishDetach c s).board = s.board ∧
    (finishDetach c s).health = s.health ∧
    (finishDetach c s).pending = s.pending ∧
    (finishDetach c s).sup.pins = s.sup.pins ∧
    (finishDetach c s).sup.straps = s.sup.straps ∧
    (finishDetach c s).sup.frozen = s.sup.frozen ∧
    (finishDetach c s).sup.cause = s.sup.cause ∧
    (finishDetach c s).sup.note = s.sup.note ∧
    (finishDetach c s).sup.privileges = s.sup.privileges ∧
    (finishDetach c s).sup.resetPending = s.sup.resetPending ∧
    (finishDetach c s).sup.resetInput = s.sup.resetInput := by
  simp only [finishDetach]
  repeat' split
  all_goals simp

@[simp] theorem detach_keeps (c : Client) (s : State) :
    (detach c s).time = s.time ∧
    (detach c s).masked = s.masked ∧
    (detach c s).waiting = s.waiting ∧
    (detach c s).unrouted = s.unrouted ∧
    (detach c s).entries = s.entries ∧
    (detach c s).banks = s.banks ∧
    (detach c s).profiles = s.profiles ∧
    (detach c s).board = s.board ∧
    (detach c s).pending = s.pending ∧
    (detach c s).sup.pins = s.sup.pins ∧
    (detach c s).sup.straps = s.sup.straps ∧
    (detach c s).sup.frozen = s.sup.frozen ∧
    (detach c s).sup.cause = s.sup.cause ∧
    (detach c s).sup.note = s.sup.note ∧
    (detach c s).sup.privileges = s.sup.privileges ∧
    (detach c s).sup.resetPending = s.sup.resetPending ∧
    (detach c s).sup.resetInput = s.sup.resetInput := by
  simp only [detach]
  repeat' split
  all_goals simp

@[simp] theorem chargeScore_keeps (c : Client) (k : Nat) (s : State) :
    (chargeScore c k s).time = s.time ∧
    (chargeScore c k s).masked = s.masked ∧
    (chargeScore c k s).waiting = s.waiting ∧
    (chargeScore c k s).unrouted = s.unrouted ∧
    (chargeScore c k s).entries = s.entries ∧
    (chargeScore c k s).banks = s.banks ∧
    (chargeScore c k s).profiles = s.profiles ∧
    (chargeScore c k s).board = s.board ∧
    (chargeScore c k s).pending = s.pending ∧
    (chargeScore c k s).sup.pins = s.sup.pins ∧
    (chargeScore c k s).sup.straps = s.sup.straps ∧
    (chargeScore c k s).sup.frozen = s.sup.frozen ∧
    (chargeScore c k s).sup.cause = s.sup.cause ∧
    (chargeScore c k s).sup.note = s.sup.note ∧
    (chargeScore c k s).sup.privileges = s.sup.privileges ∧
    (chargeScore c k s).sup.resetPending = s.sup.resetPending ∧
    (chargeScore c k s).sup.resetInput = s.sup.resetInput := by
  simp only [chargeScore]
  repeat' split
  all_goals simp

@[simp] theorem completeRejoin_keeps (c : Client) (s : State) :
    (completeRejoin c s).time = s.time ∧
    (completeRejoin c s).lines = s.lines ∧
    (completeRejoin c s).masked = s.masked ∧
    (completeRejoin c s).waiting = s.waiting ∧
    (completeRejoin c s).unrouted = s.unrouted ∧
    (completeRejoin c s).entries = s.entries ∧
    (completeRejoin c s).banks = s.banks ∧
    (completeRejoin c s).groups = s.groups ∧
    (completeRejoin c s).drops = s.drops ∧
    (completeRejoin c s).profiles = s.profiles ∧
    (completeRejoin c s).board = s.board ∧
    (completeRejoin c s).sup = s.sup ∧
    (completeRejoin c s).pending = s.pending := by
  simp only [completeRejoin]
  repeat' split
  all_goals simp

@[simp] theorem startPulse_keeps (c : Client) (s : State) :
    (startPulse c s).time = s.time ∧
    (startPulse c s).lines = s.lines ∧
    (startPulse c s).masked = s.masked ∧
    (startPulse c s).intake = s.intake ∧
    (startPulse c s).waiting = s.waiting ∧
    (startPulse c s).lostNotices = s.lostNotices ∧
    (startPulse c s).unrouted = s.unrouted ∧
    (startPulse c s).entries = s.entries ∧
    (startPulse c s).banks = s.banks ∧
    (startPulse c s).groups = s.groups ∧
    (startPulse c s).pool = s.pool ∧
    (startPulse c s).queues = s.queues ∧
    (startPulse c s).drops = s.drops ∧
    (startPulse c s).presentation = s.presentation ∧
    (startPulse c s).contexts = s.contexts ∧
    (startPulse c s).profiles = s.profiles ∧
    (startPulse c s).board = s.board ∧
    (startPulse c s).health = s.health ∧
    (startPulse c s).posts = s.posts ∧
    (startPulse c s).sup = s.sup ∧
    (startPulse c s).links = s.links ∧
    (startPulse c s).pending = s.pending := by
  simp only [startPulse]
  repeat' split
  all_goals simp

@[simp] theorem flushLink_keeps (c : Client) (s : State) :
    (flushLink c s).time = s.time ∧
    (flushLink c s).lines = s.lines ∧
    (flushLink c s).masked = s.masked ∧
    (flushLink c s).intake = s.intake ∧
    (flushLink c s).waiting = s.waiting ∧
    (flushLink c s).lostNotices = s.lostNotices ∧
    (flushLink c s).unrouted = s.unrouted ∧
    (flushLink c s).entries = s.entries ∧
    (flushLink c s).banks = s.banks ∧
    (flushLink c s).groups = s.groups ∧
    (flushLink c s).pool = s.pool ∧
    (flushLink c s).queues = s.queues ∧
    (flushLink c s).drops = s.drops ∧
    (flushLink c s).presentation = s.presentation ∧
    (flushLink c s).contexts = s.contexts ∧
    (flushLink c s).profiles = s.profiles ∧
    (flushLink c s).clientLines = s.clientLines ∧
    (flushLink c s).board = s.board ∧
    (flushLink c s).health = s.health ∧
    (flushLink c s).posts = s.posts ∧
    (flushLink c s).sup = s.sup ∧
    (flushLink c s).pending = s.pending := by
  simp only [flushLink]
  repeat' split
  all_goals simp

@[simp] theorem clearReady_keeps (c : Client) (s : State) :
    (clearReady c s).time = s.time ∧
    (clearReady c s).lines = s.lines ∧
    (clearReady c s).masked = s.masked ∧
    (clearReady c s).intake = s.intake ∧
    (clearReady c s).waiting = s.waiting ∧
    (clearReady c s).lostNotices = s.lostNotices ∧
    (clearReady c s).unrouted = s.unrouted ∧
    (clearReady c s).entries = s.entries ∧
    (clearReady c s).banks = s.banks ∧
    (clearReady c s).groups = s.groups ∧
    (clearReady c s).pool = s.pool ∧
    (clearReady c s).queues = s.queues ∧
    (clearReady c s).drops = s.drops ∧
    (clearReady c s).contexts = s.contexts ∧
    (clearReady c s).profiles = s.profiles ∧
    (clearReady c s).clientLines = s.clientLines ∧
    (clearReady c s).board = s.board ∧
    (clearReady c s).health = s.health ∧
    (clearReady c s).posts = s.posts ∧
    (clearReady c s).sup = s.sup ∧
    (clearReady c s).links = s.links ∧
    (clearReady c s).pending = s.pending := by
  simp only [clearReady]
  repeat' split
  all_goals simp

@[simp] theorem contextsToDefaults_keeps (c : Client) (s : State) :
    (contextsToDefaults c s).time = s.time ∧
    (contextsToDefaults c s).lines = s.lines ∧
    (contextsToDefaults c s).masked = s.masked ∧
    (contextsToDefaults c s).intake = s.intake ∧
    (contextsToDefaults c s).lostNotices = s.lostNotices ∧
    (contextsToDefaults c s).unrouted = s.unrouted ∧
    (contextsToDefaults c s).entries = s.entries ∧
    (contextsToDefaults c s).banks = s.banks ∧
    (contextsToDefaults c s).groups = s.groups ∧
    (contextsToDefaults c s).pool = s.pool ∧
    (contextsToDefaults c s).queues = s.queues ∧
    (contextsToDefaults c s).drops = s.drops ∧
    (contextsToDefaults c s).presentation = s.presentation ∧
    (contextsToDefaults c s).profiles = s.profiles ∧
    (contextsToDefaults c s).clientLines = s.clientLines ∧
    (contextsToDefaults c s).board = s.board ∧
    (contextsToDefaults c s).health = s.health ∧
    (contextsToDefaults c s).posts = s.posts ∧
    (contextsToDefaults c s).sup = s.sup ∧
    (contextsToDefaults c s).pending = s.pending := by
  simp only [contextsToDefaults]
  repeat' split
  all_goals simp

@[simp] theorem returnHeld_keeps (c : Client) (st : RecState) (s : State) :
    (returnHeld c st s).time = s.time ∧
    (returnHeld c st s).masked = s.masked ∧
    (returnHeld c st s).waiting = s.waiting ∧
    (returnHeld c st s).unrouted = s.unrouted ∧
    (returnHeld c st s).entries = s.entries ∧
    (returnHeld c st s).banks = s.banks ∧
    (returnHeld c st s).drops = s.drops ∧
    (returnHeld c st s).contexts = s.contexts ∧
    (returnHeld c st s).profiles = s.profiles ∧
    (returnHeld c st s).clientLines = s.clientLines ∧
    (returnHeld c st s).board = s.board ∧
    (returnHeld c st s).health = s.health ∧
    (returnHeld c st s).pending = s.pending ∧
    (returnHeld c st s).sup.pins = s.sup.pins ∧
    (returnHeld c st s).sup.straps = s.sup.straps ∧
    (returnHeld c st s).sup.frozen = s.sup.frozen ∧
    (returnHeld c st s).sup.cause = s.sup.cause ∧
    (returnHeld c st s).sup.note = s.sup.note ∧
    (returnHeld c st s).sup.privileges = s.sup.privileges ∧
    (returnHeld c st s).sup.resetPending = s.sup.resetPending ∧
    (returnHeld c st s).sup.resetInput = s.sup.resetInput := by
  simp only [returnHeld]
  repeat' split
  all_goals simp

@[simp] theorem freeSignal_keeps (c : Client) (s : State) (i : RecIndex) :
    (freeSignal c s i).time = s.time ∧
    (freeSignal c s i).masked = s.masked ∧
    (freeSignal c s i).waiting = s.waiting ∧
    (freeSignal c s i).unrouted = s.unrouted ∧
    (freeSignal c s i).entries = s.entries ∧
    (freeSignal c s i).banks = s.banks ∧
    (freeSignal c s i).drops = s.drops ∧
    (freeSignal c s i).contexts = s.contexts ∧
    (freeSignal c s i).profiles = s.profiles ∧
    (freeSignal c s i).clientLines = s.clientLines ∧
    (freeSignal c s i).board = s.board ∧
    (freeSignal c s i).health = s.health ∧
    (freeSignal c s i).pending = s.pending ∧
    (freeSignal c s i).sup.pins = s.sup.pins ∧
    (freeSignal c s i).sup.straps = s.sup.straps ∧
    (freeSignal c s i).sup.frozen = s.sup.frozen ∧
    (freeSignal c s i).sup.cause = s.sup.cause ∧
    (freeSignal c s i).sup.note = s.sup.note ∧
    (freeSignal c s i).sup.privileges = s.sup.privileges ∧
    (freeSignal c s i).sup.resetPending = s.sup.resetPending ∧
    (freeSignal c s i).sup.resetInput = s.sup.resetInput := by
  simp only [freeSignal]
  repeat' split
  all_goals simp

@[simp] theorem clearSignals_keeps (c : Client) (s : State) :
    (clearSignals c s).time = s.time ∧
    (clearSignals c s).masked = s.masked ∧
    (clearSignals c s).waiting = s.waiting ∧
    (clearSignals c s).unrouted = s.unrouted ∧
    (clearSignals c s).entries = s.entries ∧
    (clearSignals c s).banks = s.banks ∧
    (clearSignals c s).drops = s.drops ∧
    (clearSignals c s).contexts = s.contexts ∧
    (clearSignals c s).profiles = s.profiles ∧
    (clearSignals c s).clientLines = s.clientLines ∧
    (clearSignals c s).board = s.board ∧
    (clearSignals c s).health = s.health ∧
    (clearSignals c s).pending = s.pending ∧
    (clearSignals c s).sup.pins = s.sup.pins ∧
    (clearSignals c s).sup.straps = s.sup.straps ∧
    (clearSignals c s).sup.frozen = s.sup.frozen ∧
    (clearSignals c s).sup.cause = s.sup.cause ∧
    (clearSignals c s).sup.note = s.sup.note ∧
    (clearSignals c s).sup.privileges = s.sup.privileges ∧
    (clearSignals c s).sup.resetPending = s.sup.resetPending ∧
    (clearSignals c s).sup.resetInput = s.sup.resetInput := by
  unfold clearSignals
  exact ⟨(foldl_keeps _ (fun u : State => u.time) (by intros; simp) _ _).trans (by simp),
    (foldl_keeps _ (fun u : State => u.masked) (by intros; simp) _ _).trans (by simp),
    (foldl_keeps _ (fun u : State => u.waiting) (by intros; simp) _ _).trans (by simp),
    (foldl_keeps _ (fun u : State => u.unrouted) (by intros; simp) _ _).trans (by simp),
    (foldl_keeps _ (fun u : State => u.entries) (by intros; simp) _ _).trans (by simp),
    (foldl_keeps _ (fun u : State => u.banks) (by intros; simp) _ _).trans (by simp),
    (foldl_keeps _ (fun u : State => u.drops) (by intros; simp) _ _).trans (by simp),
    (foldl_keeps _ (fun u : State => u.contexts) (by intros; simp) _ _).trans (by simp),
    (foldl_keeps _ (fun u : State => u.profiles) (by intros; simp) _ _).trans (by simp),
    (foldl_keeps _ (fun u : State => u.clientLines) (by intros; simp) _ _).trans (by simp),
    (foldl_keeps _ (fun u : State => u.board) (by intros; simp) _ _).trans (by simp),
    (foldl_keeps _ (fun u : State => u.health) (by intros; simp) _ _).trans (by simp),
    (foldl_keeps _ (fun u : State => u.pending) (by intros; simp) _ _).trans (by simp),
    (foldl_keeps _ (fun u : State => u.sup.pins) (by intros; simp) _ _).trans (by simp),
    (foldl_keeps _ (fun u : State => u.sup.straps) (by intros; simp) _ _).trans (by simp),
    (foldl_keeps _ (fun u : State => u.sup.frozen) (by intros; simp) _ _).trans (by simp),
    (foldl_keeps _ (fun u : State => u.sup.cause) (by intros; simp) _ _).trans (by simp),
    (foldl_keeps _ (fun u : State => u.sup.note) (by intros; simp) _ _).trans (by simp),
    (foldl_keeps _ (fun u : State => u.sup.privileges) (by intros; simp) _ _).trans (by simp),
    (foldl_keeps _ (fun u : State => u.sup.resetPending) (by intros; simp) _ _).trans (by simp),
    (foldl_keeps _ (fun u : State => u.sup.resetInput) (by intros; simp) _ _).trans (by simp)⟩

@[simp] theorem settleOwnSlot_keeps (c : Client) (s : State) (n : SlotNo) :
    (settleOwnSlot c s n).time = s.time ∧
    (settleOwnSlot c s n).masked = s.masked ∧
    (settleOwnSlot c s n).waiting = s.waiting ∧
    (settleOwnSlot c s n).unrouted = s.unrouted ∧
    (settleOwnSlot c s n).entries = s.entries ∧
    (settleOwnSlot c s n).banks = s.banks ∧
    (settleOwnSlot c s n).drops = s.drops ∧
    (settleOwnSlot c s n).contexts = s.contexts ∧
    (settleOwnSlot c s n).profiles = s.profiles ∧
    (settleOwnSlot c s n).clientLines = s.clientLines ∧
    (settleOwnSlot c s n).board = s.board ∧
    (settleOwnSlot c s n).health = s.health ∧
    (settleOwnSlot c s n).pending = s.pending ∧
    (settleOwnSlot c s n).sup.pins = s.sup.pins ∧
    (settleOwnSlot c s n).sup.straps = s.sup.straps ∧
    (settleOwnSlot c s n).sup.frozen = s.sup.frozen ∧
    (settleOwnSlot c s n).sup.cause = s.sup.cause ∧
    (settleOwnSlot c s n).sup.note = s.sup.note ∧
    (settleOwnSlot c s n).sup.privileges = s.sup.privileges ∧
    (settleOwnSlot c s n).sup.resetPending = s.sup.resetPending ∧
    (settleOwnSlot c s n).sup.resetInput = s.sup.resetInput := by
  simp only [settleOwnSlot]
  repeat' split
  all_goals simp

@[simp] theorem settleOwnSlots_keeps (c : Client) (s : State) :
    (settleOwnSlots c s).time = s.time ∧
    (settleOwnSlots c s).masked = s.masked ∧
    (settleOwnSlots c s).waiting = s.waiting ∧
    (settleOwnSlots c s).unrouted = s.unrouted ∧
    (settleOwnSlots c s).entries = s.entries ∧
    (settleOwnSlots c s).banks = s.banks ∧
    (settleOwnSlots c s).drops = s.drops ∧
    (settleOwnSlots c s).contexts = s.contexts ∧
    (settleOwnSlots c s).profiles = s.profiles ∧
    (settleOwnSlots c s).clientLines = s.clientLines ∧
    (settleOwnSlots c s).board = s.board ∧
    (settleOwnSlots c s).health = s.health ∧
    (settleOwnSlots c s).pending = s.pending ∧
    (settleOwnSlots c s).sup.pins = s.sup.pins ∧
    (settleOwnSlots c s).sup.straps = s.sup.straps ∧
    (settleOwnSlots c s).sup.frozen = s.sup.frozen ∧
    (settleOwnSlots c s).sup.cause = s.sup.cause ∧
    (settleOwnSlots c s).sup.note = s.sup.note ∧
    (settleOwnSlots c s).sup.privileges = s.sup.privileges ∧
    (settleOwnSlots c s).sup.resetPending = s.sup.resetPending ∧
    (settleOwnSlots c s).sup.resetInput = s.sup.resetInput := by
  unfold settleOwnSlots
  exact ⟨(foldl_keeps _ (fun u : State => u.time) (by intros; simp) _ _).trans (by simp),
    (foldl_keeps _ (fun u : State => u.masked) (by intros; simp) _ _).trans (by simp),
    (foldl_keeps _ (fun u : State => u.waiting) (by intros; simp) _ _).trans (by simp),
    (foldl_keeps _ (fun u : State => u.unrouted) (by intros; simp) _ _).trans (by simp),
    (foldl_keeps _ (fun u : State => u.entries) (by intros; simp) _ _).trans (by simp),
    (foldl_keeps _ (fun u : State => u.banks) (by intros; simp) _ _).trans (by simp),
    (foldl_keeps _ (fun u : State => u.drops) (by intros; simp) _ _).trans (by simp),
    (foldl_keeps _ (fun u : State => u.contexts) (by intros; simp) _ _).trans (by simp),
    (foldl_keeps _ (fun u : State => u.profiles) (by intros; simp) _ _).trans (by simp),
    (foldl_keeps _ (fun u : State => u.clientLines) (by intros; simp) _ _).trans (by simp),
    (foldl_keeps _ (fun u : State => u.board) (by intros; simp) _ _).trans (by simp),
    (foldl_keeps _ (fun u : State => u.health) (by intros; simp) _ _).trans (by simp),
    (foldl_keeps _ (fun u : State => u.pending) (by intros; simp) _ _).trans (by simp),
    (foldl_keeps _ (fun u : State => u.sup.pins) (by intros; simp) _ _).trans (by simp),
    (foldl_keeps _ (fun u : State => u.sup.straps) (by intros; simp) _ _).trans (by simp),
    (foldl_keeps _ (fun u : State => u.sup.frozen) (by intros; simp) _ _).trans (by simp),
    (foldl_keeps _ (fun u : State => u.sup.cause) (by intros; simp) _ _).trans (by simp),
    (foldl_keeps _ (fun u : State => u.sup.note) (by intros; simp) _ _).trans (by simp),
    (foldl_keeps _ (fun u : State => u.sup.privileges) (by intros; simp) _ _).trans (by simp),
    (foldl_keeps _ (fun u : State => u.sup.resetPending) (by intros; simp) _ _).trans (by simp),
    (foldl_keeps _ (fun u : State => u.sup.resetInput) (by intros; simp) _ _).trans (by simp)⟩

@[simp] theorem settleLines_keeps (c : Client) (cause : ResetCause) (s : State) :
    (settleLines c cause s).time = s.time ∧
    (settleLines c cause s).lines = s.lines ∧
    (settleLines c cause s).masked = s.masked ∧
    (settleLines c cause s).intake = s.intake ∧
    (settleLines c cause s).waiting = s.waiting ∧
    (settleLines c cause s).lostNotices = s.lostNotices ∧
    (settleLines c cause s).unrouted = s.unrouted ∧
    (settleLines c cause s).entries = s.entries ∧
    (settleLines c cause s).banks = s.banks ∧
    (settleLines c cause s).groups = s.groups ∧
    (settleLines c cause s).pool = s.pool ∧
    (settleLines c cause s).queues = s.queues ∧
    (settleLines c cause s).drops = s.drops ∧
    (settleLines c cause s).presentation = s.presentation ∧
    (settleLines c cause s).contexts = s.contexts ∧
    (settleLines c cause s).profiles = s.profiles ∧
    (settleLines c cause s).board = s.board ∧
    (settleLines c cause s).health = s.health ∧
    (settleLines c cause s).posts = s.posts ∧
    (settleLines c cause s).sup = s.sup ∧
    (settleLines c cause s).links = s.links ∧
    (settleLines c cause s).pending = s.pending := by
  simp only [settleLines]
  repeat' split
  all_goals simp

@[simp] theorem clientResetSteps_keeps (c : Client) (cause : ResetCause) (s : State) :
    (clientResetSteps c cause s).time = s.time ∧
    (clientResetSteps c cause s).masked = s.masked ∧
    (clientResetSteps c cause s).unrouted = s.unrouted ∧
    (clientResetSteps c cause s).entries = s.entries ∧
    (clientResetSteps c cause s).banks = s.banks ∧
    (clientResetSteps c cause s).profiles = s.profiles ∧
    (clientResetSteps c cause s).board = s.board ∧
    (clientResetSteps c cause s).health = s.health ∧
    (clientResetSteps c cause s).pending = s.pending ∧
    (clientResetSteps c cause s).sup.pins = s.sup.pins ∧
    (clientResetSteps c cause s).sup.straps = s.sup.straps ∧
    (clientResetSteps c cause s).sup.frozen = s.sup.frozen ∧
    (clientResetSteps c cause s).sup.cause = s.sup.cause ∧
    (clientResetSteps c cause s).sup.note = s.sup.note ∧
    (clientResetSteps c cause s).sup.privileges = s.sup.privileges ∧
    (clientResetSteps c cause s).sup.resetPending = s.sup.resetPending ∧
    (clientResetSteps c cause s).sup.resetInput = s.sup.resetInput := by
  simp only [clientResetSteps]
  repeat' split
  all_goals simp

@[simp] theorem setEsc_keeps (i : RecIndex) (r : Record) (e : Escalation) (s : State) :
    (setEsc i r e s).time = s.time ∧
    (setEsc i r e s).lines = s.lines ∧
    (setEsc i r e s).masked = s.masked ∧
    (setEsc i r e s).intake = s.intake ∧
    (setEsc i r e s).waiting = s.waiting ∧
    (setEsc i r e s).lostNotices = s.lostNotices ∧
    (setEsc i r e s).unrouted = s.unrouted ∧
    (setEsc i r e s).entries = s.entries ∧
    (setEsc i r e s).banks = s.banks ∧
    (setEsc i r e s).groups = s.groups ∧
    (setEsc i r e s).queues = s.queues ∧
    (setEsc i r e s).drops = s.drops ∧
    (setEsc i r e s).presentation = s.presentation ∧
    (setEsc i r e s).contexts = s.contexts ∧
    (setEsc i r e s).profiles = s.profiles ∧
    (setEsc i r e s).clientLines = s.clientLines ∧
    (setEsc i r e s).board = s.board ∧
    (setEsc i r e s).health = s.health ∧
    (setEsc i r e s).posts = s.posts ∧
    (setEsc i r e s).sup = s.sup ∧
    (setEsc i r e s).links = s.links ∧
    (setEsc i r e s).pending = s.pending := by
  simp only [setEsc]
  repeat' split
  all_goals simp

@[simp] theorem beginDeadline_keeps (i : RecIndex) (r : Record) (s : State) :
    (beginDeadline i r s).time = s.time ∧
    (beginDeadline i r s).lines = s.lines ∧
    (beginDeadline i r s).masked = s.masked ∧
    (beginDeadline i r s).intake = s.intake ∧
    (beginDeadline i r s).waiting = s.waiting ∧
    (beginDeadline i r s).lostNotices = s.lostNotices ∧
    (beginDeadline i r s).unrouted = s.unrouted ∧
    (beginDeadline i r s).entries = s.entries ∧
    (beginDeadline i r s).banks = s.banks ∧
    (beginDeadline i r s).groups = s.groups ∧
    (beginDeadline i r s).queues = s.queues ∧
    (beginDeadline i r s).drops = s.drops ∧
    (beginDeadline i r s).presentation = s.presentation ∧
    (beginDeadline i r s).contexts = s.contexts ∧
    (beginDeadline i r s).profiles = s.profiles ∧
    (beginDeadline i r s).clientLines = s.clientLines ∧
    (beginDeadline i r s).board = s.board ∧
    (beginDeadline i r s).health = s.health ∧
    (beginDeadline i r s).posts = s.posts ∧
    (beginDeadline i r s).sup = s.sup ∧
    (beginDeadline i r s).links = s.links ∧
    (beginDeadline i r s).pending = s.pending := by
  simp only [beginDeadline]
  repeat' split
  all_goals simp

@[simp] theorem beginStage_keeps (c : Client) (i : RecIndex) (r : Record) (s : State) :
    (beginStage c i r s).time = s.time ∧
    (beginStage c i r s).lines = s.lines ∧
    (beginStage c i r s).masked = s.masked ∧
    (beginStage c i r s).intake = s.intake ∧
    (beginStage c i r s).waiting = s.waiting ∧
    (beginStage c i r s).lostNotices = s.lostNotices ∧
    (beginStage c i r s).unrouted = s.unrouted ∧
    (beginStage c i r s).entries = s.entries ∧
    (beginStage c i r s).banks = s.banks ∧
    (beginStage c i r s).groups = s.groups ∧
    (beginStage c i r s).queues = s.queues ∧
    (beginStage c i r s).drops = s.drops ∧
    (beginStage c i r s).presentation = s.presentation ∧
    (beginStage c i r s).contexts = s.contexts ∧
    (beginStage c i r s).profiles = s.profiles ∧
    (beginStage c i r s).board = s.board ∧
    (beginStage c i r s).health = s.health ∧
    (beginStage c i r s).posts = s.posts ∧
    (beginStage c i r s).sup = s.sup ∧
    (beginStage c i r s).links = s.links ∧
    (beginStage c i r s).pending = s.pending := by
  simp only [beginStage]
  repeat' split
  all_goals simp

@[simp] theorem setReceiver_keeps (c : Client) (r : Receiver) (s : State) :
    (setReceiver c r s).time = s.time ∧
    (setReceiver c r s).lines = s.lines ∧
    (setReceiver c r s).masked = s.masked ∧
    (setReceiver c r s).intake = s.intake ∧
    (setReceiver c r s).waiting = s.waiting ∧
    (setReceiver c r s).lostNotices = s.lostNotices ∧
    (setReceiver c r s).unrouted = s.unrouted ∧
    (setReceiver c r s).entries = s.entries ∧
    (setReceiver c r s).banks = s.banks ∧
    (setReceiver c r s).groups = s.groups ∧
    (setReceiver c r s).pool = s.pool ∧
    (setReceiver c r s).queues = s.queues ∧
    (setReceiver c r s).drops = s.drops ∧
    (setReceiver c r s).presentation = s.presentation ∧
    (setReceiver c r s).contexts = s.contexts ∧
    (setReceiver c r s).profiles = s.profiles ∧
    (setReceiver c r s).clientLines = s.clientLines ∧
    (setReceiver c r s).board = s.board ∧
    (setReceiver c r s).health = s.health ∧
    (setReceiver c r s).posts = s.posts ∧
    (setReceiver c r s).sup = s.sup ∧
    (setReceiver c r s).pending = s.pending := by
  simp only [setReceiver]
  repeat' split
  all_goals simp

@[simp] theorem placeReply_keeps (c : Client) (r : Reply) (s : State) :
    (placeReply c r s).time = s.time ∧
    (placeReply c r s).lines = s.lines ∧
    (placeReply c r s).masked = s.masked ∧
    (placeReply c r s).intake = s.intake ∧
    (placeReply c r s).waiting = s.waiting ∧
    (placeReply c r s).lostNotices = s.lostNotices ∧
    (placeReply c r s).unrouted = s.unrouted ∧
    (placeReply c r s).entries = s.entries ∧
    (placeReply c r s).banks = s.banks ∧
    (placeReply c r s).groups = s.groups ∧
    (placeReply c r s).pool = s.pool ∧
    (placeReply c r s).queues = s.queues ∧
    (placeReply c r s).drops = s.drops ∧
    (placeReply c r s).presentation = s.presentation ∧
    (placeReply c r s).contexts = s.contexts ∧
    (placeReply c r s).profiles = s.profiles ∧
    (placeReply c r s).clientLines = s.clientLines ∧
    (placeReply c r s).board = s.board ∧
    (placeReply c r s).health = s.health ∧
    (placeReply c r s).posts = s.posts ∧
    (placeReply c r s).sup = s.sup ∧
    (placeReply c r s).pending = s.pending := by
  simp only [placeReply]
  repeat' split
  all_goals simp

@[simp] theorem frameError_keeps (c : Client) (s : State) :
    (frameError c s).time = s.time ∧
    (frameError c s).masked = s.masked ∧
    (frameError c s).waiting = s.waiting ∧
    (frameError c s).unrouted = s.unrouted ∧
    (frameError c s).entries = s.entries ∧
    (frameError c s).banks = s.banks ∧
    (frameError c s).profiles = s.profiles ∧
    (frameError c s).board = s.board ∧
    (frameError c s).pending = s.pending ∧
    (frameError c s).sup.pins = s.sup.pins ∧
    (frameError c s).sup.straps = s.sup.straps ∧
    (frameError c s).sup.frozen = s.sup.frozen ∧
    (frameError c s).sup.cause = s.sup.cause ∧
    (frameError c s).sup.note = s.sup.note ∧
    (frameError c s).sup.privileges = s.sup.privileges ∧
    (frameError c s).sup.resetPending = s.sup.resetPending ∧
    (frameError c s).sup.resetInput = s.sup.resetInput := by
  simp only [frameError]
  repeat' split
  all_goals simp

@[simp] theorem frameFails_keeps (c : Client) (s : State) :
    (frameFails c s).time = s.time ∧
    (frameFails c s).masked = s.masked ∧
    (frameFails c s).waiting = s.waiting ∧
    (frameFails c s).unrouted = s.unrouted ∧
    (frameFails c s).entries = s.entries ∧
    (frameFails c s).banks = s.banks ∧
    (frameFails c s).profiles = s.profiles ∧
    (frameFails c s).board = s.board ∧
    (frameFails c s).pending = s.pending ∧
    (frameFails c s).sup.pins = s.sup.pins ∧
    (frameFails c s).sup.straps = s.sup.straps ∧
    (frameFails c s).sup.frozen = s.sup.frozen ∧
    (frameFails c s).sup.cause = s.sup.cause ∧
    (frameFails c s).sup.note = s.sup.note ∧
    (frameFails c s).sup.privileges = s.sup.privileges ∧
    (frameFails c s).sup.resetPending = s.sup.resetPending ∧
    (frameFails c s).sup.resetInput = s.sup.resetInput := by
  simp only [frameFails]
  repeat' split
  all_goals simp

@[simp] theorem gapFails_keeps (c : Client) (s : State) :
    (gapFails c s).time = s.time ∧
    (gapFails c s).masked = s.masked ∧
    (gapFails c s).waiting = s.waiting ∧
    (gapFails c s).unrouted = s.unrouted ∧
    (gapFails c s).entries = s.entries ∧
    (gapFails c s).banks = s.banks ∧
    (gapFails c s).profiles = s.profiles ∧
    (gapFails c s).board = s.board ∧
    (gapFails c s).pending = s.pending ∧
    (gapFails c s).sup.pins = s.sup.pins ∧
    (gapFails c s).sup.straps = s.sup.straps ∧
    (gapFails c s).sup.frozen = s.sup.frozen ∧
    (gapFails c s).sup.cause = s.sup.cause ∧
    (gapFails c s).sup.note = s.sup.note ∧
    (gapFails c s).sup.privileges = s.sup.privileges ∧
    (gapFails c s).sup.resetPending = s.sup.resetPending ∧
    (gapFails c s).sup.resetInput = s.sup.resetInput := by
  simp only [gapFails]
  repeat' split
  all_goals simp

@[simp] theorem overrun_keeps (c : Client) (s : State) :
    (overrun c s).time = s.time ∧
    (overrun c s).masked = s.masked ∧
    (overrun c s).waiting = s.waiting ∧
    (overrun c s).unrouted = s.unrouted ∧
    (overrun c s).entries = s.entries ∧
    (overrun c s).banks = s.banks ∧
    (overrun c s).profiles = s.profiles ∧
    (overrun c s).board = s.board ∧
    (overrun c s).pending = s.pending ∧
    (overrun c s).sup.pins = s.sup.pins ∧
    (overrun c s).sup.straps = s.sup.straps ∧
    (overrun c s).sup.frozen = s.sup.frozen ∧
    (overrun c s).sup.cause = s.sup.cause ∧
    (overrun c s).sup.note = s.sup.note ∧
    (overrun c s).sup.privileges = s.sup.privileges ∧
    (overrun c s).sup.resetPending = s.sup.resetPending ∧
    (overrun c s).sup.resetInput = s.sup.resetInput := by
  simp only [overrun]
  repeat' split
  all_goals simp

@[simp] theorem pushRequest_keeps (c : Client) (q : Request) (s : State) :
    (pushRequest c q s).time = s.time ∧
    (pushRequest c q s).lines = s.lines ∧
    (pushRequest c q s).masked = s.masked ∧
    (pushRequest c q s).intake = s.intake ∧
    (pushRequest c q s).waiting = s.waiting ∧
    (pushRequest c q s).lostNotices = s.lostNotices ∧
    (pushRequest c q s).unrouted = s.unrouted ∧
    (pushRequest c q s).entries = s.entries ∧
    (pushRequest c q s).banks = s.banks ∧
    (pushRequest c q s).groups = s.groups ∧
    (pushRequest c q s).pool = s.pool ∧
    (pushRequest c q s).queues = s.queues ∧
    (pushRequest c q s).drops = s.drops ∧
    (pushRequest c q s).presentation = s.presentation ∧
    (pushRequest c q s).contexts = s.contexts ∧
    (pushRequest c q s).profiles = s.profiles ∧
    (pushRequest c q s).clientLines = s.clientLines ∧
    (pushRequest c q s).board = s.board ∧
    (pushRequest c q s).health = s.health ∧
    (pushRequest c q s).posts = s.posts ∧
    (pushRequest c q s).sup = s.sup ∧
    (pushRequest c q s).pending = s.pending := by
  simp only [pushRequest]
  repeat' split
  all_goals simp

@[simp] theorem frameComplete_keeps (c : Client) (kind tag : Byte) (payload : List Byte) (s : State) :
    (frameComplete c kind tag payload s).time = s.time ∧
    (frameComplete c kind tag payload s).masked = s.masked ∧
    (frameComplete c kind tag payload s).waiting = s.waiting ∧
    (frameComplete c kind tag payload s).unrouted = s.unrouted ∧
    (frameComplete c kind tag payload s).entries = s.entries ∧
    (frameComplete c kind tag payload s).banks = s.banks ∧
    (frameComplete c kind tag payload s).profiles = s.profiles ∧
    (frameComplete c kind tag payload s).board = s.board ∧
    (frameComplete c kind tag payload s).pending = s.pending ∧
    (frameComplete c kind tag payload s).sup.pins = s.sup.pins ∧
    (frameComplete c kind tag payload s).sup.straps = s.sup.straps ∧
    (frameComplete c kind tag payload s).sup.frozen = s.sup.frozen ∧
    (frameComplete c kind tag payload s).sup.cause = s.sup.cause ∧
    (frameComplete c kind tag payload s).sup.note = s.sup.note ∧
    (frameComplete c kind tag payload s).sup.privileges = s.sup.privileges ∧
    (frameComplete c kind tag payload s).sup.resetPending = s.sup.resetPending ∧
    (frameComplete c kind tag payload s).sup.resetInput = s.sup.resetInput := by
  simp only [frameComplete]
  repeat' split
  all_goals simp

@[simp] theorem checkFrame_keeps (c : Client) (len : Byte) (got : List Byte) (hi lo : Byte) (s : State) :
    (checkFrame c len got hi lo s).time = s.time ∧
    (checkFrame c len got hi lo s).masked = s.masked ∧
    (checkFrame c len got hi lo s).waiting = s.waiting ∧
    (checkFrame c len got hi lo s).unrouted = s.unrouted ∧
    (checkFrame c len got hi lo s).entries = s.entries ∧
    (checkFrame c len got hi lo s).banks = s.banks ∧
    (checkFrame c len got hi lo s).profiles = s.profiles ∧
    (checkFrame c len got hi lo s).board = s.board ∧
    (checkFrame c len got hi lo s).pending = s.pending ∧
    (checkFrame c len got hi lo s).sup.pins = s.sup.pins ∧
    (checkFrame c len got hi lo s).sup.straps = s.sup.straps ∧
    (checkFrame c len got hi lo s).sup.frozen = s.sup.frozen ∧
    (checkFrame c len got hi lo s).sup.cause = s.sup.cause ∧
    (checkFrame c len got hi lo s).sup.note = s.sup.note ∧
    (checkFrame c len got hi lo s).sup.privileges = s.sup.privileges ∧
    (checkFrame c len got hi lo s).sup.resetPending = s.sup.resetPending ∧
    (checkFrame c len got hi lo s).sup.resetInput = s.sup.resetInput := by
  simp only [checkFrame]
  repeat' split
  all_goals simp

@[simp] theorem advance_keeps (c : Client) (b : Byte) (s : State) :
    (advance c b s).time = s.time ∧
    (advance c b s).masked = s.masked ∧
    (advance c b s).waiting = s.waiting ∧
    (advance c b s).unrouted = s.unrouted ∧
    (advance c b s).entries = s.entries ∧
    (advance c b s).banks = s.banks ∧
    (advance c b s).profiles = s.profiles ∧
    (advance c b s).board = s.board ∧
    (advance c b s).pending = s.pending ∧
    (advance c b s).sup.pins = s.sup.pins ∧
    (advance c b s).sup.straps = s.sup.straps ∧
    (advance c b s).sup.frozen = s.sup.frozen ∧
    (advance c b s).sup.cause = s.sup.cause ∧
    (advance c b s).sup.note = s.sup.note ∧
    (advance c b s).sup.privileges = s.sup.privileges ∧
    (advance c b s).sup.resetPending = s.sup.resetPending ∧
    (advance c b s).sup.resetInput = s.sup.resetInput := by
  simp only [advance]
  repeat' split
  all_goals simp

@[simp] theorem stampByte_keeps (c : Client) (s : State) :
    (stampByte c s).time = s.time ∧
    (stampByte c s).lines = s.lines ∧
    (stampByte c s).masked = s.masked ∧
    (stampByte c s).intake = s.intake ∧
    (stampByte c s).waiting = s.waiting ∧
    (stampByte c s).lostNotices = s.lostNotices ∧
    (stampByte c s).unrouted = s.unrouted ∧
    (stampByte c s).entries = s.entries ∧
    (stampByte c s).banks = s.banks ∧
    (stampByte c s).groups = s.groups ∧
    (stampByte c s).pool = s.pool ∧
    (stampByte c s).queues = s.queues ∧
    (stampByte c s).drops = s.drops ∧
    (stampByte c s).presentation = s.presentation ∧
    (stampByte c s).contexts = s.contexts ∧
    (stampByte c s).profiles = s.profiles ∧
    (stampByte c s).clientLines = s.clientLines ∧
    (stampByte c s).board = s.board ∧
    (stampByte c s).health = s.health ∧
    (stampByte c s).posts = s.posts ∧
    (stampByte c s).sup = s.sup ∧
    (stampByte c s).pending = s.pending := by
  simp only [stampByte]
  repeat' split
  all_goals simp

@[simp] theorem receiveByte_keeps (c : Client) (b : Byte) (s : State) :
    (receiveByte c b s).time = s.time ∧
    (receiveByte c b s).masked = s.masked ∧
    (receiveByte c b s).waiting = s.waiting ∧
    (receiveByte c b s).unrouted = s.unrouted ∧
    (receiveByte c b s).entries = s.entries ∧
    (receiveByte c b s).banks = s.banks ∧
    (receiveByte c b s).profiles = s.profiles ∧
    (receiveByte c b s).board = s.board ∧
    (receiveByte c b s).pending = s.pending ∧
    (receiveByte c b s).sup.pins = s.sup.pins ∧
    (receiveByte c b s).sup.straps = s.sup.straps ∧
    (receiveByte c b s).sup.frozen = s.sup.frozen ∧
    (receiveByte c b s).sup.cause = s.sup.cause ∧
    (receiveByte c b s).sup.note = s.sup.note ∧
    (receiveByte c b s).sup.privileges = s.sup.privileges ∧
    (receiveByte c b s).sup.resetPending = s.sup.resetPending ∧
    (receiveByte c b s).sup.resetInput = s.sup.resetInput := by
  simp only [receiveByte]
  repeat' split
  all_goals simp

@[simp] theorem beginTransmission_keeps (s : State) (c : Client) :
    (beginTransmission s c).time = s.time ∧
    (beginTransmission s c).lines = s.lines ∧
    (beginTransmission s c).masked = s.masked ∧
    (beginTransmission s c).intake = s.intake ∧
    (beginTransmission s c).waiting = s.waiting ∧
    (beginTransmission s c).lostNotices = s.lostNotices ∧
    (beginTransmission s c).unrouted = s.unrouted ∧
    (beginTransmission s c).entries = s.entries ∧
    (beginTransmission s c).banks = s.banks ∧
    (beginTransmission s c).groups = s.groups ∧
    (beginTransmission s c).pool = s.pool ∧
    (beginTransmission s c).queues = s.queues ∧
    (beginTransmission s c).drops = s.drops ∧
    (beginTransmission s c).presentation = s.presentation ∧
    (beginTransmission s c).contexts = s.contexts ∧
    (beginTransmission s c).profiles = s.profiles ∧
    (beginTransmission s c).clientLines = s.clientLines ∧
    (beginTransmission s c).board = s.board ∧
    (beginTransmission s c).health = s.health ∧
    (beginTransmission s c).posts = s.posts ∧
    (beginTransmission s c).sup = s.sup ∧
    (beginTransmission s c).pending = s.pending := by
  simp only [beginTransmission]
  repeat' split
  all_goals simp

@[simp] theorem beginAll_keeps (s : State) :
    (beginAll s).time = s.time ∧
    (beginAll s).lines = s.lines ∧
    (beginAll s).masked = s.masked ∧
    (beginAll s).intake = s.intake ∧
    (beginAll s).waiting = s.waiting ∧
    (beginAll s).lostNotices = s.lostNotices ∧
    (beginAll s).unrouted = s.unrouted ∧
    (beginAll s).entries = s.entries ∧
    (beginAll s).banks = s.banks ∧
    (beginAll s).groups = s.groups ∧
    (beginAll s).pool = s.pool ∧
    (beginAll s).queues = s.queues ∧
    (beginAll s).drops = s.drops ∧
    (beginAll s).presentation = s.presentation ∧
    (beginAll s).contexts = s.contexts ∧
    (beginAll s).profiles = s.profiles ∧
    (beginAll s).clientLines = s.clientLines ∧
    (beginAll s).board = s.board ∧
    (beginAll s).health = s.health ∧
    (beginAll s).posts = s.posts ∧
    (beginAll s).sup = s.sup ∧
    (beginAll s).pending = s.pending := by
  unfold beginAll
  exact ⟨(foldl_keeps _ (fun u : State => u.time) (by intros; simp) _ _).trans (by simp),
    (foldl_keeps _ (fun u : State => u.lines) (by intros; simp) _ _).trans (by simp),
    (foldl_keeps _ (fun u : State => u.masked) (by intros; simp) _ _).trans (by simp),
    (foldl_keeps _ (fun u : State => u.intake) (by intros; simp) _ _).trans (by simp),
    (foldl_keeps _ (fun u : State => u.waiting) (by intros; simp) _ _).trans (by simp),
    (foldl_keeps _ (fun u : State => u.lostNotices) (by intros; simp) _ _).trans (by simp),
    (foldl_keeps _ (fun u : State => u.unrouted) (by intros; simp) _ _).trans (by simp),
    (foldl_keeps _ (fun u : State => u.entries) (by intros; simp) _ _).trans (by simp),
    (foldl_keeps _ (fun u : State => u.banks) (by intros; simp) _ _).trans (by simp),
    (foldl_keeps _ (fun u : State => u.groups) (by intros; simp) _ _).trans (by simp),
    (foldl_keeps _ (fun u : State => u.pool) (by intros; simp) _ _).trans (by simp),
    (foldl_keeps _ (fun u : State => u.queues) (by intros; simp) _ _).trans (by simp),
    (foldl_keeps _ (fun u : State => u.drops) (by intros; simp) _ _).trans (by simp),
    (foldl_keeps _ (fun u : State => u.presentation) (by intros; simp) _ _).trans (by simp),
    (foldl_keeps _ (fun u : State => u.contexts) (by intros; simp) _ _).trans (by simp),
    (foldl_keeps _ (fun u : State => u.profiles) (by intros; simp) _ _).trans (by simp),
    (foldl_keeps _ (fun u : State => u.clientLines) (by intros; simp) _ _).trans (by simp),
    (foldl_keeps _ (fun u : State => u.board) (by intros; simp) _ _).trans (by simp),
    (foldl_keeps _ (fun u : State => u.health) (by intros; simp) _ _).trans (by simp),
    (foldl_keeps _ (fun u : State => u.posts) (by intros; simp) _ _).trans (by simp),
    (foldl_keeps _ (fun u : State => u.sup) (by intros; simp) _ _).trans (by simp),
    (foldl_keeps _ (fun u : State => u.pending) (by intros; simp) _ _).trans (by simp)⟩

@[simp] theorem enterSleep_keeps (s : State) :
    (enterSleep s).time = s.time ∧
    (enterSleep s).lines = s.lines ∧
    (enterSleep s).masked = s.masked ∧
    (enterSleep s).intake = s.intake ∧
    (enterSleep s).waiting = s.waiting ∧
    (enterSleep s).lostNotices = s.lostNotices ∧
    (enterSleep s).unrouted = s.unrouted ∧
    (enterSleep s).entries = s.entries ∧
    (enterSleep s).banks = s.banks ∧
    (enterSleep s).groups = s.groups ∧
    (enterSleep s).pool = s.pool ∧
    (enterSleep s).queues = s.queues ∧
    (enterSleep s).drops = s.drops ∧
    (enterSleep s).presentation = s.presentation ∧
    (enterSleep s).contexts = s.contexts ∧
    (enterSleep s).profiles = s.profiles ∧
    (enterSleep s).clientLines = s.clientLines ∧
    (enterSleep s).board = s.board ∧
    (enterSleep s).health = s.health ∧
    (enterSleep s).posts = s.posts ∧
    (enterSleep s).links = s.links ∧
    (enterSleep s).pending = s.pending ∧
    (enterSleep s).sup.pins = s.sup.pins ∧
    (enterSleep s).sup.straps = s.sup.straps ∧
    (enterSleep s).sup.frozen = s.sup.frozen ∧
    (enterSleep s).sup.cause = s.sup.cause ∧
    (enterSleep s).sup.note = s.sup.note ∧
    (enterSleep s).sup.privileges = s.sup.privileges ∧
    (enterSleep s).sup.resetPending = s.sup.resetPending ∧
    (enterSleep s).sup.resetInput = s.sup.resetInput := by
  simp only [enterSleep]
  repeat' split
  all_goals simp

@[simp] theorem settle_keeps (s : State) :
    (settle s).time = s.time ∧
    (settle s).lines = s.lines ∧
    (settle s).masked = s.masked ∧
    (settle s).intake = s.intake ∧
    (settle s).waiting = s.waiting ∧
    (settle s).lostNotices = s.lostNotices ∧
    (settle s).unrouted = s.unrouted ∧
    (settle s).entries = s.entries ∧
    (settle s).banks = s.banks ∧
    (settle s).groups = s.groups ∧
    (settle s).pool = s.pool ∧
    (settle s).queues = s.queues ∧
    (settle s).drops = s.drops ∧
    (settle s).presentation = s.presentation ∧
    (settle s).contexts = s.contexts ∧
    (settle s).profiles = s.profiles ∧
    (settle s).clientLines = s.clientLines ∧
    (settle s).board = s.board ∧
    (settle s).health = s.health ∧
    (settle s).posts = s.posts ∧
    (settle s).pending = s.pending ∧
    (settle s).sup.pins = s.sup.pins ∧
    (settle s).sup.straps = s.sup.straps ∧
    (settle s).sup.frozen = s.sup.frozen ∧
    (settle s).sup.cause = s.sup.cause ∧
    (settle s).sup.note = s.sup.note ∧
    (settle s).sup.privileges = s.sup.privileges ∧
    (settle s).sup.resetPending = s.sup.resetPending ∧
    (settle s).sup.resetInput = s.sup.resetInput := by
  simp only [settle]
  repeat' split
  all_goals simp

@[simp] theorem deliverSent_keeps (c : Client) (h : Handle) (s : State) :
    (deliverSent c h s).time = s.time ∧
    (deliverSent c h s).lines = s.lines ∧
    (deliverSent c h s).masked = s.masked ∧
    (deliverSent c h s).intake = s.intake ∧
    (deliverSent c h s).waiting = s.waiting ∧
    (deliverSent c h s).lostNotices = s.lostNotices ∧
    (deliverSent c h s).unrouted = s.unrouted ∧
    (deliverSent c h s).entries = s.entries ∧
    (deliverSent c h s).banks = s.banks ∧
    (deliverSent c h s).groups = s.groups ∧
    (deliverSent c h s).drops = s.drops ∧
    (deliverSent c h s).contexts = s.contexts ∧
    (deliverSent c h s).profiles = s.profiles ∧
    (deliverSent c h s).board = s.board ∧
    (deliverSent c h s).health = s.health ∧
    (deliverSent c h s).sup = s.sup ∧
    (deliverSent c h s).pending = s.pending := by
  simp only [deliverSent]
  repeat' split
  all_goals simp

@[simp] theorem takeByte_keeps (c : Client) (s : State) (b : Byte) :
    (takeByte c s b).time = s.time ∧
    (takeByte c s b).masked = s.masked ∧
    (takeByte c s b).waiting = s.waiting ∧
    (takeByte c s b).unrouted = s.unrouted ∧
    (takeByte c s b).entries = s.entries ∧
    (takeByte c s b).banks = s.banks ∧
    (takeByte c s b).profiles = s.profiles ∧
    (takeByte c s b).board = s.board ∧
    (takeByte c s b).pending = s.pending ∧
    (takeByte c s b).sup.pins = s.sup.pins ∧
    (takeByte c s b).sup.straps = s.sup.straps ∧
    (takeByte c s b).sup.frozen = s.sup.frozen ∧
    (takeByte c s b).sup.cause = s.sup.cause ∧
    (takeByte c s b).sup.note = s.sup.note ∧
    (takeByte c s b).sup.privileges = s.sup.privileges ∧
    (takeByte c s b).sup.resetPending = s.sup.resetPending ∧
    (takeByte c s b).sup.resetInput = s.sup.resetInput := by
  simp only [takeByte]
  repeat' split
  all_goals simp

@[simp] theorem receiveAll_keeps (c : Client) (bytes : List Byte) (s : State) :
    (receiveAll c bytes s).time = s.time ∧
    (receiveAll c bytes s).masked = s.masked ∧
    (receiveAll c bytes s).waiting = s.waiting ∧
    (receiveAll c bytes s).unrouted = s.unrouted ∧
    (receiveAll c bytes s).entries = s.entries ∧
    (receiveAll c bytes s).banks = s.banks ∧
    (receiveAll c bytes s).profiles = s.profiles ∧
    (receiveAll c bytes s).board = s.board ∧
    (receiveAll c bytes s).pending = s.pending ∧
    (receiveAll c bytes s).sup.pins = s.sup.pins ∧
    (receiveAll c bytes s).sup.straps = s.sup.straps ∧
    (receiveAll c bytes s).sup.frozen = s.sup.frozen ∧
    (receiveAll c bytes s).sup.cause = s.sup.cause ∧
    (receiveAll c bytes s).sup.note = s.sup.note ∧
    (receiveAll c bytes s).sup.privileges = s.sup.privileges ∧
    (receiveAll c bytes s).sup.resetPending = s.sup.resetPending ∧
    (receiveAll c bytes s).sup.resetInput = s.sup.resetInput := by
  unfold receiveAll
  exact ⟨(foldl_keeps _ (fun u : State => u.time) (by intros; simp) _ _).trans (by simp),
    (foldl_keeps _ (fun u : State => u.masked) (by intros; simp) _ _).trans (by simp),
    (foldl_keeps _ (fun u : State => u.waiting) (by intros; simp) _ _).trans (by simp),
    (foldl_keeps _ (fun u : State => u.unrouted) (by intros; simp) _ _).trans (by simp),
    (foldl_keeps _ (fun u : State => u.entries) (by intros; simp) _ _).trans (by simp),
    (foldl_keeps _ (fun u : State => u.banks) (by intros; simp) _ _).trans (by simp),
    (foldl_keeps _ (fun u : State => u.profiles) (by intros; simp) _ _).trans (by simp),
    (foldl_keeps _ (fun u : State => u.board) (by intros; simp) _ _).trans (by simp),
    (foldl_keeps _ (fun u : State => u.pending) (by intros; simp) _ _).trans (by simp),
    (foldl_keeps _ (fun u : State => u.sup.pins) (by intros; simp) _ _).trans (by simp),
    (foldl_keeps _ (fun u : State => u.sup.straps) (by intros; simp) _ _).trans (by simp),
    (foldl_keeps _ (fun u : State => u.sup.frozen) (by intros; simp) _ _).trans (by simp),
    (foldl_keeps _ (fun u : State => u.sup.cause) (by intros; simp) _ _).trans (by simp),
    (foldl_keeps _ (fun u : State => u.sup.note) (by intros; simp) _ _).trans (by simp),
    (foldl_keeps _ (fun u : State => u.sup.privileges) (by intros; simp) _ _).trans (by simp),
    (foldl_keeps _ (fun u : State => u.sup.resetPending) (by intros; simp) _ _).trans (by simp),
    (foldl_keeps _ (fun u : State => u.sup.resetInput) (by intros; simp) _ _).trans (by simp)⟩

@[simp] theorem arrive_keeps (c : Client) (k : RequestKind) (a : Arrival) (s : State) :
    (arrive c k a s).time = s.time ∧
    (arrive c k a s).masked = s.masked ∧
    (arrive c k a s).waiting = s.waiting ∧
    (arrive c k a s).unrouted = s.unrouted ∧
    (arrive c k a s).entries = s.entries ∧
    (arrive c k a s).banks = s.banks ∧
    (arrive c k a s).profiles = s.profiles ∧
    (arrive c k a s).board = s.board ∧
    (arrive c k a s).pending = s.pending ∧
    (arrive c k a s).sup.pins = s.sup.pins ∧
    (arrive c k a s).sup.straps = s.sup.straps ∧
    (arrive c k a s).sup.frozen = s.sup.frozen ∧
    (arrive c k a s).sup.cause = s.sup.cause ∧
    (arrive c k a s).sup.note = s.sup.note ∧
    (arrive c k a s).sup.privileges = s.sup.privileges ∧
    (arrive c k a s).sup.resetPending = s.sup.resetPending ∧
    (arrive c k a s).sup.resetInput = s.sup.resetInput := by
  simp only [arrive]
  repeat' split
  all_goals simp

@[simp] theorem givePlace_keeps (s : State) :
    (givePlace s).time = s.time ∧
    (givePlace s).masked = s.masked ∧
    (givePlace s).lostNotices = s.lostNotices ∧
    (givePlace s).unrouted = s.unrouted ∧
    (givePlace s).entries = s.entries ∧
    (givePlace s).banks = s.banks ∧
    (givePlace s).groups = s.groups ∧
    (givePlace s).pool = s.pool ∧
    (givePlace s).queues = s.queues ∧
    (givePlace s).drops = s.drops ∧
    (givePlace s).presentation = s.presentation ∧
    (givePlace s).contexts = s.contexts ∧
    (givePlace s).profiles = s.profiles ∧
    (givePlace s).clientLines = s.clientLines ∧
    (givePlace s).board = s.board ∧
    (givePlace s).health = s.health ∧
    (givePlace s).posts = s.posts ∧
    (givePlace s).sup = s.sup ∧
    (givePlace s).links = s.links ∧
    (givePlace s).pending = s.pending := by
  simp only [givePlace]
  repeat' split
  all_goals simp

@[simp] theorem reportTaken_keeps (src : BitVec 6) (s : State) :
    (reportTaken src s).time = s.time ∧
    (reportTaken src s).masked = s.masked ∧
    (reportTaken src s).intake = s.intake ∧
    (reportTaken src s).waiting = s.waiting ∧
    (reportTaken src s).lostNotices = s.lostNotices ∧
    (reportTaken src s).unrouted = s.unrouted ∧
    (reportTaken src s).entries = s.entries ∧
    (reportTaken src s).banks = s.banks ∧
    (reportTaken src s).groups = s.groups ∧
    (reportTaken src s).pool = s.pool ∧
    (reportTaken src s).queues = s.queues ∧
    (reportTaken src s).drops = s.drops ∧
    (reportTaken src s).presentation = s.presentation ∧
    (reportTaken src s).contexts = s.contexts ∧
    (reportTaken src s).profiles = s.profiles ∧
    (reportTaken src s).clientLines = s.clientLines ∧
    (reportTaken src s).board = s.board ∧
    (reportTaken src s).health = s.health ∧
    (reportTaken src s).posts = s.posts ∧
    (reportTaken src s).sup = s.sup ∧
    (reportTaken src s).links = s.links ∧
    (reportTaken src s).pending = s.pending := by
  simp only [reportTaken]
  repeat' split
  all_goals simp

@[simp] theorem decideTarget_keeps (x : RouteEntry) (k : Key) (p : State × List Client) (t : Client) :
    (decideTarget x k p t).1.time = p.1.time ∧
    (decideTarget x k p t).1.lines = p.1.lines ∧
    (decideTarget x k p t).1.masked = p.1.masked ∧
    (decideTarget x k p t).1.waiting = p.1.waiting ∧
    (decideTarget x k p t).1.unrouted = p.1.unrouted ∧
    (decideTarget x k p t).1.entries = p.1.entries ∧
    (decideTarget x k p t).1.banks = p.1.banks ∧
    (decideTarget x k p t).1.groups = p.1.groups ∧
    (decideTarget x k p t).1.pool = p.1.pool ∧
    (decideTarget x k p t).1.queues = p.1.queues ∧
    (decideTarget x k p t).1.presentation = p.1.presentation ∧
    (decideTarget x k p t).1.contexts = p.1.contexts ∧
    (decideTarget x k p t).1.profiles = p.1.profiles ∧
    (decideTarget x k p t).1.clientLines = p.1.clientLines ∧
    (decideTarget x k p t).1.board = p.1.board ∧
    (decideTarget x k p t).1.health = p.1.health ∧
    (decideTarget x k p t).1.posts = p.1.posts ∧
    (decideTarget x k p t).1.sup = p.1.sup ∧
    (decideTarget x k p t).1.links = p.1.links ∧
    (decideTarget x k p t).1.pending = p.1.pending := by
  simp only [decideTarget]
  repeat' split
  all_goals simp

@[simp] theorem decideTargets_keeps (x : RouteEntry) (k : Key) (s : State) :
    (decideTargets x k s).1.time = s.time ∧
    (decideTargets x k s).1.lines = s.lines ∧
    (decideTargets x k s).1.masked = s.masked ∧
    (decideTargets x k s).1.waiting = s.waiting ∧
    (decideTargets x k s).1.unrouted = s.unrouted ∧
    (decideTargets x k s).1.entries = s.entries ∧
    (decideTargets x k s).1.banks = s.banks ∧
    (decideTargets x k s).1.groups = s.groups ∧
    (decideTargets x k s).1.pool = s.pool ∧
    (decideTargets x k s).1.queues = s.queues ∧
    (decideTargets x k s).1.presentation = s.presentation ∧
    (decideTargets x k s).1.contexts = s.contexts ∧
    (decideTargets x k s).1.profiles = s.profiles ∧
    (decideTargets x k s).1.clientLines = s.clientLines ∧
    (decideTargets x k s).1.board = s.board ∧
    (decideTargets x k s).1.health = s.health ∧
    (decideTargets x k s).1.posts = s.posts ∧
    (decideTargets x k s).1.sup = s.sup ∧
    (decideTargets x k s).1.links = s.links ∧
    (decideTargets x k s).1.pending = s.pending := by
  unfold decideTargets
  exact ⟨(foldl_keeps _ (fun u : State × List Client => u.1.time) (by intros; simp) _ _).trans (by simp),
    (foldl_keeps _ (fun u : State × List Client => u.1.lines) (by intros; simp) _ _).trans (by simp),
    (foldl_keeps _ (fun u : State × List Client => u.1.masked) (by intros; simp) _ _).trans (by simp),
    (foldl_keeps _ (fun u : State × List Client => u.1.waiting) (by intros; simp) _ _).trans (by simp),
    (foldl_keeps _ (fun u : State × List Client => u.1.unrouted) (by intros; simp) _ _).trans (by simp),
    (foldl_keeps _ (fun u : State × List Client => u.1.entries) (by intros; simp) _ _).trans (by simp),
    (foldl_keeps _ (fun u : State × List Client => u.1.banks) (by intros; simp) _ _).trans (by simp),
    (foldl_keeps _ (fun u : State × List Client => u.1.groups) (by intros; simp) _ _).trans (by simp),
    (foldl_keeps _ (fun u : State × List Client => u.1.pool) (by intros; simp) _ _).trans (by simp),
    (foldl_keeps _ (fun u : State × List Client => u.1.queues) (by intros; simp) _ _).trans (by simp),
    (foldl_keeps _ (fun u : State × List Client => u.1.presentation) (by intros; simp) _ _).trans (by simp),
    (foldl_keeps _ (fun u : State × List Client => u.1.contexts) (by intros; simp) _ _).trans (by simp),
    (foldl_keeps _ (fun u : State × List Client => u.1.profiles) (by intros; simp) _ _).trans (by simp),
    (foldl_keeps _ (fun u : State × List Client => u.1.clientLines) (by intros; simp) _ _).trans (by simp),
    (foldl_keeps _ (fun u : State × List Client => u.1.board) (by intros; simp) _ _).trans (by simp),
    (foldl_keeps _ (fun u : State × List Client => u.1.health) (by intros; simp) _ _).trans (by simp),
    (foldl_keeps _ (fun u : State × List Client => u.1.posts) (by intros; simp) _ _).trans (by simp),
    (foldl_keeps _ (fun u : State × List Client => u.1.sup) (by intros; simp) _ _).trans (by simp),
    (foldl_keeps _ (fun u : State × List Client => u.1.links) (by intros; simp) _ _).trans (by simp),
    (foldl_keeps _ (fun u : State × List Client => u.1.pending) (by intros; simp) _ _).trans (by simp)⟩

@[simp] theorem sendRequests_keeps (d : Descriptor) (x : RouteEntry) (hit : Hit) (m : RecMode) (rs : List Client) (s : State) :
    (sendRequests d x hit m rs s).time = s.time ∧
    (sendRequests d x hit m rs s).masked = s.masked ∧
    (sendRequests d x hit m rs s).waiting = s.waiting ∧
    (sendRequests d x hit m rs s).unrouted = s.unrouted ∧
    (sendRequests d x hit m rs s).entries = s.entries ∧
    (sendRequests d x hit m rs s).banks = s.banks ∧
    (sendRequests d x hit m rs s).profiles = s.profiles ∧
    (sendRequests d x hit m rs s).board = s.board ∧
    (sendRequests d x hit m rs s).health = s.health ∧
    (sendRequests d x hit m rs s).pending = s.pending ∧
    (sendRequests d x hit m rs s).sup.pins = s.sup.pins ∧
    (sendRequests d x hit m rs s).sup.straps = s.sup.straps ∧
    (sendRequests d x hit m rs s).sup.frozen = s.sup.frozen ∧
    (sendRequests d x hit m rs s).sup.cause = s.sup.cause ∧
    (sendRequests d x hit m rs s).sup.note = s.sup.note ∧
    (sendRequests d x hit m rs s).sup.privileges = s.sup.privileges ∧
    (sendRequests d x hit m rs s).sup.resetPending = s.sup.resetPending ∧
    (sendRequests d x hit m rs s).sup.resetInput = s.sup.resetInput := by
  unfold sendRequests
  exact ⟨(foldl_keeps _ (fun u : State => u.time) (by intros; simp) _ _).trans (by simp),
    (foldl_keeps _ (fun u : State => u.masked) (by intros; simp) _ _).trans (by simp),
    (foldl_keeps _ (fun u : State => u.waiting) (by intros; simp) _ _).trans (by simp),
    (foldl_keeps _ (fun u : State => u.unrouted) (by intros; simp) _ _).trans (by simp),
    (foldl_keeps _ (fun u : State => u.entries) (by intros; simp) _ _).trans (by simp),
    (foldl_keeps _ (fun u : State => u.banks) (by intros; simp) _ _).trans (by simp),
    (foldl_keeps _ (fun u : State => u.profiles) (by intros; simp) _ _).trans (by simp),
    (foldl_keeps _ (fun u : State => u.board) (by intros; simp) _ _).trans (by simp),
    (foldl_keeps _ (fun u : State => u.health) (by intros; simp) _ _).trans (by simp),
    (foldl_keeps _ (fun u : State => u.pending) (by intros; simp) _ _).trans (by simp),
    (foldl_keeps _ (fun u : State => u.sup.pins) (by intros; simp) _ _).trans (by simp),
    (foldl_keeps _ (fun u : State => u.sup.straps) (by intros; simp) _ _).trans (by simp),
    (foldl_keeps _ (fun u : State => u.sup.frozen) (by intros; simp) _ _).trans (by simp),
    (foldl_keeps _ (fun u : State => u.sup.cause) (by intros; simp) _ _).trans (by simp),
    (foldl_keeps _ (fun u : State => u.sup.note) (by intros; simp) _ _).trans (by simp),
    (foldl_keeps _ (fun u : State => u.sup.privileges) (by intros; simp) _ _).trans (by simp),
    (foldl_keeps _ (fun u : State => u.sup.resetPending) (by intros; simp) _ _).trans (by simp),
    (foldl_keeps _ (fun u : State => u.sup.resetInput) (by intros; simp) _ _).trans (by simp)⟩

@[simp] theorem closeGroup_keeps (g : GroupNo) (k : Key) (s : State) :
    (closeGroup g k s).time = s.time ∧
    (closeGroup g k s).lines = s.lines ∧
    (closeGroup g k s).masked = s.masked ∧
    (closeGroup g k s).waiting = s.waiting ∧
    (closeGroup g k s).unrouted = s.unrouted ∧
    (closeGroup g k s).entries = s.entries ∧
    (closeGroup g k s).banks = s.banks ∧
    (closeGroup g k s).pool = s.pool ∧
    (closeGroup g k s).queues = s.queues ∧
    (closeGroup g k s).drops = s.drops ∧
    (closeGroup g k s).presentation = s.presentation ∧
    (closeGroup g k s).contexts = s.contexts ∧
    (closeGroup g k s).profiles = s.profiles ∧
    (closeGroup g k s).clientLines = s.clientLines ∧
    (closeGroup g k s).board = s.board ∧
    (closeGroup g k s).health = s.health ∧
    (closeGroup g k s).posts = s.posts ∧
    (closeGroup g k s).sup = s.sup ∧
    (closeGroup g k s).links = s.links ∧
    (closeGroup g k s).pending = s.pending := by
  simp only [closeGroup]
  repeat' split
  all_goals simp

@[simp] theorem routeFirst_keeps (d : Descriptor) (x : RouteEntry) (e : EntryNo) (rs : List Client) (s : State) :
    (routeFirst d x e rs s).time = s.time ∧
    (routeFirst d x e rs s).masked = s.masked ∧
    (routeFirst d x e rs s).waiting = s.waiting ∧
    (routeFirst d x e rs s).unrouted = s.unrouted ∧
    (routeFirst d x e rs s).entries = s.entries ∧
    (routeFirst d x e rs s).banks = s.banks ∧
    (routeFirst d x e rs s).profiles = s.profiles ∧
    (routeFirst d x e rs s).board = s.board ∧
    (routeFirst d x e rs s).health = s.health ∧
    (routeFirst d x e rs s).pending = s.pending ∧
    (routeFirst d x e rs s).sup.pins = s.sup.pins ∧
    (routeFirst d x e rs s).sup.straps = s.sup.straps ∧
    (routeFirst d x e rs s).sup.frozen = s.sup.frozen ∧
    (routeFirst d x e rs s).sup.cause = s.sup.cause ∧
    (routeFirst d x e rs s).sup.note = s.sup.note ∧
    (routeFirst d x e rs s).sup.privileges = s.sup.privileges ∧
    (routeFirst d x e rs s).sup.resetPending = s.sup.resetPending ∧
    (routeFirst d x e rs s).sup.resetInput = s.sup.resetInput := by
  simp only [routeFirst]
  repeat' split
  all_goals simp

@[simp] theorem routeByEntry_keeps (d : Descriptor) (e : EntryNo) (s : State) :
    (routeByEntry d e s).time = s.time ∧
    (routeByEntry d e s).masked = s.masked ∧
    (routeByEntry d e s).waiting = s.waiting ∧
    (routeByEntry d e s).unrouted = s.unrouted ∧
    (routeByEntry d e s).entries = s.entries ∧
    (routeByEntry d e s).banks = s.banks ∧
    (routeByEntry d e s).profiles = s.profiles ∧
    (routeByEntry d e s).board = s.board ∧
    (routeByEntry d e s).health = s.health ∧
    (routeByEntry d e s).pending = s.pending ∧
    (routeByEntry d e s).sup.pins = s.sup.pins ∧
    (routeByEntry d e s).sup.straps = s.sup.straps ∧
    (routeByEntry d e s).sup.frozen = s.sup.frozen ∧
    (routeByEntry d e s).sup.cause = s.sup.cause ∧
    (routeByEntry d e s).sup.note = s.sup.note ∧
    (routeByEntry d e s).sup.privileges = s.sup.privileges ∧
    (routeByEntry d e s).sup.resetPending = s.sup.resetPending ∧
    (routeByEntry d e s).sup.resetInput = s.sup.resetInput := by
  simp only [routeByEntry]
  repeat' split
  all_goals simp

@[simp] theorem routeUnrouted_keeps (d : Descriptor) (s : State) :
    (routeUnrouted d s).time = s.time ∧
    (routeUnrouted d s).masked = s.masked ∧
    (routeUnrouted d s).waiting = s.waiting ∧
    (routeUnrouted d s).entries = s.entries ∧
    (routeUnrouted d s).banks = s.banks ∧
    (routeUnrouted d s).profiles = s.profiles ∧
    (routeUnrouted d s).board = s.board ∧
    (routeUnrouted d s).health = s.health ∧
    (routeUnrouted d s).pending = s.pending ∧
    (routeUnrouted d s).sup.pins = s.sup.pins ∧
    (routeUnrouted d s).sup.straps = s.sup.straps ∧
    (routeUnrouted d s).sup.frozen = s.sup.frozen ∧
    (routeUnrouted d s).sup.cause = s.sup.cause ∧
    (routeUnrouted d s).sup.note = s.sup.note ∧
    (routeUnrouted d s).sup.privileges = s.sup.privileges ∧
    (routeUnrouted d s).sup.resetPending = s.sup.resetPending ∧
    (routeUnrouted d s).sup.resetInput = s.sup.resetInput := by
  simp only [routeUnrouted]
  repeat' split
  all_goals simp

@[simp] theorem routeEvent_keeps (d : Descriptor) (s : State) :
    (routeEvent d s).time = s.time ∧
    (routeEvent d s).masked = s.masked ∧
    (routeEvent d s).waiting = s.waiting ∧
    (routeEvent d s).entries = s.entries ∧
    (routeEvent d s).banks = s.banks ∧
    (routeEvent d s).profiles = s.profiles ∧
    (routeEvent d s).board = s.board ∧
    (routeEvent d s).health = s.health ∧
    (routeEvent d s).pending = s.pending ∧
    (routeEvent d s).sup.pins = s.sup.pins ∧
    (routeEvent d s).sup.straps = s.sup.straps ∧
    (routeEvent d s).sup.frozen = s.sup.frozen ∧
    (routeEvent d s).sup.cause = s.sup.cause ∧
    (routeEvent d s).sup.note = s.sup.note ∧
    (routeEvent d s).sup.privileges = s.sup.privileges ∧
    (routeEvent d s).sup.resetPending = s.sup.resetPending ∧
    (routeEvent d s).sup.resetInput = s.sup.resetInput := by
  simp only [routeEvent]
  repeat' split
  all_goals simp

@[simp] theorem takeHead_keeps (s : State) :
    (takeHead s).time = s.time ∧
    (takeHead s).masked = s.masked ∧
    (takeHead s).entries = s.entries ∧
    (takeHead s).banks = s.banks ∧
    (takeHead s).profiles = s.profiles ∧
    (takeHead s).board = s.board ∧
    (takeHead s).health = s.health ∧
    (takeHead s).pending = s.pending ∧
    (takeHead s).sup.pins = s.sup.pins ∧
    (takeHead s).sup.straps = s.sup.straps ∧
    (takeHead s).sup.frozen = s.sup.frozen ∧
    (takeHead s).sup.cause = s.sup.cause ∧
    (takeHead s).sup.note = s.sup.note ∧
    (takeHead s).sup.privileges = s.sup.privileges ∧
    (takeHead s).sup.resetPending = s.sup.resetPending ∧
    (takeHead s).sup.resetInput = s.sup.resetInput := by
  simp only [takeHead]
  repeat' split
  all_goals simp

@[simp] theorem contextTimerExpires_keeps (c : Client) (k : ContextName) (s : State) :
    (contextTimerExpires c k s).time = s.time ∧
    (contextTimerExpires c k s).lines = s.lines ∧
    (contextTimerExpires c k s).masked = s.masked ∧
    (contextTimerExpires c k s).lostNotices = s.lostNotices ∧
    (contextTimerExpires c k s).unrouted = s.unrouted ∧
    (contextTimerExpires c k s).entries = s.entries ∧
    (contextTimerExpires c k s).banks = s.banks ∧
    (contextTimerExpires c k s).groups = s.groups ∧
    (contextTimerExpires c k s).pool = s.pool ∧
    (contextTimerExpires c k s).queues = s.queues ∧
    (contextTimerExpires c k s).drops = s.drops ∧
    (contextTimerExpires c k s).presentation = s.presentation ∧
    (contextTimerExpires c k s).profiles = s.profiles ∧
    (contextTimerExpires c k s).clientLines = s.clientLines ∧
    (contextTimerExpires c k s).board = s.board ∧
    (contextTimerExpires c k s).health = s.health ∧
    (contextTimerExpires c k s).posts = s.posts ∧
    (contextTimerExpires c k s).sup = s.sup ∧
    (contextTimerExpires c k s).links = s.links ∧
    (contextTimerExpires c k s).pending = s.pending := by
  simp only [contextTimerExpires]
  repeat' split
  all_goals simp

@[simp] theorem pulseExpires_keeps (c : Client) (s : State) :
    (pulseExpires c s).time = s.time ∧
    (pulseExpires c s).lines = s.lines ∧
    (pulseExpires c s).masked = s.masked ∧
    (pulseExpires c s).intake = s.intake ∧
    (pulseExpires c s).waiting = s.waiting ∧
    (pulseExpires c s).lostNotices = s.lostNotices ∧
    (pulseExpires c s).unrouted = s.unrouted ∧
    (pulseExpires c s).entries = s.entries ∧
    (pulseExpires c s).banks = s.banks ∧
    (pulseExpires c s).groups = s.groups ∧
    (pulseExpires c s).pool = s.pool ∧
    (pulseExpires c s).queues = s.queues ∧
    (pulseExpires c s).drops = s.drops ∧
    (pulseExpires c s).presentation = s.presentation ∧
    (pulseExpires c s).contexts = s.contexts ∧
    (pulseExpires c s).profiles = s.profiles ∧
    (pulseExpires c s).board = s.board ∧
    (pulseExpires c s).health = s.health ∧
    (pulseExpires c s).posts = s.posts ∧
    (pulseExpires c s).sup = s.sup ∧
    (pulseExpires c s).links = s.links ∧
    (pulseExpires c s).pending = s.pending := by
  simp only [pulseExpires]
  repeat' split
  all_goals simp

@[simp] theorem releaseLine_keeps (s : State) (c : Client) :
    (releaseLine s c).time = s.time ∧
    (releaseLine s c).lines = s.lines ∧
    (releaseLine s c).masked = s.masked ∧
    (releaseLine s c).intake = s.intake ∧
    (releaseLine s c).waiting = s.waiting ∧
    (releaseLine s c).lostNotices = s.lostNotices ∧
    (releaseLine s c).unrouted = s.unrouted ∧
    (releaseLine s c).entries = s.entries ∧
    (releaseLine s c).banks = s.banks ∧
    (releaseLine s c).groups = s.groups ∧
    (releaseLine s c).pool = s.pool ∧
    (releaseLine s c).queues = s.queues ∧
    (releaseLine s c).drops = s.drops ∧
    (releaseLine s c).presentation = s.presentation ∧
    (releaseLine s c).contexts = s.contexts ∧
    (releaseLine s c).profiles = s.profiles ∧
    (releaseLine s c).board = s.board ∧
    (releaseLine s c).health = s.health ∧
    (releaseLine s c).posts = s.posts ∧
    (releaseLine s c).sup = s.sup ∧
    (releaseLine s c).links = s.links ∧
    (releaseLine s c).pending = s.pending := by
  simp only [releaseLine]
  repeat' split
  all_goals simp

@[simp] theorem boardPulseExpires_keeps (s : State) :
    (boardPulseExpires s).time = s.time ∧
    (boardPulseExpires s).lines = s.lines ∧
    (boardPulseExpires s).masked = s.masked ∧
    (boardPulseExpires s).intake = s.intake ∧
    (boardPulseExpires s).waiting = s.waiting ∧
    (boardPulseExpires s).lostNotices = s.lostNotices ∧
    (boardPulseExpires s).unrouted = s.unrouted ∧
    (boardPulseExpires s).entries = s.entries ∧
    (boardPulseExpires s).banks = s.banks ∧
    (boardPulseExpires s).groups = s.groups ∧
    (boardPulseExpires s).pool = s.pool ∧
    (boardPulseExpires s).queues = s.queues ∧
    (boardPulseExpires s).drops = s.drops ∧
    (boardPulseExpires s).presentation = s.presentation ∧
    (boardPulseExpires s).contexts = s.contexts ∧
    (boardPulseExpires s).profiles = s.profiles ∧
    (boardPulseExpires s).health = s.health ∧
    (boardPulseExpires s).posts = s.posts ∧
    (boardPulseExpires s).sup = s.sup ∧
    (boardPulseExpires s).links = s.links ∧
    (boardPulseExpires s).pending = s.pending := by
  unfold boardPulseExpires
  exact ⟨(foldl_keeps _ (fun u : State => u.time) (by intros; simp) _ _).trans (by simp),
    (foldl_keeps _ (fun u : State => u.lines) (by intros; simp) _ _).trans (by simp),
    (foldl_keeps _ (fun u : State => u.masked) (by intros; simp) _ _).trans (by simp),
    (foldl_keeps _ (fun u : State => u.intake) (by intros; simp) _ _).trans (by simp),
    (foldl_keeps _ (fun u : State => u.waiting) (by intros; simp) _ _).trans (by simp),
    (foldl_keeps _ (fun u : State => u.lostNotices) (by intros; simp) _ _).trans (by simp),
    (foldl_keeps _ (fun u : State => u.unrouted) (by intros; simp) _ _).trans (by simp),
    (foldl_keeps _ (fun u : State => u.entries) (by intros; simp) _ _).trans (by simp),
    (foldl_keeps _ (fun u : State => u.banks) (by intros; simp) _ _).trans (by simp),
    (foldl_keeps _ (fun u : State => u.groups) (by intros; simp) _ _).trans (by simp),
    (foldl_keeps _ (fun u : State => u.pool) (by intros; simp) _ _).trans (by simp),
    (foldl_keeps _ (fun u : State => u.queues) (by intros; simp) _ _).trans (by simp),
    (foldl_keeps _ (fun u : State => u.drops) (by intros; simp) _ _).trans (by simp),
    (foldl_keeps _ (fun u : State => u.presentation) (by intros; simp) _ _).trans (by simp),
    (foldl_keeps _ (fun u : State => u.contexts) (by intros; simp) _ _).trans (by simp),
    (foldl_keeps _ (fun u : State => u.profiles) (by intros; simp) _ _).trans (by simp),
    (foldl_keeps _ (fun u : State => u.health) (by intros; simp) _ _).trans (by simp),
    (foldl_keeps _ (fun u : State => u.posts) (by intros; simp) _ _).trans (by simp),
    (foldl_keeps _ (fun u : State => u.sup) (by intros; simp) _ _).trans (by simp),
    (foldl_keeps _ (fun u : State => u.links) (by intros; simp) _ _).trans (by simp),
    (foldl_keeps _ (fun u : State => u.pending) (by intros; simp) _ _).trans (by simp)⟩

@[simp] theorem boardOutputExpires_keeps (s : State) :
    (boardOutputExpires s).time = s.time ∧
    (boardOutputExpires s).lines = s.lines ∧
    (boardOutputExpires s).masked = s.masked ∧
    (boardOutputExpires s).intake = s.intake ∧
    (boardOutputExpires s).waiting = s.waiting ∧
    (boardOutputExpires s).lostNotices = s.lostNotices ∧
    (boardOutputExpires s).unrouted = s.unrouted ∧
    (boardOutputExpires s).entries = s.entries ∧
    (boardOutputExpires s).banks = s.banks ∧
    (boardOutputExpires s).groups = s.groups ∧
    (boardOutputExpires s).pool = s.pool ∧
    (boardOutputExpires s).queues = s.queues ∧
    (boardOutputExpires s).drops = s.drops ∧
    (boardOutputExpires s).presentation = s.presentation ∧
    (boardOutputExpires s).contexts = s.contexts ∧
    (boardOutputExpires s).profiles = s.profiles ∧
    (boardOutputExpires s).clientLines = s.clientLines ∧
    (boardOutputExpires s).health = s.health ∧
    (boardOutputExpires s).posts = s.posts ∧
    (boardOutputExpires s).sup = s.sup ∧
    (boardOutputExpires s).links = s.links ∧
    (boardOutputExpires s).pending = s.pending := by
  simp only [boardOutputExpires]
  repeat' split
  all_goals simp

@[simp] theorem spacingExpires_keeps (c : Client) (s : State) :
    (spacingExpires c s).time = s.time ∧
    (spacingExpires c s).lines = s.lines ∧
    (spacingExpires c s).masked = s.masked ∧
    (spacingExpires c s).intake = s.intake ∧
    (spacingExpires c s).waiting = s.waiting ∧
    (spacingExpires c s).lostNotices = s.lostNotices ∧
    (spacingExpires c s).unrouted = s.unrouted ∧
    (spacingExpires c s).entries = s.entries ∧
    (spacingExpires c s).banks = s.banks ∧
    (spacingExpires c s).groups = s.groups ∧
    (spacingExpires c s).pool = s.pool ∧
    (spacingExpires c s).queues = s.queues ∧
    (spacingExpires c s).drops = s.drops ∧
    (spacingExpires c s).presentation = s.presentation ∧
    (spacingExpires c s).contexts = s.contexts ∧
    (spacingExpires c s).profiles = s.profiles ∧
    (spacingExpires c s).clientLines = s.clientLines ∧
    (spacingExpires c s).board = s.board ∧
    (spacingExpires c s).posts = s.posts ∧
    (spacingExpires c s).sup = s.sup ∧
    (spacingExpires c s).links = s.links ∧
    (spacingExpires c s).pending = s.pending := by
  simp only [spacingExpires]
  repeat' split
  all_goals simp

@[simp] theorem lowerStage_keeps (c : Client) (s : State) :
    (lowerStage c s).time = s.time ∧
    (lowerStage c s).lines = s.lines ∧
    (lowerStage c s).masked = s.masked ∧
    (lowerStage c s).intake = s.intake ∧
    (lowerStage c s).waiting = s.waiting ∧
    (lowerStage c s).lostNotices = s.lostNotices ∧
    (lowerStage c s).unrouted = s.unrouted ∧
    (lowerStage c s).entries = s.entries ∧
    (lowerStage c s).banks = s.banks ∧
    (lowerStage c s).groups = s.groups ∧
    (lowerStage c s).queues = s.queues ∧
    (lowerStage c s).drops = s.drops ∧
    (lowerStage c s).presentation = s.presentation ∧
    (lowerStage c s).contexts = s.contexts ∧
    (lowerStage c s).profiles = s.profiles ∧
    (lowerStage c s).clientLines = s.clientLines ∧
    (lowerStage c s).board = s.board ∧
    (lowerStage c s).health = s.health ∧
    (lowerStage c s).posts = s.posts ∧
    (lowerStage c s).sup = s.sup ∧
    (lowerStage c s).links = s.links ∧
    (lowerStage c s).pending = s.pending := by
  simp only [lowerStage]
  repeat' split
  all_goals simp

@[simp] theorem declareReady_keeps (c : Client) (s : State) :
    (declareReady c s).time = s.time ∧
    (declareReady c s).lines = s.lines ∧
    (declareReady c s).masked = s.masked ∧
    (declareReady c s).intake = s.intake ∧
    (declareReady c s).waiting = s.waiting ∧
    (declareReady c s).lostNotices = s.lostNotices ∧
    (declareReady c s).unrouted = s.unrouted ∧
    (declareReady c s).entries = s.entries ∧
    (declareReady c s).banks = s.banks ∧
    (declareReady c s).groups = s.groups ∧
    (declareReady c s).profiles = s.profiles ∧
    (declareReady c s).board = s.board ∧
    (declareReady c s).health = s.health ∧
    (declareReady c s).sup = s.sup ∧
    (declareReady c s).pending = s.pending := by
  simp only [declareReady]
  repeat' split
  all_goals simp

@[simp] theorem setLastRecalled_keeps (d : Client) (h : Option Handle) (s : State) :
    (setLastRecalled d h s).time = s.time ∧
    (setLastRecalled d h s).lines = s.lines ∧
    (setLastRecalled d h s).masked = s.masked ∧
    (setLastRecalled d h s).intake = s.intake ∧
    (setLastRecalled d h s).waiting = s.waiting ∧
    (setLastRecalled d h s).lostNotices = s.lostNotices ∧
    (setLastRecalled d h s).unrouted = s.unrouted ∧
    (setLastRecalled d h s).entries = s.entries ∧
    (setLastRecalled d h s).banks = s.banks ∧
    (setLastRecalled d h s).groups = s.groups ∧
    (setLastRecalled d h s).pool = s.pool ∧
    (setLastRecalled d h s).queues = s.queues ∧
    (setLastRecalled d h s).drops = s.drops ∧
    (setLastRecalled d h s).contexts = s.contexts ∧
    (setLastRecalled d h s).profiles = s.profiles ∧
    (setLastRecalled d h s).clientLines = s.clientLines ∧
    (setLastRecalled d h s).board = s.board ∧
    (setLastRecalled d h s).health = s.health ∧
    (setLastRecalled d h s).posts = s.posts ∧
    (setLastRecalled d h s).sup = s.sup ∧
    (setLastRecalled d h s).links = s.links ∧
    (setLastRecalled d h s).pending = s.pending := by
  simp only [setLastRecalled]
  repeat' split
  all_goals simp

@[simp] theorem withdrawCopy_keeps (d : Client) (j : RecIndex) (r : Record) (s : State) :
    (withdrawCopy d j r s).time = s.time ∧
    (withdrawCopy d j r s).masked = s.masked ∧
    (withdrawCopy d j r s).waiting = s.waiting ∧
    (withdrawCopy d j r s).unrouted = s.unrouted ∧
    (withdrawCopy d j r s).entries = s.entries ∧
    (withdrawCopy d j r s).banks = s.banks ∧
    (withdrawCopy d j r s).drops = s.drops ∧
    (withdrawCopy d j r s).profiles = s.profiles ∧
    (withdrawCopy d j r s).board = s.board ∧
    (withdrawCopy d j r s).health = s.health ∧
    (withdrawCopy d j r s).pending = s.pending ∧
    (withdrawCopy d j r s).sup.pins = s.sup.pins ∧
    (withdrawCopy d j r s).sup.straps = s.sup.straps ∧
    (withdrawCopy d j r s).sup.frozen = s.sup.frozen ∧
    (withdrawCopy d j r s).sup.cause = s.sup.cause ∧
    (withdrawCopy d j r s).sup.note = s.sup.note ∧
    (withdrawCopy d j r s).sup.privileges = s.sup.privileges ∧
    (withdrawCopy d j r s).sup.resetPending = s.sup.resetPending ∧
    (withdrawCopy d j r s).sup.resetInput = s.sup.resetInput := by
  simp only [withdrawCopy]
  repeat' split
  all_goals simp

@[simp] theorem withdrawFrom_keeps (g : GroupNo) (i : RecIndex) (s : State) (d : Client) :
    (withdrawFrom g i s d).time = s.time ∧
    (withdrawFrom g i s d).masked = s.masked ∧
    (withdrawFrom g i s d).waiting = s.waiting ∧
    (withdrawFrom g i s d).unrouted = s.unrouted ∧
    (withdrawFrom g i s d).entries = s.entries ∧
    (withdrawFrom g i s d).banks = s.banks ∧
    (withdrawFrom g i s d).drops = s.drops ∧
    (withdrawFrom g i s d).profiles = s.profiles ∧
    (withdrawFrom g i s d).board = s.board ∧
    (withdrawFrom g i s d).health = s.health ∧
    (withdrawFrom g i s d).pending = s.pending ∧
    (withdrawFrom g i s d).sup.pins = s.sup.pins ∧
    (withdrawFrom g i s d).sup.straps = s.sup.straps ∧
    (withdrawFrom g i s d).sup.frozen = s.sup.frozen ∧
    (withdrawFrom g i s d).sup.cause = s.sup.cause ∧
    (withdrawFrom g i s d).sup.note = s.sup.note ∧
    (withdrawFrom g i s d).sup.privileges = s.sup.privileges ∧
    (withdrawFrom g i s d).sup.resetPending = s.sup.resetPending ∧
    (withdrawFrom g i s d).sup.resetInput = s.sup.resetInput := by
  simp only [withdrawFrom]
  repeat' split
  all_goals simp

@[simp] theorem winGroup_keeps (g : GroupNo) (x : FirstGroup) (i : RecIndex) (s : State) :
    (winGroup g x i s).time = s.time ∧
    (winGroup g x i s).masked = s.masked ∧
    (winGroup g x i s).waiting = s.waiting ∧
    (winGroup g x i s).unrouted = s.unrouted ∧
    (winGroup g x i s).entries = s.entries ∧
    (winGroup g x i s).banks = s.banks ∧
    (winGroup g x i s).drops = s.drops ∧
    (winGroup g x i s).profiles = s.profiles ∧
    (winGroup g x i s).board = s.board ∧
    (winGroup g x i s).health = s.health ∧
    (winGroup g x i s).pending = s.pending ∧
    (winGroup g x i s).sup.pins = s.sup.pins ∧
    (winGroup g x i s).sup.straps = s.sup.straps ∧
    (winGroup g x i s).sup.frozen = s.sup.frozen ∧
    (winGroup g x i s).sup.cause = s.sup.cause ∧
    (winGroup g x i s).sup.note = s.sup.note ∧
    (winGroup g x i s).sup.privileges = s.sup.privileges ∧
    (winGroup g x i s).sup.resetPending = s.sup.resetPending ∧
    (winGroup g x i s).sup.resetInput = s.sup.resetInput := by
  unfold winGroup
  exact ⟨(foldl_keeps _ (fun u : State => u.time) (by intros; simp) _ _).trans (by simp),
    (foldl_keeps _ (fun u : State => u.masked) (by intros; simp) _ _).trans (by simp),
    (foldl_keeps _ (fun u : State => u.waiting) (by intros; simp) _ _).trans (by simp),
    (foldl_keeps _ (fun u : State => u.unrouted) (by intros; simp) _ _).trans (by simp),
    (foldl_keeps _ (fun u : State => u.entries) (by intros; simp) _ _).trans (by simp),
    (foldl_keeps _ (fun u : State => u.banks) (by intros; simp) _ _).trans (by simp),
    (foldl_keeps _ (fun u : State => u.drops) (by intros; simp) _ _).trans (by simp),
    (foldl_keeps _ (fun u : State => u.profiles) (by intros; simp) _ _).trans (by simp),
    (foldl_keeps _ (fun u : State => u.board) (by intros; simp) _ _).trans (by simp),
    (foldl_keeps _ (fun u : State => u.health) (by intros; simp) _ _).trans (by simp),
    (foldl_keeps _ (fun u : State => u.pending) (by intros; simp) _ _).trans (by simp),
    (foldl_keeps _ (fun u : State => u.sup.pins) (by intros; simp) _ _).trans (by simp),
    (foldl_keeps _ (fun u : State => u.sup.straps) (by intros; simp) _ _).trans (by simp),
    (foldl_keeps _ (fun u : State => u.sup.frozen) (by intros; simp) _ _).trans (by simp),
    (foldl_keeps _ (fun u : State => u.sup.cause) (by intros; simp) _ _).trans (by simp),
    (foldl_keeps _ (fun u : State => u.sup.note) (by intros; simp) _ _).trans (by simp),
    (foldl_keeps _ (fun u : State => u.sup.privileges) (by intros; simp) _ _).trans (by simp),
    (foldl_keeps _ (fun u : State => u.sup.resetPending) (by intros; simp) _ _).trans (by simp),
    (foldl_keeps _ (fun u : State => u.sup.resetInput) (by intros; simp) _ _).trans (by simp)⟩

@[simp] theorem decideGroup_keeps (i : RecIndex) (r : Record) (d : Disposition) (s : State) :
    (decideGroup i r d s).time = s.time ∧
    (decideGroup i r d s).masked = s.masked ∧
    (decideGroup i r d s).waiting = s.waiting ∧
    (decideGroup i r d s).unrouted = s.unrouted ∧
    (decideGroup i r d s).entries = s.entries ∧
    (decideGroup i r d s).banks = s.banks ∧
    (decideGroup i r d s).drops = s.drops ∧
    (decideGroup i r d s).profiles = s.profiles ∧
    (decideGroup i r d s).board = s.board ∧
    (decideGroup i r d s).health = s.health ∧
    (decideGroup i r d s).pending = s.pending ∧
    (decideGroup i r d s).sup.pins = s.sup.pins ∧
    (decideGroup i r d s).sup.straps = s.sup.straps ∧
    (decideGroup i r d s).sup.frozen = s.sup.frozen ∧
    (decideGroup i r d s).sup.cause = s.sup.cause ∧
    (decideGroup i r d s).sup.note = s.sup.note ∧
    (decideGroup i r d s).sup.privileges = s.sup.privileges ∧
    (decideGroup i r d s).sup.resetPending = s.sup.resetPending ∧
    (decideGroup i r d s).sup.resetInput = s.sup.resetInput := by
  simp only [decideGroup]
  repeat' split
  all_goals simp

@[simp] theorem ackEndsHoldOff_keeps (c : Client) (s : State) :
    (ackEndsHoldOff c s).time = s.time ∧
    (ackEndsHoldOff c s).lines = s.lines ∧
    (ackEndsHoldOff c s).masked = s.masked ∧
    (ackEndsHoldOff c s).intake = s.intake ∧
    (ackEndsHoldOff c s).waiting = s.waiting ∧
    (ackEndsHoldOff c s).lostNotices = s.lostNotices ∧
    (ackEndsHoldOff c s).unrouted = s.unrouted ∧
    (ackEndsHoldOff c s).entries = s.entries ∧
    (ackEndsHoldOff c s).banks = s.banks ∧
    (ackEndsHoldOff c s).groups = s.groups ∧
    (ackEndsHoldOff c s).drops = s.drops ∧
    (ackEndsHoldOff c s).profiles = s.profiles ∧
    (ackEndsHoldOff c s).board = s.board ∧
    (ackEndsHoldOff c s).health = s.health ∧
    (ackEndsHoldOff c s).sup = s.sup ∧
    (ackEndsHoldOff c s).pending = s.pending := by
  simp only [ackEndsHoldOff]
  repeat' split
  all_goals simp

@[simp] theorem ackPresented_keeps (c : Client) (i : RecIndex) (r : Record) (d : Disposition) (s : State) :
    (ackPresented c i r d s).time = s.time ∧
    (ackPresented c i r d s).masked = s.masked ∧
    (ackPresented c i r d s).waiting = s.waiting ∧
    (ackPresented c i r d s).unrouted = s.unrouted ∧
    (ackPresented c i r d s).entries = s.entries ∧
    (ackPresented c i r d s).banks = s.banks ∧
    (ackPresented c i r d s).drops = s.drops ∧
    (ackPresented c i r d s).profiles = s.profiles ∧
    (ackPresented c i r d s).board = s.board ∧
    (ackPresented c i r d s).pending = s.pending ∧
    (ackPresented c i r d s).sup.pins = s.sup.pins ∧
    (ackPresented c i r d s).sup.straps = s.sup.straps ∧
    (ackPresented c i r d s).sup.frozen = s.sup.frozen ∧
    (ackPresented c i r d s).sup.cause = s.sup.cause ∧
    (ackPresented c i r d s).sup.note = s.sup.note ∧
    (ackPresented c i r d s).sup.privileges = s.sup.privileges ∧
    (ackPresented c i r d s).sup.resetPending = s.sup.resetPending ∧
    (ackPresented c i r d s).sup.resetInput = s.sup.resetInput := by
  simp only [ackPresented]
  repeat' split
  all_goals simp

@[simp] theorem ackSuspended_keeps (c : Client) (i : RecIndex) (r : Record) (d : Disposition) (s : State) :
    (ackSuspended c i r d s).time = s.time ∧
    (ackSuspended c i r d s).masked = s.masked ∧
    (ackSuspended c i r d s).waiting = s.waiting ∧
    (ackSuspended c i r d s).unrouted = s.unrouted ∧
    (ackSuspended c i r d s).entries = s.entries ∧
    (ackSuspended c i r d s).banks = s.banks ∧
    (ackSuspended c i r d s).drops = s.drops ∧
    (ackSuspended c i r d s).profiles = s.profiles ∧
    (ackSuspended c i r d s).board = s.board ∧
    (ackSuspended c i r d s).health = s.health ∧
    (ackSuspended c i r d s).pending = s.pending ∧
    (ackSuspended c i r d s).sup.pins = s.sup.pins ∧
    (ackSuspended c i r d s).sup.straps = s.sup.straps ∧
    (ackSuspended c i r d s).sup.frozen = s.sup.frozen ∧
    (ackSuspended c i r d s).sup.cause = s.sup.cause ∧
    (ackSuspended c i r d s).sup.note = s.sup.note ∧
    (ackSuspended c i r d s).sup.privileges = s.sup.privileges ∧
    (ackSuspended c i r d s).sup.resetPending = s.sup.resetPending ∧
    (ackSuspended c i r d s).sup.resetInput = s.sup.resetInput := by
  simp only [ackSuspended]
  repeat' split
  all_goals simp

@[simp] theorem setFilter_keeps (c : Client) (k : ContextName) (classes : FlagSet) (threshold : Priority) (s : State) :
    (setFilter c k classes threshold s).time = s.time ∧
    (setFilter c k classes threshold s).lines = s.lines ∧
    (setFilter c k classes threshold s).masked = s.masked ∧
    (setFilter c k classes threshold s).intake = s.intake ∧
    (setFilter c k classes threshold s).waiting = s.waiting ∧
    (setFilter c k classes threshold s).lostNotices = s.lostNotices ∧
    (setFilter c k classes threshold s).unrouted = s.unrouted ∧
    (setFilter c k classes threshold s).entries = s.entries ∧
    (setFilter c k classes threshold s).banks = s.banks ∧
    (setFilter c k classes threshold s).groups = s.groups ∧
    (setFilter c k classes threshold s).drops = s.drops ∧
    (setFilter c k classes threshold s).profiles = s.profiles ∧
    (setFilter c k classes threshold s).board = s.board ∧
    (setFilter c k classes threshold s).health = s.health ∧
    (setFilter c k classes threshold s).sup = s.sup ∧
    (setFilter c k classes threshold s).pending = s.pending := by
  simp only [setFilter]
  repeat' split
  all_goals simp

@[simp] theorem setTimer_keeps (c : Client) (k : ContextName) (t : TimerSetting) (s : State) :
    (setTimer c k t s).time = s.time ∧
    (setTimer c k t s).lines = s.lines ∧
    (setTimer c k t s).masked = s.masked ∧
    (setTimer c k t s).intake = s.intake ∧
    (setTimer c k t s).waiting = s.waiting ∧
    (setTimer c k t s).lostNotices = s.lostNotices ∧
    (setTimer c k t s).unrouted = s.unrouted ∧
    (setTimer c k t s).entries = s.entries ∧
    (setTimer c k t s).banks = s.banks ∧
    (setTimer c k t s).groups = s.groups ∧
    (setTimer c k t s).pool = s.pool ∧
    (setTimer c k t s).queues = s.queues ∧
    (setTimer c k t s).drops = s.drops ∧
    (setTimer c k t s).presentation = s.presentation ∧
    (setTimer c k t s).profiles = s.profiles ∧
    (setTimer c k t s).clientLines = s.clientLines ∧
    (setTimer c k t s).board = s.board ∧
    (setTimer c k t s).health = s.health ∧
    (setTimer c k t s).posts = s.posts ∧
    (setTimer c k t s).sup = s.sup ∧
    (setTimer c k t s).links = s.links ∧
    (setTimer c k t s).pending = s.pending := by
  simp only [setTimer]
  repeat' split
  all_goals simp

@[simp] theorem joinFlags_keeps (t : Client) (f : FlagSet) (s : State) :
    (joinFlags t f s).time = s.time ∧
    (joinFlags t f s).lines = s.lines ∧
    (joinFlags t f s).masked = s.masked ∧
    (joinFlags t f s).intake = s.intake ∧
    (joinFlags t f s).waiting = s.waiting ∧
    (joinFlags t f s).lostNotices = s.lostNotices ∧
    (joinFlags t f s).unrouted = s.unrouted ∧
    (joinFlags t f s).entries = s.entries ∧
    (joinFlags t f s).banks = s.banks ∧
    (joinFlags t f s).groups = s.groups ∧
    (joinFlags t f s).pool = s.pool ∧
    (joinFlags t f s).queues = s.queues ∧
    (joinFlags t f s).drops = s.drops ∧
    (joinFlags t f s).presentation = s.presentation ∧
    (joinFlags t f s).contexts = s.contexts ∧
    (joinFlags t f s).profiles = s.profiles ∧
    (joinFlags t f s).clientLines = s.clientLines ∧
    (joinFlags t f s).board = s.board ∧
    (joinFlags t f s).health = s.health ∧
    (joinFlags t f s).sup = s.sup ∧
    (joinFlags t f s).links = s.links ∧
    (joinFlags t f s).pending = s.pending := by
  simp only [joinFlags]
  repeat' split
  all_goals simp

@[simp] theorem heartbeat_keeps (c : Client) (s : State) :
    (heartbeat c s).time = s.time ∧
    (heartbeat c s).lines = s.lines ∧
    (heartbeat c s).masked = s.masked ∧
    (heartbeat c s).waiting = s.waiting ∧
    (heartbeat c s).unrouted = s.unrouted ∧
    (heartbeat c s).entries = s.entries ∧
    (heartbeat c s).banks = s.banks ∧
    (heartbeat c s).groups = s.groups ∧
    (heartbeat c s).drops = s.drops ∧
    (heartbeat c s).profiles = s.profiles ∧
    (heartbeat c s).board = s.board ∧
    (heartbeat c s).sup = s.sup ∧
    (heartbeat c s).pending = s.pending := by
  simp only [heartbeat]
  repeat' split
  all_goals simp

end Sys2Proof.Machine
end

