-- ==== Sys2Proof/Laws/Lists.lean ====
section
/-! SUPPORT. Searching the numbered things in ascending order, and the place at which a record enters a queue (R57). -/

namespace Sys2Proof.Laws

open Sys2Proof.Machine

theorem find_finRange {n : Nat} (p : Fin n → Bool) (i : Fin n) :
    (List.finRange n).find? p = some i ↔ p i = true ∧ ∀ j, j < i → p j = false := by
  rw [List.find?_eq_some_iff_getElem]
  constructor
  · rintro ⟨h, k, hk, e, hj⟩
    simp at e
    subst e
    refine ⟨h, fun j hj' => ?_⟩
    have := hj j.val hj'
    simpa using this
  · rintro ⟨h, hj⟩
    refine ⟨h, i.val, by simp, by simp, fun j hji => ?_⟩
    have := hj ⟨j, by omega⟩ hji
    simpa using this

theorem findSome_finRange {n : Nat} {β : Type} (f : Fin n → Option β) (i : Fin n) (b : β) (h : f i = some b)
    (hj : ∀ j, j < i → f j = none) : (List.finRange n).findSome? f = some b := by
  rw [List.findSome?_eq_some_iff]
  refine ⟨(List.finRange n).take i.val, i, (List.finRange n).drop (i.val + 1), ?_, h, ?_⟩
  · conv_lhs => rw [← List.take_append_drop i.val (List.finRange n)]
    rw [List.drop_eq_getElem_cons (by simp)]
    simp
  · intro x hx
    rw [List.mem_take_iff_getElem] at hx
    obtain ⟨k, hk, e⟩ := hx
    simp at e
    exact hj x (by rw [← e]; show k < i.val; omega)

/-- A property of clients 0 to 3 is a property of every client. -/
theorem eachClient (p : Client → Prop) (h0 : p 0) (h1 : p 1) (h2 : p 2) (h3 : p 3) : ∀ c, p c := by
  intro c
  match c with
  | 0 => exact h0
  | 1 => exact h1
  | 2 => exact h2
  | 3 => exact h3

theorem placeBehind_le (g : RecIndex → Bool) (q : List RecIndex) : placeBehind g q ≤ q.length := by
  induction q with
  | nil => simp [placeBehind]
  | cons i r ih =>
    unfold placeBehind
    split
    · simpa using ih
    · split <;> simp

/-- No index at or behind the place meets the test. -/
theorem placeBehind_drop (g : RecIndex → Bool) (q : List RecIndex) : ∀ j ∈ q.drop (placeBehind g q), g j = false := by
  induction q with
  | nil => simp [placeBehind]
  | cons i r ih =>
    unfold placeBehind; split
    · simpa using ih
    · rename_i h; simp at h
      split
      · simpa using h
      · rename_i h'; simp at h'; simp [h']; exact h

/-- The index just before the place meets the test. -/
theorem placeBehind_take (g : RecIndex → Bool) (q : List RecIndex) :
    ∀ j, (q.take (placeBehind g q)).getLast? = some j → g j = true := by
  induction q with
  | nil => simp [placeBehind]
  | cons i r ih =>
    unfold placeBehind; split
    · rename_i h
      intro j hj
      rw [List.take_succ_cons] at hj
      by_cases hz : r.take (placeBehind g r) = []
      · exfalso
        have : placeBehind g r = 0 ∨ r = [] := by simpa using hz
        rcases this with h0 | h0
        · have := placeBehind_drop g r
          rw [h0] at this; simp at this h
          obtain ⟨x, hx, hg⟩ := h
          rw [this x hx] at hg; simp at hg
        · subst h0; simp at h
      · rw [List.getLast?_cons_of_ne_nil hz] at hj
        exact ih j hj
    · split
      · rename_i h'; intro j hj; simp at hj; subst hj; exact h'
      · simp

end Sys2Proof.Laws
end

