-- ==== Sys2Proof/Laws/Bridges.lean ====
section
/-! SUPPORT. The Boolean tests of the model beside the propositions of Safety that say the same in the manual's words. -/

namespace Sys2Proof.Laws

open Sys2Proof.Machine Sys2Proof.Safety

theorem attached_iff (s : State) (c : Client) : s.attached c = true ↔
    ((s.healthOf c).health = .healthy ∨ (s.healthOf c).health = .warned ∨ (s.healthOf c).health = .restricted) := by
  unfold State.attached Health.attached
  cases (s.healthOf c).health <;> simp

theorem qualifies_iff (s : State) (c : Client) (r : Record) : qualifies s c r = true ↔ Qualifies s c r := by
  unfold qualifies ContextState.accepts activeContext Qualifies
  rw [Bool.and_eq_true, Bool.and_eq_true, Bool.or_eq_true, Bool.or_eq_true, decide_eq_true_iff, decide_eq_true_iff,
    decide_eq_true_iff, and_assoc, or_assoc]
  exact Iff.rfl

theorem deliverBusy_iff (s : State) (c : Client) : deliverBusy s c = false ↔
    (∀ d, HubFrame.deliver d ∉ (s.link c).hub) ∧ ∀ d, (s.link c).tx ≠ some (.hub (.deliver d)) := by
  have h1 : (s.link c).hub.any HubFrame.isDeliver = false ↔ ∀ d, HubFrame.deliver d ∉ (s.link c).hub := by
    rw [List.any_eq_false]
    constructor
    · intro h d hd; exact h _ hd rfl
    · intro h x hx; rcases x with d | _ | _ | _ <;> simp [HubFrame.isDeliver]; exact h d hx
  have h2 : (s.link c).tx.any TxFrame.isDeliver = false ↔ ∀ d, (s.link c).tx ≠ some (.hub (.deliver d)) := by
    cases (s.link c).tx with
    | none => simp
    | some f =>
      rcases f with _ | f
      · simp [TxFrame.isDeliver]
      · rcases f with d | _ | _ | _ <;> simp [TxFrame.isDeliver, HubFrame.isDeliver]
  simp only [deliverBusy, Bool.or_eq_false_iff, h1, h2]

theorem mayPresent_iff (s : State) (c : Client) : mayPresent s c = true ↔ MayPresent s c := by
  simp [mayPresent, MayPresent, deliverBusy_iff, attached_iff, and_assoc, State.mode]

theorem forcedCondition_iff (s : State) (c : Client) : forcedCondition s c = true ↔ Forced s c := by
  simp only [forcedCondition, Forced, Bool.and_eq_true, attached_iff, decide_eq_true_eq, urgentForService,
    List.any_eq_true, Option.any_eq_true, ContextState.accepts, and_assoc, Bool.not_eq_true']
  constructor
  · rintro ⟨a, b, d, e, i, hi, r, hr, f, g, h⟩
    exact ⟨a, b, d, e, i, r, hi, hr, f, g, h⟩
  · rintro ⟨a, b, d, e, i, r, hi, hr, f, g, h⟩
    exact ⟨a, b, d, e, i, hi, r, hr, f, g, h⟩

theorem agrees_iff {w : Nat} (care a b : BitVec w) :
    agrees care a b = true ↔ ∀ n, n < w → care.getLsbD n = true → a.getLsbD n = b.getLsbD n := by
  simp only [agrees, decide_eq_true_eq]
  constructor
  · intro h n hn hc
    have := congrArg (fun x => x.getLsbD n) h
    simp [hc] at this
    exact this
  · intro h
    apply BitVec.eq_of_getLsbD_eq
    intro n hn
    by_cases hc : care.getLsbD n = true
    · simp [h n hn hc]
    · simp [hc]

theorem hits_iff (s : State) (k : Key) (e : EntryNo) : hits s k e = true ↔ Matches s k e := by
  simp [hits, Matches, RouteEntry.fits, agrees_iff, bankOf, and_assoc]
  intros
  exact decide_eq_true_iff

theorem groupBusy_iff (l : LineNo) (s : State) : groupBusy l s = true ↔
    ∃ m, m ≠ l ∧ m.val / 8 = l.val / 8 ∧ (s.line m).config.mode = .groupEdge ∧ (s.line m).active = true := by
  simp [groupBusy, lineNos, lineGroup, Fin.ext_iff, and_assoc]

/-- What the record of a key that a routing finds is (R62, R70). -/
theorem sameKeyRecord_some {s : State} {c : Client} {k : Key} {skip : Option RecIndex} {i : RecIndex} {r : Record}
    (h : sameKeyRecord s c k skip = some (i, r)) :
    i ∈ s.queue c ∧ some i ≠ skip ∧ s.record i = some r ∧ r.state = .queued ∧ r.mode = .each ∧ r.key = k := by
  unfold sameKeyRecord sameKeyQueued at h
  simp only [Option.bind_eq_some_iff, Option.map_eq_some_iff, Prod.mk.injEq] at h
  obtain ⟨j, hj, o, ho, e1, e2⟩ := h
  subst e1; subst e2
  have h1 := List.find?_some hj
  have h2 := List.mem_of_find?_eq_some hj
  simp [ho] at h1
  exact ⟨h2, by simpa using h1.1, ho, h1.2.1.1, h1.2.1.2, h1.2.2⟩

theorem sameKeyRecord_none {s : State} {c : Client} {k : Key} {skip : Option RecIndex}
    (h : sameKeyRecord s c k skip = none) (i : RecIndex) (r : Record) (hi : i ∈ s.queue c) (hs : some i ≠ skip)
    (hr : s.record i = some r) : ¬(r.state = .queued ∧ r.mode = .each ∧ r.key = k) := by
  unfold sameKeyRecord sameKeyQueued at h
  simp only [Option.bind_eq_none_iff, Option.map_eq_none_iff] at h
  rintro ⟨a, b, d⟩
  have : ((s.queue c).find? fun i =>
      some i ≠ skip && (s.record i).any fun r => r.state = .queued && r.mode = .each && r.key = k).isSome := by
    rw [List.find?_isSome]
    exact ⟨i, hi, by simp [hs, hr, a, b, d]⟩
  obtain ⟨j, hj⟩ := Option.isSome_iff_exists.1 this
  have h1 := List.find?_some hj
  have := h j hj
  simp [this] at h1

/-- The record of a client in a state, with its index. -/
theorem heldIn_some {s : State} {c : Client} {st : RecState} {i : RecIndex} {r : Record} (h : heldIn s c st = some (i, r)) :
    recordIn s c st = some i ∧ s.record i = some r ∧ r.owner = c ∧ r.state = st := by
  unfold heldIn at h
  simp only [Option.bind_eq_some_iff, Option.map_eq_some_iff, Prod.mk.injEq] at h
  obtain ⟨j, hj, o, ho, e1, e2⟩ := h
  subst e1; subst e2
  have h1 := List.find?_some hj
  simp [ho] at h1
  exact ⟨hj, ho, h1.1, h1.2⟩

theorem heldIn_of {s : State} {c : Client} {st : RecState} {i : RecIndex} {r : Record} (hi : recordIn s c st = some i)
    (hr : s.record i = some r) : heldIn s c st = some (i, r) := by simp [heldIn, hi, hr]

theorem heldIn_none {s : State} {c : Client} {st : RecState} (h : recordIn s c st = none) : heldIn s c st = none := by
  simp [heldIn, h]

/-- A making writes its index of the pool and no other (R54, R63). -/
theorem makeAt_pool (i : RecIndex) (q : StoreRequest) (s : State) :
    (makeAt i q s).pool = s.pool.set i ⟨(s.slot i).gen + 1, some (recordOf q)⟩ := by
  simp [makeAt]

theorem makeAt_gen (i : RecIndex) (q : StoreRequest) (s : State) : ((makeAt i q s).slot i).gen = (s.slot i).gen + 1 := by
  simp [State.slot, makeAt_pool]

theorem dropFor_drops (c : Client) (k : Key) (s : State) : (dropFor c k s).drops =
    s.drops.set c ⟨min 65535 ((s.dropsOf c).total + 1), min 255 ((s.dropsOf c).sinceReady + 1)⟩ := by
  unfold dropFor
  dsimp only
  split <;> simp [loseNotice, up16, up8, satAdd]

end Sys2Proof.Laws
end

