-- ==== Sys2Proof/Laws/Updates.lean ====
section
/-! SUPPORT. Two updates of one place are the later one, and an update by what stands there changes nothing. -/

namespace Sys2Proof.Machine

variable (s : State)

@[simp] theorem setLine_setLine (i : LineNo) (v w : Line) : (s.setLine i v).setLine i w = s.setLine i w := by
  simp [State.setLine]

@[simp] theorem setLine_self (i : LineNo) : s.setLine i (s.lines.get i) = s := by
  simp [State.setLine]

@[simp] theorem setMasked_setMasked (i : LineGroup) (v w : Nat) : (s.setMasked i v).setMasked i w = s.setMasked i w := by
  simp [State.setMasked]

@[simp] theorem setMasked_self (i : LineGroup) : s.setMasked i (s.masked.get i) = s := by
  simp [State.setMasked]

@[simp] theorem setWaiting_setWaiting (i : Fin 8) (v w : Option Descriptor) : (s.setWaiting i v).setWaiting i w = s.setWaiting i w := by
  simp [State.setWaiting]

@[simp] theorem setWaiting_self (i : Fin 8) : s.setWaiting i (s.waiting.get i) = s := by
  simp [State.setWaiting]

@[simp] theorem setEntry_setEntry (i : EntryNo) (v w : RouteEntry) : (s.setEntry i v).setEntry i w = s.setEntry i w := by
  simp [State.setEntry]

@[simp] theorem setEntry_self (i : EntryNo) : s.setEntry i (s.entries.get i) = s := by
  simp [State.setEntry]

@[simp] theorem setBank_setBank (i : BankNo) (v w : BankState) : (s.setBank i v).setBank i w = s.setBank i w := by
  simp [State.setBank]

@[simp] theorem setBank_self (i : BankNo) : s.setBank i (s.banks.get i) = s := by
  simp [State.setBank]

@[simp] theorem setGroup_setGroup (i : GroupNo) (v w : Option FirstGroup) : (s.setGroup i v).setGroup i w = s.setGroup i w := by
  simp [State.setGroup]

@[simp] theorem setGroup_self (i : GroupNo) : s.setGroup i (s.groups.get i) = s := by
  simp [State.setGroup]

@[simp] theorem setSlot_setSlot (i : RecIndex) (v w : PoolSlot) : (s.setSlot i v).setSlot i w = s.setSlot i w := by
  simp [State.setSlot]

@[simp] theorem setSlot_self (i : RecIndex) : s.setSlot i (s.pool.get i) = s := by
  simp [State.setSlot]

@[simp] theorem setQueue_setQueue (i : Client) (v w : List RecIndex) : (s.setQueue i v).setQueue i w = s.setQueue i w := by
  simp [State.setQueue]

@[simp] theorem setQueue_self (i : Client) : s.setQueue i (s.queues.get i) = s := by
  simp [State.setQueue]

@[simp] theorem setDrops_setDrops (i : Client) (v w : DropCounts) : (s.setDrops i v).setDrops i w = s.setDrops i w := by
  simp [State.setDrops]

@[simp] theorem setDrops_self (i : Client) : s.setDrops i (s.drops.get i) = s := by
  simp [State.setDrops]

@[simp] theorem setPresentation_setPresentation (i : Client) (v w : Presentation) : (s.setPresentation i v).setPresentation i w = s.setPresentation i w := by
  simp [State.setPresentation]

@[simp] theorem setPresentation_self (i : Client) : s.setPresentation i (s.presentation.get i) = s := by
  simp [State.setPresentation]

@[simp] theorem setContexts_setContexts (i : Client) (v w : ClientContexts) : (s.setContexts i v).setContexts i w = s.setContexts i w := by
  simp [State.setContexts]

@[simp] theorem setContexts_self (i : Client) : s.setContexts i (s.contexts.get i) = s := by
  simp [State.setContexts]

@[simp] theorem setProfile_setProfile (i : ProfileNo) (v w : Profile) : (s.setProfile i v).setProfile i w = s.setProfile i w := by
  simp [State.setProfile]

@[simp] theorem setProfile_self (i : ProfileNo) : s.setProfile i (s.profiles.get i) = s := by
  simp [State.setProfile]

@[simp] theorem setClientLines_setClientLines (i : Client) (v w : ClientLines) : (s.setClientLines i v).setClientLines i w = s.setClientLines i w := by
  simp [State.setClientLines]

@[simp] theorem setClientLines_self (i : Client) : s.setClientLines i (s.clientLines.get i) = s := by
  simp [State.setClientLines]

@[simp] theorem setHealth_setHealth (i : Client) (v w : ClientHealth) : (s.setHealth i v).setHealth i w = s.setHealth i w := by
  simp [State.setHealth]

@[simp] theorem setHealth_self (i : Client) : s.setHealth i (s.health.get i) = s := by
  simp [State.setHealth]

@[simp] theorem setPosts_setPosts (i : Client) (v w : ClientPosts) : (s.setPosts i v).setPosts i w = s.setPosts i w := by
  simp [State.setPosts]

@[simp] theorem setPosts_self (i : Client) : s.setPosts i (s.posts.get i) = s := by
  simp [State.setPosts]

@[simp] theorem setLink_setLink (i : Client) (v w : Link) : (s.setLink i v).setLink i w = s.setLink i w := by
  simp [State.setLink]

@[simp] theorem setLink_self (i : Client) : s.setLink i (s.links.get i) = s := by
  simp [State.setLink]

@[simp] theorem setTime_setTime (v w : TimeBase) : (s.setTime v).setTime w = s.setTime w := rfl

@[simp] theorem setTime_self : s.setTime s.time = s := rfl

@[simp] theorem setIntake_setIntake (v w : List Descriptor) : (s.setIntake v).setIntake w = s.setIntake w := rfl

@[simp] theorem setIntake_self : s.setIntake s.intake = s := rfl

@[simp] theorem setLostNotices_setLostNotices (v w : Nat) : (s.setLostNotices v).setLostNotices w = s.setLostNotices w := rfl

@[simp] theorem setLostNotices_self : s.setLostNotices s.lostNotices = s := rfl

@[simp] theorem setUnrouted_setUnrouted (v w : Nat) : (s.setUnrouted v).setUnrouted w = s.setUnrouted w := rfl

@[simp] theorem setUnrouted_self : s.setUnrouted s.unrouted = s := rfl

@[simp] theorem setBoard_setBoard (v w : BoardLines) : (s.setBoard v).setBoard w = s.setBoard w := rfl

@[simp] theorem setBoard_self : s.setBoard s.board = s := rfl

@[simp] theorem setSup_setSup (v w : Supervisor) : (s.setSup v).setSup w = s.setSup w := rfl

@[simp] theorem setSup_self : s.setSup s.sup = s := rfl

@[simp] theorem setPending_setPending (v w : List Instr) : (s.setPending v).setPending w = s.setPending w := rfl

@[simp] theorem setPending_self : s.setPending s.pending = s := rfl

end Sys2Proof.Machine
end

