-- ==== Sys2Proof/Laws/Settle.lean ====
section
/-! SUPPORT. What every command ends with: what it does to each link, that it changes nothing but the links and the mode, and
that doing it twice is doing it once. -/

namespace Sys2Proof.Machine

/-- A link after its transmitter has begun what it can; `held` says that the client's reset line is asserted. -/
def begun (held : Bool) (k : Link) : Link :=
  if held then k
  else
    match k.tx with
    | some _ => k
    | none =>
      match k.replies with
      | r :: rest => { k with tx := some (.reply r), replies := rest }
      | [] =>
        match k.hub with
        | f :: rest => { k with tx := some (.hub f), hub := rest }
        | [] => k

theorem beginTransmission_eq (s : State) (c : Client) :
    beginTransmission s c = s.setLink c (begun (s.clientLinesOf c).resetLine (s.link c)) := by
  unfold beginTransmission begun
  cases (s.clientLinesOf c).resetLine
  · cases ht : (s.link c).tx
    · cases hr : (s.link c).replies
      · cases hh : (s.link c).hub <;> simp [ht, hr, hh]
      · simp [ht, hr]
    · simp [ht]
  · simp

theorem begun_begun (held : Bool) (k : Link) : begun held (begun held k) = begun held k := by
  unfold begun
  cases held
  · cases ht : k.tx
    · cases hr : k.replies
      · cases hh : k.hub <;> simp [ht, hr, hh]
      · simp
    · simp [ht]
  · simp

theorem begun_quiet (held : Bool) (k : Link) (h : k.quiet = true) : begun held k = k := by
  simp [Link.quiet] at h
  simp [begun, h]

theorem beginAll_eq (s : State) :
    beginAll s = { s with links := Table.build fun c => begun (s.clientLinesOf c).resetLine (s.link c) } := by
  have h : (beginAll s).links = Table.build fun c => begun (s.clientLinesOf c).resetLine (s.link c) := by
    apply Table.ext_get; intro d
    simp only [beginAll, clients, List.foldl_cons, List.foldl_nil, beginTransmission_eq, State.setLink_links,
      State.link, State.clientLinesOf, State.setLink_clientLines, Table.get_set, Table.get_build]
    match d with
    | 0 => simp
    | 1 => simp
    | 2 => simp
    | 3 => simp
  have h' : beginAll s = { s with links := (beginAll s).links } := by
    simp only [beginAll, clients, List.foldl_cons, List.foldl_nil, beginTransmission_eq]
    rfl
  rw [h', h]

theorem beginAll_beginAll (s : State) : beginAll (beginAll s) = beginAll s := by
  simp [beginAll_eq, State.link, State.clientLinesOf, begun_begun]

/-- Every link is quiet when the hub may enter SLEEP. -/
theorem quiet_of_sleepReady {s : State} (h : sleepReady s = true) (c : Client) : (s.link c).quiet = true := by
  simp [sleepReady] at h
  exact h.1.2 _ (List.getElem_mem _)

theorem setMode_links (m : HubMode) (s : State) : (setMode m s).links = s.links := rfl

theorem beginAll_of_quiet {s : State} (h : ∀ c, (s.link c).quiet = true) : beginAll s = s := by
  rw [beginAll_eq]
  have : (Table.build fun c => begun (s.clientLinesOf c).resetLine (s.link c)) = s.links := by
    apply Table.ext_get; intro d; rw [Table.get_build, begun_quiet _ _ (h d)]
  rw [this]

theorem settle_settle (s : State) : settle (settle s) = settle s := by
  have hb := beginAll_beginAll s
  show enterSleep (beginAll (enterSleep (beginAll s))) = enterSleep (beginAll s)
  generalize beginAll s = t at hb
  by_cases hr : sleepReady t = true
  · have e : enterSleep t = setMode .sleep t := by simp [enterSleep, hr]
    have hq : beginAll (setMode .sleep t) = setMode .sleep t := beginAll_of_quiet fun c => quiet_of_sleepReady hr c
    rw [e, hq]
    simp [enterSleep, sleepReady, setMode, State.mode]
  · simp only [enterSleep, hr]
    simp [hb, hr]

end Sys2Proof.Machine
end

