-- ==== Sys2Proof/Laws/Expiry.lean ====
section
/-! SUPPORT. An expiry command whose timer is due: the expiry, at the tick moment it belongs to. -/

namespace Sys2Proof.Laws

open Sys2Proof.Machine Sys2Proof.Safety

theorem stands_iff {t : Timer} {s : State} : stands t s = true ↔ Due t s := by
  simp [stands, Due, moment, and_assoc]

theorem expiryCommand_of_due {t : Timer} {s : State} (h : Due t s) :
    settle (expiryCommand t s) = settle (expire t (marked t (moment s))) := by
  have : expiryCommand t s = settle (expire t (marked t (moment s))) := by
    unfold expiryCommand
    rw [if_pos (stands_iff.2 h)]
    rfl
  rw [this, settle_settle]

/-- An expiry command whose timer is not due changes nothing but what every command ends with. -/
theorem expiryCommand_of_not {t : Timer} {s : State} (h : ¬ Due t s) : expiryCommand t s = s := by
  unfold expiryCommand
  rw [if_neg fun x => h (stands_iff.1 x)]

end Sys2Proof.Laws
end

