-- ==== Sys2Proof/Laws/Frees.lean ====
section
/-! SUPPORT. What a free does to the pool: the index it names becomes FREE, and every other record keeps its owner, key, mode
and group, even when the report to a line wakes the hub and records are presented; outside SLEEP nothing else moves at all. -/

namespace Sys2Proof.Laws

open Sys2Proof.Machine

/-- What never changes in a record while it is held by one client. -/
def holding (s : State) (i : RecIndex) : Option (Client × Key × RecMode) :=
  (s.record i).map fun r => (r.owner, r.key, r.mode)

theorem holding_of_pool {s t : State} (h : t.pool = s.pool) : holding t = holding s := by
  funext i; simp [holding, State.record, State.slot, h]

theorem present_holding (c : Client) (i : RecIndex) (r : Record) (s : State) (h : s.record i = some r) :
    holding (present c i r s) = holding s := by
  have hp : (present c i r s).pool = s.pool.set i ⟨(s.slot i).gen, some (asPresented s c r)⟩ := by
    unfold present
    dsimp only
    split <;> simp [State.setRecord]
  funext j
  simp only [holding, State.record, State.slot, hp, Table.get_set]
  split
  · rename_i e; subst e
    simp only [State.record, State.slot] at h
    simp [h, asPresented]
  · rfl

theorem examine_holding (c : Client) (s : State) : holding (examine c s) = holding s := by
  unfold examine
  repeat' split
  · exact present_holding _ _ _ _ (by assumption)
  all_goals rfl

theorem examineAll_holding (s : State) : holding (examineAll s) = holding s := by
  simp [examineAll, clients, examine_holding]

theorem completeWake_holding (m : HubMode) (s : State) : holding (completeWake m s) = holding s := by
  unfold completeWake
  split
  · exact examineAll_holding s
  · rfl

/-- A free empties its index and leaves every other record its owner, key, mode and group. -/
theorem freeUntested_holding (i : RecIndex) (r : Record) (cause : FreeCause) (s : State) (j : RecIndex) :
    holding (freeUntested i r cause s) j = if j = i then none else holding s j := by
  have h1 : holding (freeUntested i r cause s) = holding (release i r s) := by
    unfold freeUntested
    dsimp only
    exact holding_of_pool (by simp)
  have h2 : (release i r s).pool = s.pool.set i ⟨(s.slot i).gen, none⟩ := by
    unfold release
    dsimp only
    split <;> simp [State.setRecord]
  rw [h1]
  simp only [holding, State.record, State.slot, h2, Table.get_set]
  split <;> rfl

theorem freeRecord_holding (i : RecIndex) (r : Record) (cause : FreeCause) (s : State) (j : RecIndex) :
    holding (freeRecord i r cause s) j = if j = i then none else holding s j := by
  rw [← freeUntested_holding i r cause s j]
  unfold freeRecord
  rw [completeWake_holding]
  exact congrFun (holding_of_pool (by simp [freeWithin])) j

/-! ## Within an operation, and outside SLEEP -/

theorem completeWake_awake {m : HubMode} (h : m ≠ .sleep) (s : State) : completeWake m s = s := by
  unfold completeWake; rw [if_neg fun x => h x.1]

theorem wakeHub_awake {s : State} (h : s.sup.mode ≠ .sleep) : wakeHub s = s := by
  unfold wakeHub rouse; rw [completeWake_awake h, if_neg h]

theorem rouse_awake {s : State} (h : s.sup.mode ≠ .sleep) : rouse s = s := by
  unfold rouse; rw [if_neg h]

/-- Outside SLEEP a line raises within an operation as it raises at any time. -/
theorem raiseWithin_awake {s : State} (h : s.sup.mode ≠ .sleep) (l : LineNo) : raiseWithin l s = raiseLine l s := by
  have h' : (placeLineEvent l (lineEvent l s) (startRaise l s)).sup.mode ≠ .sleep := by simpa using h
  unfold raiseWithin raiseLine offerLineEvent
  rw [rouse_awake h', wakeHub_awake h']

theorem lineDisposed_mode {s : State} (h : s.sup.mode ≠ .sleep) (l : LineNo) : (lineDisposed l s).sup.mode = s.sup.mode := by
  have hr : ∀ t : State, t.sup.mode ≠ .sleep → (raiseWithin l t).sup.mode = t.sup.mode := by
    intro t ht
    unfold raiseWithin
    rw [rouse_awake (by simpa using ht)]
    simp
  unfold lineDisposed
  dsimp only
  repeat' split
  · simp
  · exact hr (s.setLine l _) h
  · rfl
  · rfl

/-- Outside SLEEP the report to a line leaves the mode. -/
theorem reportDisposed_mode {s : State} (h : s.sup.mode ≠ .sleep) (src : BitVec 6) :
    (reportDisposed src s).sup.mode = s.sup.mode := by
  unfold reportDisposed
  repeat' split
  all_goals first
    | rfl
    | exact lineDisposed_mode h _

theorem release_pool (i : RecIndex) (r : Record) (s : State) : (release i r s).pool = s.pool.set i ⟨(s.slot i).gen, none⟩ := by
  unfold release
  dsimp only
  split <;> simp [State.setRecord]

/-- A free within an operation moves nothing in the pool and the queues but its own record, and PRS not at all. -/
theorem freeWithin_moves (i : RecIndex) (r : Record) (cause : FreeCause) (s : State) :
    (freeWithin i r cause s).pool = s.pool.set i ⟨(s.slot i).gen, none⟩ ∧
    (freeWithin i r cause s).queues = (release i r s).queues ∧
    (freeWithin i r cause s).presentation = s.presentation := by
  have h : (release i r s).presentation = s.presentation := by
    unfold release
    dsimp only
    split <;> simp [State.setRecord]
  rw [← release_pool i r s, ← h]
  unfold freeWithin freeUntested
  dsimp only
  simp

/-- Outside SLEEP a free is no more than its own step. -/
theorem freeRecord_awake {s : State} (h : s.sup.mode ≠ .sleep) (i : RecIndex) (r : Record) (cause : FreeCause) :
    (freeRecord i r cause s).pool = s.pool.set i ⟨(s.slot i).gen, none⟩ ∧
    (freeRecord i r cause s).queues = (release i r s).queues ∧
    (freeRecord i r cause s).presentation = s.presentation ∧
    (freeRecord i r cause s).sup.mode = s.sup.mode := by
  have hm : (freeWithin i r cause s).sup.mode = s.sup.mode := by
    have hp : ∀ t : State, (poolRearmTest t).sup.mode = t.sup.mode := by
      intro t; unfold poolRearmTest; split <;> rfl
    have h0 : (reportPost r (s.handleAt i) cause (reportCopy r (release i r s))).sup.mode = s.sup.mode := by simp
    unfold freeWithin freeUntested
    rw [hp]
    dsimp only
    rw [show ∀ t : State, (reportPresented r (s.handleAt i) t).sup.mode = t.sup.mode from fun t => by simp,
      reportDisposed_mode (by rw [h0]; exact h), h0]
  have hs : freeRecord i r cause s = freeWithin i r cause s := completeWake_awake h _
  rw [hs]
  obtain ⟨a, b, c⟩ := freeWithin_moves i r cause s
  exact ⟨a, b, c, hm⟩

/-! ## Named records, gates and withdrawals -/

/-- What a handle names (R85). -/
theorem namedRecord_some {s : State} {c : Client} {st : RecState} {h : Handle} {r : Record}
    (e : namedRecord s c st h = some r) :
    (s.slot h.index).gen = h.gen ∧ s.record h.index = some r ∧ r.owner = c ∧ r.state = st := by
  unfold namedRecord at e
  split at e
  · rename_i hg
    rw [Option.filter_eq_some_iff] at e
    obtain ⟨a, b⟩ := e
    simp at b
    exact ⟨hg, a, b.1, b.2⟩
  · simp at e

theorem openGate_holding (c : Client) (s : State) : holding (openGate c s) = holding s := by
  unfold openGate; rw [examine_holding]; exact holding_of_pool (by simp)

/-- A withdrawal frees the copy and leaves every other record its owner, key, mode and group (R91). -/
theorem withdrawCopy_holding (d : Client) (j : RecIndex) (r : Record) (s : State) (i : RecIndex) :
    holding (withdrawCopy d j r s) i = if i = j then none else holding s i := by
  unfold withdrawCopy
  dsimp only
  split
  · exact freeRecord_holding ..
  · have : ∀ t : State, holding (if deliverUnsent s d (s.handleAt j) = true then t
        else placeHubFrame d (HubFrame.recall (s.handleAt j)) t) = holding t := by
      intro t; split <;> rfl
    rw [this, openGate_holding, holding_of_pool (t := setLastRecalled _ _ _)
      (s := freeRecord j r .other (setAttention d false s)) (by simp), freeRecord_holding,
      holding_of_pool (t := setAttention d false s) (s := s) (by simp)]
  · rw [holding_of_pool (t := placeHubFrame _ _ _) (s := freeRecord j r .other s) (by simp), freeRecord_holding]

theorem otherCopy_none {s : State} {d : Client} {g : GroupNo} {i : RecIndex} (h : otherCopy s d g i = none)
    (j : RecIndex) (hj : j ≠ i) (k : Key) : holding s j ≠ some (d, k, .first g) := by
  intro e
  unfold otherCopy at h
  simp only [Option.bind_eq_none_iff, Option.map_eq_none_iff] at h
  simp only [holding, Option.map_eq_some_iff, Prod.mk.injEq] at e
  obtain ⟨r, hr, h1, h2, h3⟩ := e
  have : (recIndexes.find? fun j => j ≠ i && (s.record j).any fun r => r.owner = d && r.mode = .first g).isSome := by
    rw [List.find?_isSome]
    exact ⟨j, by simp [recIndexes], by simp [hj, hr, h1, h3]⟩
  obtain ⟨j', hj'⟩ := Option.isSome_iff_exists.1 this
  have h4 := List.find?_some hj'
  have := h j' hj'
  simp [this] at h4

theorem otherCopy_some {s : State} {d : Client} {g : GroupNo} {i j : RecIndex} {r : Record}
    (h : otherCopy s d g i = some (j, r)) : j ≠ i ∧ s.record j = some r ∧ r.owner = d ∧ r.mode = .first g := by
  unfold otherCopy at h
  simp only [Option.bind_eq_some_iff, Option.map_eq_some_iff, Prod.mk.injEq] at h
  obtain ⟨j', hj, o, ho, e1, e2⟩ := h
  subst e1; subst e2
  have h4 := List.find?_some hj
  simp [ho] at h4
  exact ⟨h4.1, ho, h4.2⟩

end Sys2Proof.Laws
end

