-- ==== Sys2Proof/Laws/Layouts.lean ====
section
/-! SUPPORT. A parser of a request's payload reads exactly the layout of its fields: one lemma per request. -/

namespace Sys2Proof.Laws

open Sys2Proof.Machine Sys2Proof.Safety

theorem below_eq {n : Nat} (hn : n ≤ 256) (b : Byte) (x : Fin n) : below n b = some x ↔ b = byte x.val := by
  unfold below byte
  constructor
  · intro h
    split at h
    · cases h; simp
    · cases h
  · rintro rfl
    have : x.val < n := x.isLt
    have e : (BitVec.ofNat 8 x.val).toNat = x.val := by simp; omega
    simp [e]

theorem flagField_eq (b : Byte) (v : Bool) : flagField b = some v ↔ b = bit v := by
  unfold flagField bit; cases v <;> split <;> simp_all

theorem contextField_eq (b : Byte) (k : ContextName) : contextField b = some k ↔ b = byte (contextCode k) := by
  unfold contextField byte; cases k <;> simp [contextCode] <;> (try split) <;> simp_all

theorem num16_lt (a b : Byte) : num16 a b < 65536 := by have := a.isLt; have := b.isLt; unfold num16; omega

theorem num24_lt (a b c : Byte) : num24 a b c < 2 ^ 24 := by
  have := a.isLt; have := b.isLt; have := c.isLt; unfold num24; omega

theorem num32_lt (a b c d : Byte) : num32 a b c d < 2 ^ 32 := by
  have := a.isLt; have := b.isLt; have := c.isLt; have := d.isLt; unfold num32; omega

theorem be16_num16 (a b : Byte) : be16 (num16 a b) = [a, b] := by
  have := a.isLt; have := b.isLt
  simp only [be16, num16, byte, List.cons.injEq, and_true]
  constructor <;> apply BitVec.eq_of_toNat_eq <;> simp <;> omega

theorem be24_num24 (a b c : Byte) : be24 (num24 a b c) = [a, b, c] := by
  have := a.isLt; have := b.isLt; have := c.isLt
  simp only [be24, num24, byte, List.cons.injEq, and_true]
  refine ⟨?_, ?_, ?_⟩ <;> apply BitVec.eq_of_toNat_eq <;> simp <;> omega

theorem be32_num32 (a b c d : Byte) : be32 (num32 a b c d) = [a, b, c, d] := by
  have := a.isLt; have := b.isLt; have := c.isLt; have := d.isLt
  simp only [be32, num32, byte, List.cons.injEq, and_true]
  refine ⟨?_, ?_, ?_, ?_⟩ <;> apply BitVec.eq_of_toNat_eq <;> simp <;> omega

theorem num16_byte {n : Nat} (h : n < 65536) : num16 (byte (n / 256)) (byte n) = n := by
  simp [num16, byte]; omega

theorem num24_byte {n : Nat} (h : n < 2 ^ 24) : num24 (byte (n / 65536)) (byte (n / 256)) (byte n) = n := by
  simp [num24, byte]; omega

theorem num32_byte {n : Nat} (h : n < 2 ^ 32) :
    num32 (byte (n / 16777216)) (byte (n / 65536)) (byte (n / 256)) (byte n) = n := by
  simp [num32, byte]; omega

theorem codeField_eq (a b : Byte) (c : BitVec 12) : codeField a b = some c ↔ [a, b] = be16 c.toNat := by
  unfold codeField
  constructor
  · intro h
    split at h
    · rename_i hlt
      cases h
      rw [← be16_num16 a b]
      congr 1
      simp; omega
    · cases h
  · intro h
    simp only [be16, List.cons.injEq, and_true] at h
    obtain ⟨rfl, rfl⟩ := h
    have hc := c.isLt
    rw [num16_byte (by omega)]
    simp [hc]

theorem flags_eq (a b : Byte) (f : FlagSet) : BitVec.ofNat 16 (num16 a b) = f ↔ [a, b] = be16 f.toNat := by
  have hl := num16_lt a b
  constructor
  · rintro rfl
    rw [← be16_num16 a b]; congr 1; simp; omega
  · intro h
    simp only [be16, List.cons.injEq, and_true] at h
    obtain ⟨rfl, rfl⟩ := h
    have hf := f.isLt
    rw [num16_byte (by omega)]
    simp

theorem bind_some {α β : Type} (o : Option α) (f : α → Option β) (y : β) :
    (o >>= f) = some y ↔ ∃ x, o = some x ∧ f x = some y := by cases o <;> simp


theorem parseEmpty_eq (p : List Byte) (x : Unit) : parseEmpty p = some x ↔ p = [] := by
  cases p <;> simp [parseEmpty]

theorem parseIndex_eq {n : Nat} (hn : n ≤ 256) (p : List Byte) (x : Fin n) : parseIndex n p = some x ↔ p = [byte x.val] := by
  match p with
  | [] => simp [parseIndex]
  | [b] => simp [parseIndex, below_eq hn]
  | _ :: _ :: _ => simp [parseIndex]

theorem parseAck_eq (p : List Byte) (h : Handle) (d : Disposition) : parseAck p = some (h, d) ↔ p = ackBytes h d := by
  unfold parseAck
  split
  · rename_i i g b
    simp only [bind_some, below_eq (show 128 ≤ 256 by omega), flagField_eq, ackBytes, Option.pure_def, Option.some.injEq,
      Prod.mk.injEq, List.cons.injEq, and_true]
    obtain ⟨hi, hg⟩ := h
    constructor
    · rintro ⟨x, rfl, v, rfl, e, rfl⟩
      cases e; cases v <;> simp [bit]
    · rintro ⟨rfl, rfl, rfl⟩
      refine ⟨hi, rfl, (match d with | .done => false | .decline => true), ?_, rfl, ?_⟩ <;> cases d <;> rfl
  · rename_i hne
    simp only [ackBytes, false_iff, reduceCtorEq]
    rintro rfl
    exact hne _ _ _ rfl

theorem parseExchange_eq (p : List Byte) (k : ContextName) : parseExchange p = some k ↔ p = [byte (contextCode k)] := by
  match p with
  | [] => simp [parseExchange]
  | [b] => simp [parseExchange, contextField_eq]
  | _ :: _ :: _ => simp [parseExchange]

theorem parseContextSet_eq (p : List Byte) (k : ContextName) (f : FlagSet) (t : Priority) :
    parseContextSet p = some (k, f, t) ↔ p = contextSetBytes k f t := by
  unfold parseContextSet
  split
  · rename_i b hi lo x
    simp only [bind_some, below_eq (show 8 ≤ 256 by omega), contextField_eq, contextSetBytes, Option.pure_def,
      Option.some.injEq, Prod.mk.injEq]
    constructor
    · rintro ⟨k', rfl, t', rfl, rfl, e, rfl⟩
      rw [flags_eq] at e; rw [← e]; rfl
    · intro h
      simp only [be16, List.cons_append, List.nil_append, List.cons.injEq, and_true] at h
      obtain ⟨rfl, h1, h2, rfl⟩ := h
      exact ⟨k, rfl, t, rfl, rfl, (flags_eq _ _ _).2 (by simp [be16, h1, h2]), rfl⟩
  · rename_i hne
    simp only [false_iff, reduceCtorEq]
    rintro rfl
    exact hne _ _ _ _ rfl

theorem timerSetting_eq (m : Byte) (t r : Nat) (ht : t < 2 ^ 24) (hr : r < 2 ^ 24) (x : TimerSetting) :
    timerSetting m t r = some x ↔
      Allowed x ∧ m = (match x.mode with | .off => 0 | .once => 1 | .periodic => 2) ∧ t = x.time ∧ r = x.reload := by
  obtain ⟨xm, xt, xr⟩ := x
  unfold timerSetting Allowed
  constructor
  · intro h
    repeat' split at h
    all_goals first | (cases h; done) | (cases h; simp_all)
  · rintro ⟨ha, rfl, rfl, rfl⟩
    cases xm <;> simp_all

theorem parseTimerSet_eq (p : List Byte) (k : ContextName) (x : TimerSetting) :
    parseTimerSet p = some (k, x) ↔ Allowed x ∧ p = timerSetBytes k x := by
  unfold parseTimerSet
  split
  · rename_i b m t2 t1 t0 r2 r1 r0
    simp only [bind_some, contextField_eq, timerSetting_eq _ _ _ (num24_lt _ _ _) (num24_lt _ _ _), Option.pure_def,
      Option.some.injEq, Prod.mk.injEq]
    constructor
    · rintro ⟨k', rfl, x', ⟨ha, rfl, ht, hr⟩, rfl, rfl⟩
      refine ⟨ha, ?_⟩
      unfold timerSetBytes
      rw [← ht, ← hr, be24_num24, be24_num24]; rfl
    · rintro ⟨ha, h⟩
      simp only [timerSetBytes, be24, List.cons_append, List.nil_append, List.cons.injEq, and_true] at h
      obtain ⟨rfl, rfl, rfl, rfl, rfl, rfl, rfl, rfl⟩ := h
      have hb : x.time < 2 ^ 24 ∧ x.reload < 2 ^ 24 := by
        unfold Allowed at ha; revert ha; cases x.mode <;> intro ha <;> simp at ha <;> omega
      refine ⟨k, rfl, x, ⟨ha, rfl, ?_, ?_⟩, rfl, rfl⟩
      · rw [num24_byte hb.1]
      · rw [num24_byte hb.2]
  · rename_i hne
    simp only [false_iff, reduceCtorEq, not_and]
    rintro - rfl
    exact hne _ _ _ _ _ _ _ _ rfl


theorem ofNat4_eq (n : Nat) (hn : n < 16) (c : BitVec 4) : BitVec.ofNat 4 n = c ↔ n = c.toNat := by
  constructor
  · rintro rfl; simp; omega
  · rintro rfl; simp

theorem parseRaise_eq (p : List Byte) (c : BitVec 4) (code : BitVec 12) :
    parseRaise p = some (c, code) ↔ c.toNat ≤ 11 ∧ p = byte c.toNat :: be16 code.toNat := by
  unfold parseRaise
  split
  · rename_i b hi lo
    simp only [bind_some, below_eq (show 12 ≤ 256 by omega), codeField_eq, Option.pure_def, Option.some.injEq, Prod.mk.injEq]
    constructor
    · rintro ⟨x, rfl, code', h, e, rfl⟩
      rw [ofNat4_eq _ (by omega)] at e
      refine ⟨by omega, ?_⟩
      rw [← h, e]
    · rintro ⟨hc, h⟩
      rw [List.cons.injEq] at h
      exact ⟨⟨c.toNat, by omega⟩, h.1, code, h.2, by simp, rfl⟩
  · rename_i hne
    simp only [false_iff, reduceCtorEq, not_and]
    rintro - rfl
    exact hne _ _ _ rfl

theorem parsePost_eq (c : Client) (p : List Byte) (f : PostFields) :
    parsePost c p = some f ↔ f.target ≠ c ∧ 1 ≤ f.payload.length ∧ f.payload.length ≤ 32 ∧ p = postBytes f := by
  unfold parsePost
  obtain ⟨ft, fp, fu, fl⟩ := f
  split
  · rename_i t p u b rest
    simp only [bind_some, below_eq (show 4 ≤ 256 by omega), below_eq (show 8 ≤ 256 by omega), flagField_eq, Option.pure_def]
    constructor
    · rintro ⟨t', rfl, p', rfl, u', rfl, h⟩
      split at h
      · cases h
      · rename_i hn; cases h
        simp only [not_or, not_lt] at hn
        refine ⟨hn.1, by simp, by simp; omega, rfl⟩
    · rintro ⟨h1, h2, h3, h⟩
      simp only [postBytes, List.cons_append, List.nil_append, List.cons.injEq] at h
      obtain ⟨rfl, rfl, rfl, h⟩ := h
      subst h
      simp only [List.length_cons] at h3
      refine ⟨ft, rfl, fp, rfl, fu, rfl, ?_⟩
      rw [if_neg (by simp only [not_or, not_lt]; exact ⟨h1, by omega⟩)]
  · rename_i hne
    simp only [false_iff, reduceCtorEq, not_and]
    rintro - h2 - rfl
    cases fl with
    | nil => simp at h2
    | cons b l => exact hne _ _ _ _ _ rfl

theorem parseSignal_eq (c : Client) (p : List Byte) (f : SignalFields) :
    parseSignal c p = some f ↔ f.target ≠ c ∧ f.flags ≠ 0 ∧ p = signalBytes f := by
  unfold parseSignal
  obtain ⟨ft, fp, fu, fl⟩ := f
  split
  · rename_i t p u hi lo
    simp only [bind_some, below_eq (show 4 ≤ 256 by omega), below_eq (show 8 ≤ 256 by omega), flagField_eq, Option.pure_def]
    have key : num16 hi lo = 0 ↔ BitVec.ofNat 16 (num16 hi lo) = 0#16 := by
      have := num16_lt hi lo
      constructor
      · intro h; rw [h]
      · intro h
        have := congrArg BitVec.toNat h
        simp at this; omega
    constructor
    · rintro ⟨t', rfl, p', rfl, u', rfl, h⟩
      split at h
      · cases h
      · rename_i hn
        simp only [not_or] at hn
        cases h
        refine ⟨hn.1, fun e => hn.2 (key.2 e), ?_⟩
        simp only [signalBytes, List.cons_append, List.nil_append]
        rw [← (flags_eq hi lo _).1 rfl]
    · rintro ⟨h1, h2, h⟩
      simp only [signalBytes, List.cons_append, List.nil_append, List.cons.injEq] at h
      obtain ⟨rfl, rfl, rfl, h⟩ := h
      have h := (flags_eq hi lo fl).2 h
      refine ⟨ft, rfl, fp, rfl, fu, rfl, ?_⟩
      rw [if_neg]
      · rw [h]
      · rw [key, h, not_or]; exact ⟨h1, h2⟩
  · rename_i hne
    simp only [false_iff, reduceCtorEq, not_and]
    rintro - - rfl
    exact hne _ _ _ _ _ rfl

theorem parseBankSet_eq (p : List Byte) (b : BankNo) (x : BankState) :
    parseBankSet p = some (b, x) ↔ p = [byte b.val, byte x.code] := by
  unfold parseBankSet
  split
  · rename_i b' st
    simp only [bind_some, below_eq (show 6 ≤ 256 by omega), flagField_eq, Option.pure_def, Option.some.injEq, Prod.mk.injEq,
      List.cons.injEq, and_true]
    constructor
    · rintro ⟨y, rfl, v, rfl, rfl, rfl⟩
      cases v <;> simp [bit, byte, BankState.code]
    · rintro ⟨rfl, rfl⟩
      refine ⟨b, rfl, (match x with | .opened => true | .closed => false), ?_, rfl, ?_⟩ <;> cases x <;> rfl
  · rename_i hne
    simp only [false_iff, reduceCtorEq]
    rintro rfl
    exact hne _ _ rfl

theorem lineModeField_eq (b : Byte) (m : LineMode) : lineModeField b = some m ↔ b = byte m.code := by
  unfold lineModeField
  constructor
  · intro h
    repeat' split at h
    all_goals first | (cases h; done) | (cases h; simp_all [byte, LineMode.code])
  · rintro rfl; cases m <;> rfl

theorem actionField_eq (b : Byte) (m : Action) : actionField b = some m ↔ b = byte m.code := by
  unfold actionField
  constructor
  · intro h
    repeat' split at h
    all_goals first | (cases h; done) | (cases h; simp_all [byte, Action.code])
  · rintro rfl; cases m <;> rfl

theorem byte_toNat (b : Byte) : byte b.toNat = b := by simp [byte]

theorem byte_eq_toNat {n : Nat} (h : n ≤ 255) : (byte n).toNat = n := by simp [byte]; omega

theorem parseLineSet_eq (p : List Byte) (f : LineSetFields) :
    parseLineSet p = some f ↔ LineSettable f.config ∧ p = lineSetBytes f := by
  unfold parseLineSet
  split
  · rename_i l m po d r c hi lo g
    simp only [bind_some, below_eq (show 24 ≤ 256 by omega), below_eq (show 12 ≤ 256 by omega), flagField_eq, codeField_eq,
      lineModeField_eq, Option.pure_def]
    constructor
    · rintro ⟨l', rfl, m', rfl, po', rfl, c', rfl, code, h, g', rfl, e⟩
      split at e
      · cases e
      · rename_i hr
        cases e
        have hr' : 1 ≤ r.toNat := by
          rcases Nat.eq_zero_or_pos r.toNat with h0 | h0
          · exact absurd (BitVec.eq_of_toNat_eq (by simpa using h0)) hr
          · exact h0
        refine ⟨⟨by have := d.isLt; simp; omega, hr', by have := r.isLt; simp; omega, by simp; omega⟩, ?_⟩
        simp only [lineSetBytes, List.cons_append, List.nil_append, byte_toNat, ← h, List.cons.injEq, and_true, true_and]
        refine ⟨?_, ?_⟩
        · cases po' <;> rfl
        · congr 1; simp; omega
    · rintro ⟨⟨h1, h2, h3, h4⟩, h⟩
      obtain ⟨fl, ⟨fm, fp, fd, fi, fc, fcode⟩, fg⟩ := f
      simp only [lineSetBytes, be16, List.cons_append, List.nil_append, List.cons.injEq, and_true] at h h1 h2 h3 h4
      obtain ⟨rfl, rfl, rfl, rfl, rfl, rfl, rfl, rfl, rfl⟩ := h
      refine ⟨fl, rfl, fm, rfl, (match fp with | .activeHigh => true | .activeLow => false), by cases fp <;> rfl,
        ⟨fc.toNat, by omega⟩, rfl, fcode, rfl, fg, rfl, ?_⟩
      rw [if_neg]
      · simp only [Option.some.injEq, LineSetFields.mk.injEq, LineConfig.mk.injEq, true_and, and_true]
        refine ⟨by cases fp <;> rfl, byte_eq_toNat h1, byte_eq_toNat h3, by simp⟩
      · intro e
        have := congrArg BitVec.toNat e
        rw [byte_eq_toNat h3] at this
        simp at this; omega
  · rename_i hne
    simp only [false_iff, reduceCtorEq, not_and]
    rintro - rfl
    exact hne _ _ _ _ _ _ _ _ _ rfl

theorem parseProfileSet_eq (p : List Byte) (n : ProfileNo) (x : Profile) :
    parseProfileSet p = some (n, x) ↔ x.deadline ≤ 65535 ∧ p = profileSetBytes n x := by
  unfold parseProfileSet
  split
  · rename_i b hi lo a d
    simp only [bind_some, below_eq (show 4 ≤ 256 by omega), below_eq (show 8 ≤ 256 by omega), actionField_eq,
      Option.pure_def, Option.some.injEq, Prod.mk.injEq]
    constructor
    · rintro ⟨n', rfl, a', rfl, d', rfl, rfl, rfl⟩
      have := num16_lt hi lo
      refine ⟨by simp; omega, ?_⟩
      simp [profileSetBytes, be16_num16]
    · rintro ⟨h1, h⟩
      obtain ⟨xd, xa, xc⟩ := x
      simp only [profileSetBytes, be16, List.cons_append, List.nil_append, List.cons.injEq, and_true] at h h1
      obtain ⟨rfl, rfl, rfl, rfl, rfl⟩ := h
      exact ⟨n, rfl, xa, rfl, xc, rfl, rfl, by rw [num16_byte (by omega)]⟩
  · rename_i hne
    simp only [false_iff, reduceCtorEq, not_and]
    rintro - rfl
    exact hne _ _ _ _ _ rfl

theorem privilegeField_eq (b : Byte) (p : PrivilegeSet) : privilegeField b = some p ↔ b = privilegeByte p := by
  unfold privilegeField
  constructor
  · intro h
    split at h
    · cases h
      revert b; decide
    · cases h
  · rintro rfl
    obtain ⟨x, y, z, w⟩ := p
    revert x y z w; decide

theorem parseClientSet_eq (sup : Client) (p : List Byte) (f : ClientSetFields) :
    parseClientSet sup p = some f ↔ ClientSettable sup f ∧ p = clientSetBytes f := by
  unfold parseClientSet
  split
  · rename_i c pv hi lo w pp sp
    simp only [bind_some, below_eq (show 4 ≤ 256 by omega), privilegeField_eq, Option.pure_def]
    constructor
    · rintro ⟨c', rfl, pv', rfl, pp', rfl, sp', rfl, e⟩
      split at e
      · cases e
      · rename_i hn
        cases e
        simp only [not_or, not_and, not_lt, Bool.not_eq_false] at hn
        obtain ⟨h1, h2, h3⟩ := hn
        refine ⟨⟨h2, ?_, by have := w.isLt; simp; omega, ?_⟩, ?_⟩
        · rcases Nat.eq_zero_or_pos w.toNat with h0 | h0
          · exact absurd (BitVec.eq_of_toNat_eq (by simpa using h0)) h3
          · exact h0
        · intro he
          have := h1 he
          obtain ⟨x, y, z, v⟩ := pv'
          have this : (x && y && z && v) = true := this
          clear h1 h2 h3 he
          show (⟨x, y, z, v⟩ : PrivilegeSet) = _
          revert x y z v; decide
        · simp [clientSetBytes, be16_num16, byte_toNat]
    · rintro ⟨⟨h1, h2, h3, h4⟩, h⟩
      obtain ⟨fc, fp, fh, fw, fpp, fsp⟩ := f
      simp only [clientSetBytes, be16, List.cons_append, List.nil_append, List.cons.injEq, and_true] at h h1 h2 h3 h4
      obtain ⟨rfl, rfl, rfl, rfl, rfl, rfl, rfl⟩ := h
      refine ⟨fc, rfl, fp, rfl, fpp, rfl, fsp, rfl, ?_⟩
      rw [num16_byte (by omega), if_neg]
      · rw [byte_eq_toNat h3]
      · simp only [not_or, not_and, not_lt, Bool.not_eq_false]
        refine ⟨fun he => by rw [h4 he]; rfl, h1, ?_⟩
        intro e
        have := congrArg BitVec.toNat e
        rw [byte_eq_toNat h3] at this
        simp at this; omega
  · rename_i hne
    simp only [false_iff, reduceCtorEq, not_and]
    rintro - rfl
    exact hne _ _ _ _ _ _ _ rfl

theorem parseNoteSet_eq (p : List Byte) (v : BitVec 32) : parseNoteSet p = some v ↔ p = be32 v.toNat := by
  unfold parseNoteSet
  split
  · rename_i a b c d
    simp only [Option.some.injEq]
    constructor
    · rintro rfl
      rw [← be32_num32 a b c d]; congr 1
      have := num32_lt a b c d
      simp; omega
    · intro h
      simp only [be32, List.cons.injEq, and_true] at h
      obtain ⟨rfl, rfl, rfl, rfl⟩ := h
      rw [num32_byte v.isLt]; simp
  · rename_i hne
    simp only [false_iff, reduceCtorEq]
    rintro rfl
    exact hne _ _ _ _ rfl

theorem parseForceAttach_eq (p : List Byte) (d : Client) : parseForceAttach p = some d ↔ p = [0, byte d.val] := by
  unfold parseForceAttach
  split
  · rename_i op c
    split <;> simp_all [below_eq]
  · rename_i hne
    simp only [false_iff, reduceCtorEq]
    rintro rfl
    exact hne _ _ rfl

theorem parseForceDetach_eq (sup : Client) (p : List Byte) (d : Client) :
    parseForceDetach sup p = some d ↔ d ≠ sup ∧ p = [1, byte d.val] := by
  unfold parseForceDetach
  split
  · rename_i op c
    split
    · rename_i h
      simp only [Option.filter_eq_some_iff, below_eq (show 4 ≤ 256 by omega), decide_eq_true_eq, List.cons.injEq, and_true]
      constructor
      · rintro ⟨h1, h2⟩; exact ⟨h2, h, h1⟩
      · rintro ⟨h2, _, h1⟩; exact ⟨h1, h2⟩
    · rename_i h; simp only [false_iff, reduceCtorEq, not_and, List.cons.injEq]; intro _ h'; exact absurd h' h
  · rename_i hne
    simp only [false_iff, reduceCtorEq, not_and]
    rintro - rfl
    exact hne _ _ rfl

theorem parseForceReset_eq (c : Client) (p : List Byte) (d : Client) :
    parseForceReset c p = some d ↔ d ≠ c ∧ p = [2, byte d.val] := by
  unfold parseForceReset
  split
  · rename_i op x
    split
    · rename_i h
      simp only [Option.filter_eq_some_iff, below_eq (show 4 ≤ 256 by omega), decide_eq_true_eq, List.cons.injEq, and_true]
      constructor
      · rintro ⟨h1, h2⟩; exact ⟨h2, h, h1⟩
      · rintro ⟨h2, _, h1⟩; exact ⟨h1, h2⟩
    · rename_i h; simp only [false_iff, reduceCtorEq, not_and, List.cons.injEq]; intro _ h'; exact absurd h' h
  · rename_i hne
    simp only [false_iff, reduceCtorEq, not_and]
    rintro - rfl
    exact hne _ _ rfl

theorem ofNat6_eq (n : Nat) (hn : n < 64) (c : BitVec 6) : BitVec.ofNat 6 n = c ↔ n = c.toNat := by
  constructor
  · rintro rfl; simp; omega
  · rintro rfl; simp

theorem fallbackField_eq (b : Byte) (f : Option Client) :
    fallbackField b = some f ↔ b = (match f with | some f => byte f.val | none => 255) := by
  unfold fallbackField
  constructor
  · intro h
    split at h
    · rename_i h255; cases h; exact h255
    · rw [Option.map_eq_some_iff] at h
      obtain ⟨f, hf, rfl⟩ := h
      exact (below_eq (by omega) _ _).1 hf
  · rintro rfl
    cases f with
    | none => rfl
    | some f => revert f; decide

theorem parseRouteWrite_eq (p : List Byte) (e : EntryNo) (x : RouteEntry) :
    parseRouteWrite p = some (e, x) ↔ (x.enabled = true → x.targets ≠ 0) ∧ p = entryBytes e x := by
  unfold parseRouteWrite
  split
  · rename_i b en ms cs mc cc md1 md0 cd1 cd0 tg mo pr ur fb pf
    simp only [bind_some, below_eq (show 48 ≤ 256 by omega), below_eq (show 64 ≤ 256 by omega),
      below_eq (show 16 ≤ 256 by omega), below_eq (show 8 ≤ 256 by omega), below_eq (show 4 ≤ 256 by omega), flagField_eq,
      codeField_eq, fallbackField_eq, Option.pure_def]
    constructor
    · rintro ⟨e', rfl, en', rfl, ms', rfl, cs', rfl, mc', rfl, cc', rfl, md', hmd, cd', hcd, tg', rfl, mo', rfl, pr', rfl,
        ur', rfl, fb', rfl, pf', rfl, h⟩
      split at h
      · cases h
      · rename_i hn
        cases h
        refine ⟨?_, ?_⟩
        · intro he ht
          rw [ofNat4_eq _ (by omega)] at ht
          exact hn ⟨he, by simpa using ht⟩
        · simp only [entryBytes, List.cons_append, List.nil_append, ← hmd, ← hcd, List.cons.injEq, and_true, true_and]
          refine ⟨by simp, by simp, by simp, by simp, by simp, ?_⟩
          cases mo' <;> trivial
    · rintro ⟨h1, h⟩
      obtain ⟨xe, xms, xcs, xmc, xcc, xmd, xcd, xt, xm, xp, xu, xf, xpf⟩ := x
      simp only [entryBytes, be16, List.cons_append, List.nil_append, List.cons.injEq, and_true] at h h1
      obtain ⟨rfl, rfl, rfl, rfl, rfl, rfl, rfl, rfl, rfl, rfl, rfl, rfl, rfl, rfl, rfl, rfl⟩ := h
      have := xms.isLt; have := xcs.isLt; have := xmc.isLt; have := xcc.isLt; have := xt.isLt
      refine ⟨e, rfl, xe, rfl, ⟨xms.toNat, by omega⟩, rfl, ⟨xcs.toNat, by omega⟩, rfl, ⟨xmc.toNat, by omega⟩, rfl,
        ⟨xcc.toNat, by omega⟩, rfl, xmd, rfl, xcd, rfl, ⟨xt.toNat, by omega⟩, rfl,
        (match xm with | .first => true | .each => false), by cases xm <;> rfl, xp, rfl, xu, rfl, xf, rfl, xpf, rfl, ?_⟩
      · rw [if_neg]
        · simp only [Option.some.injEq, Prod.mk.injEq, RouteEntry.mk.injEq, true_and, and_true]
          refine ⟨by simp, by simp, by simp, by simp, by simp, by cases xm <;> rfl⟩
        · rintro ⟨he, ht⟩
          exact h1 he (BitVec.eq_of_toNat_eq (by simpa using ht))
  · rename_i hne
    simp only [false_iff, reduceCtorEq, not_and]
    rintro - rfl
    exact hne _ _ _ _ _ _ _ _ _ _ _ _ _ _ _ _ rfl

end Sys2Proof.Laws
end

