-- ==== Sys2Proof/Laws/Passing.lean ====
section
/-! SUPPORT. The passing of time: a frame that fails leaves one link fewer receiving, so time passes as Safety's Within and
Passes say. -/

namespace Sys2Proof.Laws

open Sys2Proof.Machine Sys2Proof.Safety

/-! ## What leaves every receiver as it is -/

/-- The receivers of the four links. -/
def receivers (s : State) : Client → Receiver := fun c => (s.link c).receiver

theorem receivers_of_links {s t : State} (h : t.links = s.links) : receivers t = receivers s := by
  funext c; simp [receivers, State.link, h]

theorem receivers_setLink (s : State) (c : Client) (k : Link) :
    receivers (s.setLink c k) = fun d => if d = c then k.receiver else receivers s d := by
  funext d
  simp only [receivers, State.link, State.setLink_links, Table.get_set]
  split <;> rfl

theorem receivers_setLink_same (s : State) (c : Client) (k : Link) (h : k.receiver = (s.link c).receiver) :
    receivers (s.setLink c k) = receivers s := by
  rw [receivers_setLink]
  funext d
  split
  · rename_i e; subst e; exact h
  · rfl

@[simp] theorem placeHubFrame_receivers (c : Client) (f : HubFrame) (s : State) :
    receivers (placeHubFrame c f s) = receivers s := receivers_setLink_same _ _ _ rfl

@[simp] theorem removeDeliver_receivers (c : Client) (h : Handle) (s : State) :
    receivers (removeDeliver c h s) = receivers s := receivers_setLink_same _ _ _ rfl

@[simp] theorem reportOutcome_receivers (p : Client) (n : SlotNo) (o : PostOutcome) (s : State) :
    receivers (reportOutcome p n o s) = receivers s := by
  unfold reportOutcome
  split <;> exact placeHubFrame_receivers ..

@[simp] theorem examine_receivers (c : Client) (s : State) : receivers (examine c s) = receivers s := by
  unfold examine
  split
  · split
    · split
      · unfold present
        dsimp only
        rw [placeHubFrame_receivers]
        exact receivers_of_links (by split <;> simp [setPendingFlags])
      · rfl
    · rfl
  · rfl

theorem receivers_foldl {α : Type} (f : State → α → State) (h : ∀ s a, receivers (f s a) = receivers s) (l : List α) (s : State) :
    receivers (l.foldl f s) = receivers s := foldl_keeps f receivers h l s

@[simp] theorem completeWake_receivers (m : HubMode) (s : State) : receivers (completeWake m s) = receivers s := by
  unfold completeWake examineAll
  split
  · exact receivers_foldl _ (fun s c => examine_receivers c s) _ _
  · rfl

@[simp] theorem reportDisposed_receivers (src : BitVec 6) (s : State) : receivers (reportDisposed src s) = receivers s :=
  receivers_of_links (by simp)

@[simp] theorem settlePost_receivers (k : Key) (h : Handle) (cause : FreeCause) (s : State) :
    receivers (settlePost k h cause s) = receivers s := by
  unfold settlePost
  dsimp only
  repeat' split
  all_goals first
    | rfl
    | rw [reportOutcome_receivers]; rfl

@[simp] theorem freeUntested_receivers (i : RecIndex) (r : Record) (cause : FreeCause) (s : State) :
    receivers (freeUntested i r cause s) = receivers s := by
  have h : ∀ t : State, receivers (reportCopy r (release i r t)) = receivers t := fun t =>
    receivers_of_links (by simp)
  unfold freeUntested reportPresented reportPost
  dsimp only
  split <;> split <;> simp [h]

@[simp] theorem freeWithin_receivers (i : RecIndex) (r : Record) (cause : FreeCause) (s : State) :
    receivers (freeWithin i r cause s) = receivers s := by
  unfold freeWithin
  rw [← freeUntested_receivers i r cause s]
  exact receivers_of_links (by simp)

@[simp] theorem transfer_receivers (i : RecIndex) (r : Record) (f : Client) (s : State) :
    receivers (transfer i r f s) = receivers s := by
  unfold transfer
  split
  · rw [freeWithin_receivers]; exact receivers_of_links (by simp)
  · dsimp only
    rw [receivers_of_links (s := reportPresented r (s.handleAt i) s)]
    · unfold reportPresented
      split <;> simp
    · split <;> simp

@[simp] theorem suspend_receivers (c : Client) (i : RecIndex) (r : Record) (s : State) :
    receivers (suspend c i r s) = receivers s := by
  unfold suspend
  rw [removeDeliver_receivers]
  exact receivers_of_links (by simp [State.setRecord])

@[simp] theorem openGate_receivers (c : Client) (s : State) : receivers (openGate c s) = receivers s := by
  unfold openGate
  rw [examine_receivers]
  exact receivers_of_links (by simp)

@[simp] theorem exchangeToService_receivers (c : Client) (cause : ContextCause) (s : State) :
    receivers (exchangeToService c cause s) = receivers s := by
  have h : ∀ (x : Option Handle) (t : State), receivers (enterService c x t) = receivers t := fun x t =>
    receivers_of_links (by simp)
  unfold exchangeToService
  split <;> simp [h]

@[simp] theorem ctxExamine_receivers (c : Client) (s : State) : receivers (ctxExamine c s) = receivers s := by
  unfold ctxExamine
  split <;> simp

@[simp] theorem disposeAt_receivers (c : Client) (p : State × List Client) (i : RecIndex) :
    receivers (disposeAt c p i).1 = receivers p.1 := by
  have h : ∀ (r : Record) (s : State), receivers (dropRecord c i r s) = receivers s := fun r s => by
    unfold dropRecord
    rw [freeWithin_receivers]
    exact receivers_of_links (by simp)
  unfold disposeAt disposeRecord
  split
  · repeat' split
    all_goals simp [h]
  · rfl

@[simp] theorem finishDetach_receivers (c : Client) (s : State) : receivers (finishDetach c s) = receivers s := by
  have h : ∀ (l : List RecIndex) (p : State × List Client), receivers (l.foldl (disposeAt c) p).1 = receivers p.1 :=
    fun l p => foldl_keeps (disposeAt c) (fun p => receivers p.1) (fun p i => disposeAt_receivers c p i) l p
  have h1 : ∀ t : State, receivers (clearDetached c t) = receivers t := fun t => receivers_of_links (by simp)
  have h2 : ∀ t : State, receivers (setAttention c false t) = receivers t := fun t => receivers_of_links (by simp)
  unfold finishDetach examineFallbacks disposeAll
  dsimp only
  rw [completeWake_receivers, receivers_foldl _ fun s c => by unfold entered; simp]
  rw [examine_receivers, h1, h, h2]

@[simp] theorem applyScore_receivers (c : Client) (n : Nat) (s : State) : receivers (applyScore c n s) = receivers s := by
  unfold applyScore
  dsimp only
  repeat' split
  all_goals first
    | exact receivers_of_links (by simp)
    | rw [examine_receivers]; exact receivers_of_links (by simp)

@[simp] theorem chargeScore_receivers (c : Client) (k : Nat) (s : State) : receivers (chargeScore c k s) = receivers s := by
  have h : ∀ t : State, receivers (beginDetach c t) = receivers t := fun t => receivers_of_links (by simp)
  unfold chargeScore raiseScore
  dsimp only
  split
  · split <;> simp [h]
  · rfl

/-! ## A frame that fails -/

/-- A frame error leaves every receiver as it is (R161). -/
theorem frameError_receivers (c : Client) (s : State) : receivers (frameError c s) = receivers s := by
  have h : receivers (s.setLink c { s.link c with frameErrors := up16 (s.link c).frameErrors }) = receivers s :=
    receivers_setLink_same _ _ _ rfl
  unfold frameError
  dsimp only
  split
  · rw [← h]; exact receivers_of_links (by simp)
  · rw [chargeScore_receivers, h]

theorem settle_receivers (s : State) : receivers (settle s) = receivers s := by
  have h : ∀ t : State, receivers (enterSleep t) = receivers t := fun t => receivers_of_links (by simp)
  have h1 : ∀ (t : State) (c : Client), receivers (beginTransmission t c) = receivers t := by
    intro t c
    rw [beginTransmission_eq]
    refine receivers_setLink_same _ _ _ ?_
    unfold begun
    repeat' split
    all_goals rfl
  unfold settle beginAll
  rw [h, receivers_foldl _ h1]

/-- A GAP failure returns its own receiver to HUNT and leaves the others as they are (R160). -/
theorem gapFails_receivers (c : Client) (s : State) :
    receivers (settle (gapFails c s)) = fun d => if d = c then .hunt else receivers s d := by
  rw [settle_receivers]
  unfold gapFails frameFails
  rw [frameError_receivers]
  have h : receivers (s.setLink c { s.link c with gaps := up16 (s.link c).gaps }) = receivers s :=
    receivers_setLink_same _ _ _ rfl
  unfold setReceiver
  rw [receivers_setLink, h]

/-! ## The passing of time -/

/-- The links that are receiving a frame. -/
def receiving (s : State) : Finset Client := Finset.univ.filter fun c => receivers s c ≠ .hunt

theorem midFrame_iff (s : State) (c : Client) : midFrame s c = true ↔ (s.link c).receiver ≠ .hunt := by simp [midFrame]

theorem mem_receiving (s : State) (c : Client) : c ∈ receiving s ↔ (s.link c).receiver ≠ .hunt := by
  unfold receiving receivers
  rw [Finset.mem_filter]
  exact ⟨fun h => h.2, fun h => ⟨Finset.mem_univ _, h⟩⟩

theorem receiving_advanceTime (n : Nat) (s : State) : receiving (advanceTime n s) = receiving s := by
  unfold receiving
  rw [receivers_of_links (t := advanceTime n s) (s := s) rfl]

theorem receiving_gapFails (c : Client) (s : State) : receiving (settle (gapFails c s)) = (receiving s).erase c := by
  ext d
  simp only [receiving, gapFails_receivers, Finset.mem_filter, Finset.mem_univ, true_and, Finset.mem_erase]
  by_cases h : d = c <;> simp [h]

/-- What the search for the next gap limit finds: the earliest one before `n`, of the lowest link. -/
theorem firstGap_spec (s : State) (n : Nat) :
    (firstGap s n = none ∧ ∀ c, (s.link c).receiver = .hunt ∨ n ≤ 2000 - sinceByte s c) ∨
    ∃ c d, firstGap s n = some (c, d) ∧ (s.link c).receiver ≠ .hunt ∧ d = 2000 - sinceByte s c ∧ d < n ∧
      ∀ k, (s.link k).receiver ≠ .hunt → d < 2000 - sinceByte s k ∨ (d = 2000 - sinceByte s k ∧ c ≤ k) := by
  have key : ∀ l : List Client, l.Pairwise (· < ·) →
      let best := l.foldl (fun best c =>
        match gapDue s c with
        | some d => if d < (best.map Prod.snd).getD n then some (c, d) else best
        | none => best) none
      (best = none ∧ ∀ c ∈ l, (s.link c).receiver = .hunt ∨ n ≤ 2000 - sinceByte s c) ∨
      ∃ c d, best = some (c, d) ∧ c ∈ l ∧ (s.link c).receiver ≠ .hunt ∧ d = 2000 - sinceByte s c ∧ d < n ∧
        ∀ k ∈ l, (s.link k).receiver ≠ .hunt → d < 2000 - sinceByte s k ∨ (d = 2000 - sinceByte s k ∧ c ≤ k) := by
    intro l
    induction l using List.reverseRecOn with
    | nil => intro _; exact .inl ⟨rfl, fun c hc => absurd hc List.not_mem_nil⟩
    | append_singleton l x ih =>
      intro hp
      rw [List.pairwise_append] at hp
      have hx : ∀ k ∈ l, k < x := fun k hk => hp.2.2 k hk x (List.mem_singleton.2 rfl)
      have := ih hp.1
      dsimp only at this ⊢
      rw [List.foldl_append, List.foldl_cons, List.foldl_nil]
      generalize l.foldl _ _ = best at this ⊢
      by_cases hr : (s.link x).receiver = .hunt
      · have hg : gapDue s x = none := by simp [gapDue, midFrame, hr]
        rw [hg]
        rcases this with ⟨a, b⟩ | ⟨c, d, a, hc, b, e, f, g⟩
        · refine .inl ⟨a, fun c hc => ?_⟩
          rcases List.mem_append.1 hc with h | h
          · exact b c h
          · rw [List.mem_singleton.1 h]; exact .inl hr
        · refine .inr ⟨c, d, a, List.mem_append_left _ hc, b, e, f, fun k hk hn => ?_⟩
          rcases List.mem_append.1 hk with h | h
          · exact g k h hn
          · rw [List.mem_singleton.1 h] at hn; exact absurd hr hn
      · have hg : gapDue s x = some (2000 - sinceByte s x) := by simp [gapDue, midFrame, hr, Config.gapLimit]
        rw [hg]
        dsimp only
        rcases this with ⟨a, b⟩ | ⟨c, d, a, hc, b, e, f, g⟩
        · subst a
          by_cases hlt : 2000 - sinceByte s x < n
          · refine .inr ⟨x, _, by simp [hlt], by simp, hr, rfl, hlt, fun k hk hn => ?_⟩
            rcases List.mem_append.1 hk with h | h
            · rcases b k h with h' | h'
              · exact absurd h' hn
              · exact .inl (by omega)
            · rw [List.mem_singleton.1 h]; exact .inr ⟨rfl, le_refl _⟩
          · refine .inl ⟨by simp [hlt], fun k hk => ?_⟩
            rcases List.mem_append.1 hk with h | h
            · exact b k h
            · rw [List.mem_singleton.1 h]; exact .inr (by omega)
        · subst a
          by_cases hlt : 2000 - sinceByte s x < d
          · refine .inr ⟨x, _, by simp [hlt], by simp, hr, rfl, by omega, fun k hk hn => ?_⟩
            rcases List.mem_append.1 hk with h | h
            · rcases g k h hn with h' | h'
              · exact .inl (by omega)
              · exact .inl (by omega)
            · rw [List.mem_singleton.1 h]; exact .inr ⟨rfl, le_refl _⟩
          · refine .inr ⟨c, d, by simp [hlt], List.mem_append_left _ hc, b, e, f, fun k hk hn => ?_⟩
            rcases List.mem_append.1 hk with h | h
            · exact g k h hn
            · rw [List.mem_singleton.1 h]
              rcases Nat.lt_or_ge d (2000 - sinceByte s x) with h' | h'
              · exact .inl h'
              · exact .inr ⟨by omega, le_of_lt (hx c hc)⟩
  have hall : ∀ c : Client, c ∈ clients := by decide
  rcases key clients (by decide) with ⟨a, b⟩ | ⟨c, d, a, _, b, e, f, g⟩
  · exact .inl ⟨a, fun c => b c (hall c)⟩
  · exact .inr ⟨c, d, a, b, e, f, fun k => g k (hall k)⟩

/-- Time passes within one millisecond as `Within` says, when the fuel reaches for the links that are receiving. -/
theorem passWithin_within (fuel n : Nat) (s : State) (h : (receiving s).card ≤ fuel) : Within n s (passWithin fuel n s) := by
  induction fuel generalizing n s with
  | zero =>
    refine .quiet n s fun c => .inl ?_
    by_contra e
    have := (mem_receiving s c).2 e
    exact absurd (Finset.card_pos.2 ⟨c, this⟩) (by omega)
  | succ fuel ih =>
    unfold passWithin
    rcases firstGap_spec s n with ⟨a, b⟩ | ⟨c, d, a, b, e, f, g⟩
    · rw [a]; exact .quiet n s b
    · rw [a]
      refine .gap n d c s _ b e f g (ih _ _ ?_)
      have hc := (mem_receiving s c).2 b
      rw [receiving_gapFails, show receiving (s.setTime _) = receiving s from receiving_advanceTime d s, Finset.card_erase_of_mem hc]
      omega

theorem receiving_card (s : State) : (receiving s).card ≤ 4 := by
  simpa using Finset.card_le_univ (receiving s)

/-- The tick moment: the one begun, or else the time left until the tick has passed (R4). -/
theorem moment_spec (s : State) :
    (s.time.ticked ≠ [] → moment s = s) ∧
    (s.time.ticked = [] → ∃ w, Within (1000 - s.time.divider) s w ∧ moment s = w.setTime ⟨w.time.counter, 0, w.time.ticked⟩) := by
  unfold moment tickMoment tickBegun
  refine ⟨fun h => by simp [h], fun h => ⟨passWithin 4 (untilTick s) s, passWithin_within _ _ _ (receiving_card s), ?_⟩⟩
  simp [h]
  rfl

theorem takeTick_ticked (s : State) : (takeTick s).time.ticked = [] := rfl

theorem boardReset_divider (k : CauseKind) (c : Option Client) (s : State) : (boardReset k c s).time.divider = 0 := by
  unfold boardReset boardResetWith hubReset
  rfl

theorem clientReset_divider {s : State} (h : s.time.divider = 0) (c : Client) (cause : ResetCause) :
    (clientReset c cause s).time.divider = 0 := by
  unfold clientReset
  dsimp only
  split
  · exact boardReset_divider ..
  · rw [(clientResetSteps_keeps c cause s).1]; exact h

theorem deadlineExpires_divider {s : State} (h : s.time.divider = 0) (c : Client) (i : RecIndex) (r : Record) :
    (deadlineExpires c i r s).time.divider = 0 := by
  unfold deadlineExpires
  dsimp only
  generalize hu : offerNotice _ _ _ = u
  have hd : u.time.divider = 0 := by rw [← hu]; simp [State.setRecord, h]
  split
  · split
    · exact boardReset_divider ..
    · rw [(finishDetach_keeps c u).1]; exact hd
  · unfold takeAction
    split
    · simpa [setEsc, State.setRecord] using hd
    · simpa [setEsc, State.setRecord] using hd
    · exact clientReset_divider hd ..
    · simpa [setEsc, State.setRecord] using hd
    · exact boardReset_divider ..

/-- An expiry leaves the divider at 0, where a tick moment begins; so does the board reset that it may take. -/
theorem expire_divider {s : State} (h : s.time.divider = 0) (t : Timer) : (expire t s).time.divider = 0 := by
  cases t with
  | stage c =>
    show (stageExpires c s).time.divider = 0
    unfold stageExpires
    repeat' split
    all_goals first
      | exact h
      | exact deadlineExpires_divider h ..
      | exact clientReset_divider h ..
  | _ => simp [expire, endHoldOff, h]

theorem takeTick_divider {s : State} (h : s.time.divider = 0) : (takeTick s).time.divider = 0 := by
  have hl : ∀ (l : List Timer) (u : State), (l.foldl (fun s t => lower t s) u).time = u.time := by
    intro l u
    refine foldl_keeps _ State.time (fun s t => ?_) l u
    cases t <;> simp [lower]
  have he : ∀ (l : List Timer) (u : State), u.time.divider = 0 → (l.foldl expireNow u).time.divider = 0 := by
    intro l
    induction l with
    | nil => exact fun _ e => e
    | cons t l ih =>
      intro u e
      refine ih _ ?_
      unfold expireNow
      split
      · rw [(settle_keeps _).1]; exact expire_divider e t
      · exact e
  unfold takeTick
  dsimp only
  exact he _ _ (by unfold lowerTimers; rw [hl]; exact h)

theorem nextTick_divider {s : State} (h : s.time.ticked = []) : (nextTick s).time.divider = 0 :=
  takeTick_divider (by simp [tickMoment, tickBegun, h, reachTick])

theorem pass_zero (fuel : Nat) (s : State) : Machine.pass fuel 0 s = s := by cases fuel <;> simp [Machine.pass]

/-- One stretch of `pass`: within the millisecond, or to the next tick and on. -/
theorem pass_from {fuel n : Nat} {s : State} (h : s.time.ticked = [])
    (ih : 1000 - s.time.divider < n → Passes (n - (1000 - s.time.divider)) (nextTick s)
      (Machine.pass fuel (n - (1000 - s.time.divider)) (nextTick s))) : Passes n s (Machine.pass (fuel + 1) n s) := by
  by_cases h0 : n = 0
  · subst h0; rw [pass_zero]; exact .none s
  · have hb : tickBegun s = false := by simp [tickBegun, h]
    have hm : takeTick (moment s) = nextTick s := rfl
    unfold Machine.pass
    rw [if_neg h0, if_neg (by rw [hb]; exact Bool.false_ne_true)]
    by_cases hn : n ≤ untilTick s
    · rw [if_pos hn]
      exact .within n s _ (Nat.pos_of_ne_zero h0) h hn (passWithin_within _ _ _ (receiving_card s))
    · rw [if_neg hn]
      have hlt : 1000 - s.time.divider < n := Nat.lt_of_not_le hn
      exact .tick n s _ h hlt (hm ▸ ih hlt)

/-- GAP_TIMEOUT's time passes as `Passes` says: 2000 microseconds hold no more ticks than the fuel reaches for. -/
theorem pass_passes {n : Nat} (h : n ≤ 2000) (s : State) : Passes n s (Machine.pass 5 n s) := by
  have whole : ∀ fuel n (t : State), t.time.ticked = [] → t.time.divider = 0 → n ≤ 1000 * (fuel + 1) →
      Passes n t (Machine.pass (fuel + 1) n t) := by
    intro fuel
    induction fuel with
    | zero => intro n t a b e; exact pass_from a fun x => absurd e (by omega)
    | succ fuel ih =>
      intro n t a b e
      exact pass_from a fun _ => ih _ _ rfl (nextTick_divider a) (by omega)
  have any : ∀ n (t : State), t.time.ticked = [] → n ≤ 2000 → Passes n t (Machine.pass 4 n t) := fun n t a e =>
    pass_from a fun _ => whole 2 _ _ rfl (nextTick_divider a) (by omega)
  by_cases h0 : n = 0
  · subst h0; rw [pass_zero]; exact .none s
  · by_cases hb : s.time.ticked = []
    · exact pass_from hb fun _ => whole 3 _ _ rfl (nextTick_divider hb) (by omega)
    · have hb' : tickBegun s = true := by simp [tickBegun, hb]
      unfold Machine.pass
      rw [if_neg h0, if_pos hb']
      exact .begun n s _ (Nat.pos_of_ne_zero h0) hb (any n _ rfl h)

end Sys2Proof.Laws
end

