-- ==== Sys2Proof/Laws/Requests.lean ====
section
/-! SUPPORT. What a request command answers, once for all kinds: the rule of its kind on the state that `Takes` names, and its
reply; and how a list of checks reads. -/

namespace Sys2Proof.Laws

open Sys2Proof.Machine Sys2Proof.Safety

/-- The outcome of a rule, with its reply. -/
def outcomeOf (c : Client) (q : Request) (a : Answer) : State := replied c q a.2.1 a.2.2 a.1

theorem serve_of_takes {s u : State} {c : Client} {k : RequestKind} {a : Arrival} {q : Request}
    (rule : Request → State → Answer) (h : Takes s c k a q u) : serve c k a rule s = outcomeOf c q (rule q u) := by
  obtain ⟨hk, hp, rest, hr, hu⟩ := h
  subst hu
  simp only [serve, takeRequest, hp, hr, hk, decide_true, Bool.false_eq_true, if_true, if_false, Option.isSome_none, outcomeOf, replied]

theorem serveForce_of_takes {s u : State} {c : Client} {op : Byte} {a : Arrival} {q : Request}
    (rule : Request → State → Answer) (h : Takes s c .force a q u) (hn : forceNames op q.payload = true) :
    serveForce c op a rule s = outcomeOf c q (rule q u) := by
  obtain ⟨hk, hp, rest, hr, hu⟩ := h
  subst hu
  simp only [serveForce, takeRequest, hp, hr, hk, hn, decide_true, Bool.and_self, Bool.false_eq_true, if_true, if_false, Option.isSome_none, outcomeOf, replied]

@[simp] theorem judged_nil (c : Client) (q : Request) (u done : State) : judged c q u [] done = done := rfl

@[simp] theorem judged_cons (c : Client) (q : Request) (u done : State) (b : Bool) (st : Status) (l : List (Bool × Status)) :
    judged c q u ((b, st) :: l) done = if b = true then replied c q st [] u else judged c q u l done := by
  cases b <;> simp [judged]

theorem outcomeOf_refuse (c : Client) (q : Request) (st : Status) (u : State) :
    outcomeOf c q (refuse st u) = replied c q st [] u := rfl

theorem outcomeOf_accept (c : Client) (q : Request) (u : State) : outcomeOf c q (accept u) = replied c q .ok [] u := rfl

theorem outcomeOf_mk (c : Client) (q : Request) (st : Status) (res : List Byte) (u : State) :
    outcomeOf c q (u, st, res) = replied c q st res u := rfl

theorem outcomeOf_withPrivilege (c d : Client) (q : Request) (p : Privilege) (u : State) (rest : Answer) :
    outcomeOf c q (withPrivilege p d u rest) = if holds u d p = true then outcomeOf c q rest else replied c q .denied [] u := by
  unfold withPrivilege; split <;> rfl

theorem outcomeOf_unlessFrozen (c : Client) (q : Request) (u : State) (rest : Answer) :
    outcomeOf c q (unlessFrozen u rest) = if u.sup.frozen = true then replied c q .frozen [] u else outcomeOf c q rest := by
  unfold unlessFrozen; split <;> rfl

theorem outcomeOf_whileAttached (c d : Client) (q : Request) (u : State) (rest : Answer) :
    outcomeOf c q (whileAttached d u rest) = if u.attached d = true then outcomeOf c q rest else replied c q .detached [] u := by
  unfold whileAttached; split <;> rfl

theorem outcomeOf_withFields_some {α : Type} (c : Client) (q : Request) (u : State) (x : α) (rest : α → Answer) :
    outcomeOf c q (withFields (some x) u rest) = outcomeOf c q (rest x) := rfl

theorem outcomeOf_withFields_none {α : Type} (c : Client) (q : Request) (u : State) (rest : α → Answer) :
    outcomeOf c q (withFields none u rest) = replied c q .badField [] u := rfl

end Sys2Proof.Laws
end

