-- ==== Sys2Proof/Tests/Slice0.lean ====
section
/-! SUPPORT. The model's own tests: ill-formed commands, the frame check, one step of each command on a small state, and for
every statement that has hypotheses a state and operands that meet them. -/

namespace Sys2Proof.Tests

set_option Elab.async false

open Sys2Proof.Machine Sys2Proof.Safety Sys2Proof.Laws

/-! ## Small states -/

/-- The hub after power-on, when the 10 ms pulse has ended. -/
def base : State :=
  { State.reset with
    clientLines := Table.const { clientLinesAtReset with resetLine := false }
    board := { boardLinesAtReset false 0 with pulseLeft := 0 } }

/-- Client 0 has sent a request of kind `k`, and the link has accepted it at time 5. -/
def ask (s : State) (k : RequestKind) (p : List Byte) : State :=
  s.setLink 0 { s.link 0 with requests := [⟨k, 7, p, 5⟩] }

def asking (k : RequestKind) (p : List Byte) : State := ask base k p

/-- The reply that link 0 has begun to send. -/
def replyOf (o : Host.Outcome State Fault Refusal) : Option (Status × List Byte) :=
  match o with
  | .next t =>
    match (t.link 0).tx with
    | some (.reply r) => some (r.status, r.result)
    | _ => none
  | _ => none

/-- An item of the next state. -/
def after {α : Type} (o : Host.Outcome State Fault Refusal) (f : State → α) : Option α :=
  match o with
  | .next t => some (f t)
  | _ => none

/-- A record of client 0 of line 1's event. -/
def aRecord : Record :=
  ⟨.queued, 0, ⟨1, 0, 1⟩, 3, false, .each, .entry 0, 0, none, 1, 9, false, false, none, [], 0⟩

def put (s : State) (i : RecIndex) (r : Record) : State := s.setSlot i ⟨1, some r⟩

/-- `r` is QUEUED at index `i`, alone in its owner's queue. -/
def queued (s : State) (i : RecIndex) (r : Record) : State := (put s i { r with state := .queued }).setQueue r.owner [i]

/-- `r` is PRESENTED at index `i` in stage `e`. -/
def presented (s : State) (i : RecIndex) (r : Record) (e : Escalation) : State :=
  setGate r.owner false (put s i { r with state := .presented, esc := some e })

/-- `r` is SUSPENDED at index `i`; its owner is in SERVICE. -/
def suspended (s : State) (i : RecIndex) (r : Record) : State :=
  (put s i { r with state := .suspended, esc := some ⟨.waiting, 0, false, false⟩ }).setContexts r.owner
    { s.contextsOf r.owner with suspended := some ⟨i, 1⟩, active := .service }

def setHealthOf (c : Client) (h : Health) (n : Nat) (s : State) : State := s.setHealth c ⟨n, h, 0, 0⟩

def readyFor (c : Client) (s : State) : State := s.setPresentation c { s.presentationOf c with ready := true }

def lineAt (l : LineNo) (m : LineMode) (s : State) : State :=
  s.setLine l { s.line l with config := { (s.line l).config with mode := m } }

def anEvent : Descriptor := ⟨⟨1, 0, 1⟩, 9⟩

def fullIntake (s : State) : State := s.setIntake (List.replicate 16 anEvent)

/-- The whole pool is held by client 3. -/
def fullPool (s : State) : State :=
  { s with pool := Table.const ⟨1, some { aRecord with owner := 3, key := ⟨2, 0, 2⟩, state := .presented }⟩ }

/-! ## Which commands a client can send -/

theorem test_illFormed_long_frame : (Instr.ready 0 (.sent 1 (List.replicate 49 0))).wellFormed = false := by decide
theorem test_wellFormed_full_frame : (Instr.ready 0 (.sent 1 (List.replicate 48 0))).wellFormed = true := by decide
theorem test_illFormed_attach_as_reset : (Instr.forceAttach 0 (.sent 1 [2, 1])).wellFormed = false := by decide
theorem test_illFormed_detach_as_attach : (Instr.forceDetach 0 (.sent 1 [0, 1])).wellFormed = false := by decide
theorem test_illFormed_reset_as_detach : (Instr.forceReset 0 (.sent 1 [1, 1])).wellFormed = false := by decide
theorem test_illFormed_long_force : (Instr.forceReset 0 (.sent 1 (2 :: List.replicate 48 0))).wellFormed = false := by decide

/-! ## Frames (R159): the check of nine ASCII digits is the published one -/

theorem test_crc16 : crc16 [0x31, 0x32, 0x33, 0x34, 0x35, 0x36, 0x37, 0x38, 0x39] = 0x29B1 := by decide +kernel

theorem test_frame_sent_whole :
    replyOf (exec (.query 0 (.sent 7 [1])) base) = some (.badField, []) ∧
    after (exec (.query 0 (.sent 7 [])) base) (fun t => (t.link 0).receiver) = some .hunt := by decide +kernel

/-! ## One step of each command -/

theorem test_powerOn : after (exec (.powerOn ⟨⟨2, .supervisor, .edge, .baud921600⟩, []⟩ 5) (fullIntake base)) (fun t =>
    ((t.sup.straps.supsel, t.intake, (t.line 2).accepted), (t.line 1).accepted, (t.clientLinesOf 3).resetLine)) =
    some ((2, [], true), false, true) := by decide +kernel

theorem test_resetInputAsserted : after (exec (.resetInputAsserted base.sup.pins) (fullIntake base)) (fun t =>
    (t.sup.cause, t.intake, t.sup.resetInput)) = some (⟨.pin, none, 1⟩, [], true) := by decide +kernel

theorem test_resetInputRelease : after (exec .resetInputRelease
    (base.setSup { base.sup with resetInput := true })) (fun t => t.sup.resetInput) = some false := by decide +kernel

theorem test_millisecondTick : after (exec .millisecondTick State.reset) (fun t =>
    (t.time.counter, t.board.pulseLeft)) = some (1000, 9) := by decide +kernel

theorem test_rawLevelChange : after (exec (.rawLevelChange 3 true) base) (fun t =>
    ((t.line 3).raw, (t.line 3).accepted, (t.line 3).debounceLeft)) = some (true, false, 4) := by decide +kernel

theorem test_debounceExpiry : after (exec (.debounceExpiry 3)
    (base.setLine 3 { base.line 3 with raw := true, debounceLeft := 1 })) (fun t =>
    ((t.line 3).accepted, (t.line 3).debounceLeft)) = some (true, 0) := by decide +kernel

theorem test_repeatTimerExpiry : after (exec (.repeatTimerExpiry 3) ((lineAt 3 .level base).setLine 3
    { (lineAt 3 .level base).line 3 with latch := .outstanding, disposed := true, repeatLeft := 1 })) (fun t =>
    (t.intake.length, (t.line 3).repeatLeft, (t.line 3).disposed)) = some (1, 50, false) := by decide +kernel

theorem test_contextTimerExpiry : after (exec (.contextTimerExpiry 1 .operate) (base.setContexts 1
    { base.contextsOf 1 with operate := { contextAtReset with timerMode := .periodic, left := 1 } })) (fun t =>
    (t.intake.map Descriptor.key, (t.contextsOf 1).operate.left)) = some ([⟨30, 14, 0⟩], 1000) := by decide +kernel

theorem test_routeTake : after (exec .routeTake (base.setIntake [anEvent])) (fun t => (t.intake, t.unrouted)) =
    some ([], 1) := by decide +kernel

theorem test_holdOffExpiry : after (exec (.holdOffExpiry 0)
    (base.setContexts 0 { base.contextsOf 0 with holdOff := true, holdOffLeft := 1 })) (fun t =>
    (t.contextsOf 0).holdOff) = some false := by decide +kernel

theorem test_deadlineExpiry : after (exec (.deadlineExpiry 0) (presented base 0 aRecord ⟨.deadline, 1, false, false⟩))
    (fun t => ((t.healthOf 0).score, (escOf t 0).map Escalation.stage, t.intake.map fun d => d.key.code)) =
    some (8, some .spent, [768]) := by decide +kernel

theorem test_delayExpiry : after (exec (.delayExpiry 0) (presented base 0 aRecord ⟨.delay, 1, true, true⟩))
    (fun t => ((t.clientLinesOf 0).resetLine, (t.clientLinesOf 0).lastCause, t.queue 0)) =
    some (true, .escalation, [0]) := by decide +kernel

theorem test_clientResetPulseExpiry : after (exec (.clientResetPulseExpiry 2)
    (base.setClientLines 2 { base.clientLinesOf 2 with resetLine := true, pulseLeft := 1 })) (fun t =>
    (t.clientLinesOf 2).resetLine) = some false := by decide +kernel

theorem test_boardResetPulseExpiry : after (exec .boardResetPulseExpiry
    (State.reset.setBoard { State.reset.board with pulseLeft := 1 })) (fun t => t.clientLines.data.map ClientLines.resetLine) =
    some [false, false, false, false] := by decide +kernel

theorem test_boardResetOutputExpiry : after (exec .boardResetOutputExpiry (base.setBoard ⟨0, true, 1⟩)) (fun t =>
    t.board) = some ⟨0, false, 0⟩ := by decide +kernel

theorem test_spacingTimerExpiry : after (exec (.spacingTimerExpiry 1) (base.setHealth 1 ⟨255, .rejoining, 3, 1⟩))
    (fun t => t.healthOf 1) = some ⟨255, .rejoining, 3, 0⟩ := by decide +kernel

theorem test_receivedByte : after (exec (.receivedByte 1 0xD4) base) (fun t => (t.link 1).receiver) = some .length ∧
    after (exec (.receivedByte 1 49) (setReceiver 1 .length base)) (fun t =>
      ((t.link 1).receiver, (t.link 1).frameErrors, (t.healthOf 1).score)) = some (.hunt, 1, 2) := by decide +kernel

theorem test_gapTimeout : after (exec (.gapTimeout 1) (setReceiver 1 .length base)) (fun t =>
    ((t.link 1).receiver, (t.link 1).gaps, t.time.counter)) = some (.hunt, 1, 2000) := by decide +kernel

theorem test_transmissionEnd : after (exec (.transmissionEnd 0) (base.setLink 0
    { linkAtReset with tx := some (.hub (.recall ⟨1, 1⟩)), hub := [.context .service .forced none] })) (fun t =>
    (t.link 0).tx) = some (some (.hub (.context .service .forced none))) := by decide +kernel

theorem test_ready : replyOf (exec (.ready 0 .waiting) (asking .ready [])) = some (.ok, [2, 0, 0, 0]) := by decide +kernel

theorem test_ack : replyOf (exec (.ack 0 .waiting)
    (ask (presented base 4 aRecord ⟨.spent, 0, false, false⟩) .ack [4, 1, 0])) = some (.ok, [0]) := by decide +kernel

theorem test_ack_stale : replyOf (exec (.ack 0 .waiting) (asking .ack [4, 1, 0])) = some (.stale, []) := by decide +kernel

theorem test_exchange : replyOf (exec (.exchange 0 .waiting)
    (ask (presented base 4 aRecord ⟨.spent, 0, false, false⟩) .exchange [1])) = some (.ok, [1, 4, 1]) := by decide +kernel

theorem test_contextSet : replyOf (exec (.contextSet 0 .waiting) (asking .contextSet [1, 0x80, 0x01, 8])) =
      some (.badField, []) ∧
    after (exec (.contextSet 0 .waiting) (asking .contextSet [1, 0x80, 0x01, 7])) (fun t =>
      ((t.contextsOf 0).service.classes, (t.contextsOf 0).service.threshold)) = some (0x8001, 7) := by decide +kernel

theorem test_timerSet : replyOf (exec (.timerSet 0 .waiting) (asking .timerSet [0, 1, 0, 1, 2, 0, 0, 0])) =
      some (.ok, [0, 0, 0]) ∧
    after (exec (.timerSet 0 .waiting) (asking .timerSet [0, 1, 0, 1, 2, 0, 0, 0])) (fun t =>
      (t.contextsOf 0).operate.left) = some 258 := by decide +kernel

theorem test_raise : replyOf (exec (.raise 0 .waiting) (asking .raise [11, 0x0F, 0xFF])) = some (.ok, [0, 0, 0, 5, 1]) ∧
    replyOf (exec (.raise 0 .waiting) (asking .raise [12, 0, 0])) = some (.badField, []) := by decide +kernel

theorem test_post : replyOf (exec (.post 0 .waiting) (asking .post [1, 7, 1, 0xAA])) = some (.ok, [0]) ∧
    after (exec (.post 0 .waiting) (asking .post [1, 7, 1, 0xAA])) (fun t => ((t.postsOf 0).slots.get 0, t.queue 1)) =
      some (.waiting 1 ⟨0, 1⟩, [0]) := by decide +kernel

theorem test_withdraw : replyOf (exec (.withdraw 0 .waiting) (ask
    ((queued base 9 { aRecord with owner := 1, key := ⟨37, 12, 2⟩ }).setPosts 0
      { postsAtReset with slots := postsAtReset.slots.set 2 (.waiting 1 ⟨9, 1⟩) }) .withdraw [2])) =
    some (.withdrawn, []) := by decide +kernel

theorem test_signal : replyOf (exec (.signal 0 .waiting) (asking .signal [1, 0, 0, 0x80, 0])) = some (.ok, [0]) ∧
    after (exec (.signal 0 .waiting) (asking .signal [1, 0, 0, 0x80, 0])) (fun t => (t.postsOf 1).pendingFlags) =
      some 0x8000 := by decide +kernel

theorem test_heartbeat : replyOf (exec (.heartbeat 0 .waiting) (ask (base.setHealth 0 ⟨255, .rejoining, 15, 0⟩) .heartbeat
    [])) = some (.ok, [0, 0, 0]) := by decide +kernel

theorem test_rejoin : replyOf (exec (.rejoin 0 .waiting) (asking .rejoin [])) = some (.notDetached, []) ∧
    after (exec (.rejoin 0 .waiting) (ask (setHealthOf 0 .detached 255 base) .rejoin [])) (fun t => t.healthOf 0) =
      some ⟨255, .rejoining, 0, 10⟩ := by decide +kernel

theorem test_query : replyOf (exec (.query 0 .waiting) (asking .query [])) = some (.ok,
    [0, 0, 0, 0, 0, 0, 255, 255, 0, 0, 0, 0, 255, 255, 255, 255, 0, 0, 0, 0, 0, 0, 0, 0, 0, 0, 0, 0, 0]) := by
  decide +kernel

theorem test_routeWrite : after (exec (.routeWrite 0 .waiting) (asking .routeWrite
    [47, 1, 63, 63, 15, 15, 0x0F, 0xFF, 0x0F, 0xFF, 15, 1, 7, 1, 255, 3])) (fun t => t.entries.get 47) =
    some ⟨true, 63, 63, 15, 15, 4095, 4095, 15, .first, 7, true, none, 3⟩ := by decide +kernel

theorem test_bankSet : replyOf (exec (.bankSet 0 .waiting) (asking .bankSet [5, 1])) = some (.ok, [0, 0, 0, 0, 0, 1]) := by
  decide +kernel

theorem test_lineSet : replyOf (exec (.lineSet 0 .waiting) (asking .lineSet [23, 2, 1, 255, 255, 11, 0x0F, 0xFF, 1])) =
      some (.ok, [0]) ∧
    replyOf (exec (.lineSet 0 .waiting) (asking .lineSet [23, 2, 1, 255, 0, 11, 0x0F, 0xFF, 1])) = some (.badField, []) := by
  decide +kernel

theorem test_profileSet : after (exec (.profileSet 0 .waiting) (asking .profileSet [3, 0xFF, 0xFF, 4, 7])) (fun t =>
    t.profiles.get 3) = some ⟨65535, .boardReset, 7⟩ := by decide +kernel

theorem test_clientSet : after (exec (.clientSet 0 .waiting) (asking .clientSet [1, 5, 0x03, 0xE8, 255, 1, 2])) (fun t =>
    (t.sup.privileges.get 1, (t.contextsOf 1).holdOffTime, (t.clientLinesOf 1).pulseWidth)) =
    some (⟨true, false, true, false⟩, 1000, 255) := by decide +kernel

theorem test_routeRead : replyOf (exec (.routeRead 0 .waiting) (asking .routeRead [47])) = some (.ok,
    [47, 0, 0, 0, 0, 0, 0, 0, 0, 0, 0, 0, 0, 0, 255, 0, 0, 0]) := by decide +kernel

theorem test_lineRead : replyOf (exec (.lineRead 0 .waiting) (asking .lineRead [23])) = some (.ok,
    [0, 0, 4, 50, 0, 0, 23, 0, 0, 1, 0, 0, 0, 0, 0, 0]) := by decide +kernel

theorem test_profileRead : replyOf (exec (.profileRead 0 .waiting) (asking .profileRead [2])) =
    some (.ok, [0, 200, 3, 4]) := by decide +kernel

theorem test_clientRead : replyOf (exec (.clientRead 0 .waiting) (asking .clientRead [1])) = some (.ok,
    [1, 12, 10, 0, 0, 0, 20, 0, 0, 0, 0, 0, 0, 0, 0, 0, 0, 2, 0, 0, 0, 0, 0, 0, 0, 0]) := by decide +kernel

theorem test_forceAttach : after (exec (.forceAttach 0 .waiting) (ask (setHealthOf 1 .detached 255 base) .force [0, 1]))
    (fun t => (t.healthOf 1, t.intake.map fun d => d.key.code)) = some (⟨0, .healthy, 0, 0⟩, [272]) := by decide +kernel

theorem test_forceDetach : after (exec (.forceDetach 0 .waiting) (asking .force [1, 1]))
    (fun t => (t.healthOf 1, t.intake.map fun d => d.key.code)) = some (⟨255, .detached, 0, 0⟩, [275]) := by decide +kernel

theorem test_forceReset : after (exec (.forceReset 0 .waiting) (asking .force [2, 1]))
    (fun t => ((t.clientLinesOf 1).resetLine, (t.clientLinesOf 1).lastCause, t.intake.map fun d => d.key.code)) =
    some (true, .forced, [1297]) := by decide +kernel

theorem test_freeze : after (exec (.freeze 0 .waiting) (asking .freeze [])) (fun t => t.sup.frozen) = some true := by
  decide +kernel

theorem test_sleep : replyOf (exec (.sleep 0 .waiting) (asking .sleep [])) = some (.ok, []) := by decide +kernel

theorem test_wake : replyOf (exec (.wake 0 .waiting) (asking .wake [])) = some (.same, []) ∧
    after (exec (.wake 0 .waiting) (ask (setMode .sleepPending base) .wake [])) (fun t => t.sup.mode) = some .run := by
  decide +kernel

theorem test_resetHub : after (exec (.resetHub 0 .waiting) (asking .resetHub [])) (fun t => t.sup.resetPending) =
    some (some 0) := by decide +kernel

theorem test_noteSet : replyOf (exec (.noteSet 0 .waiting) (asking .noteSet [1, 2, 3, 4])) = some (.ok, [0, 0, 0, 0]) ∧
    after (exec (.noteSet 0 .waiting) (asking .noteSet [1, 2, 3, 4])) (fun t => t.sup.note) = some 0x01020304 := by
  decide +kernel

theorem test_status : replyOf (exec (.status 0 .waiting) (asking .status [])) = some (.ok,
    [0, 0, 0, 255, 0, 0, 0, 0, 0, 128, 0, 0, 0, 0, 0, 0, 0, 0, 0]) := by decide +kernel

/-! ## The board reset that ends a RESET_HUB (R178) -/

theorem test_resetHub_ends : after (exec (.transmissionEnd 0) ((base.setSup
    { base.sup with resetPending := some 0, note := 9 }).setLink 0
    { linkAtReset with tx := some (.reply ⟨7, 0x44, .ok, []⟩) })) (fun t => (t.sup.cause, t.sup.note)) =
    some (⟨.request, some 0, 1⟩, 9) := by decide +kernel

/-! ## Moments -/

/-- A board reset by RESET_HUB finds the strap pins at the next levels that POWER_ON named (R174). -/
theorem test_board_reset_samples_straps : after (exec (.transmissionEnd 0) ((base.setSup { base.sup with
    resetPending := some 0, pins := ⟨base.sup.pins.now, [⟨3, .supervisor, .edge, .baud921600⟩]⟩ }).setLink 0
    { linkAtReset with tx := some (.reply ⟨7, 0x44, .ok, []⟩) })) (fun t => (t.sup.straps, t.sup.pins.later)) =
    some (⟨3, .supervisor, .edge, .baud921600⟩, []) := by decide +kernel

/-- A gap limit and a tick at one microsecond: GAP_TIMEOUT fails the frame first, MILLISECOND_TICK takes the tick first, and the
frame then fails by GAP_TIMEOUT at the same moment (log entry 40). -/
theorem test_gap_and_tick_at_one_moment :
    let s := ((setReceiver 1 .length base).setTime ⟨1000, 0, []⟩).setBoard ⟨2, false, 0⟩
    after (exec (.gapTimeout 1) s) (fun t => (t.time, (t.link 1).gaps, t.board.pulseLeft)) = some (⟨2000, 1000, []⟩, 1, 2) ∧
    after (exec .millisecondTick s) (fun t => (t.time, (t.link 1).gaps, t.board.pulseLeft)) = some (⟨2000, 0, []⟩, 0, 1) ∧
    after (match exec .millisecondTick s with
      | .next t => exec (.gapTimeout 1) t
      | o => o) (fun t => (t.time.counter, (t.link 1).gaps)) = some (2000, 1) := by decide +kernel

/-- The gap limit that passes on the way restarts the spacing timer, so SPACING_TIMER_EXPIRY cannot occur: nothing changes, and the
tick is still to come (R4, R143). -/
theorem test_expiry_stopped_on_the_way :
    let s := ((setReceiver 1 .length base).setTime ⟨1500, 0, []⟩).setHealth 1 ⟨255, .rejoining, 3, 1⟩
    after (exec (.spacingTimerExpiry 1) s) (fun t => (t.time, t.healthOf 1)) = some (⟨1500, 0, []⟩, ⟨255, .rejoining, 3, 1⟩) := by
  decide +kernel

/-- An idle step lets a microsecond pass. -/
theorem test_idle_step : after (step base) (fun t => t.time) = some ⟨1, 1, []⟩ := by decide +kernel

/-! ## Witnesses: what each statement assumes is met somewhere, clause by clause

Each theorem names the statement it is for. For the statements about requests, `asked` is the state in which the request is
taken. -/

/-- The state in which client 0's request is taken. -/
def asked (s : State) (k : RequestKind) (p : List Byte) : State :=
  (ask s k p).setLink 0 { (ask s k p).link 0 with requests := [] }

theorem takes_ask (s : State) (k : RequestKind) (p : List Byte) (h : s.sup.resetPending = none) :
    Takes (ask s k p) 0 k .waiting ⟨k, 7, p, 5⟩ (asked s k p) :=
  ⟨rfl, h, [], by simp [arrive, ask, State.link], rfl⟩

/-- Every request of every payload is taken in some state, and a frame sent whole is taken in the same step. -/
theorem witness_takes (k : RequestKind) (p : List Byte) :
    Takes (asking k p) 0 k .waiting ⟨k, 7, p, 5⟩ (asked base k p) := takes_ask base k p rfl

theorem witness_takes_sent : ∃ q u, Takes base 0 .ready (.sent 7 []) q u ∧ q.payload = [] := by
  refine ⟨⟨.ready, 7, [], 0⟩, _, ⟨rfl, by decide +kernel, [], by decide +kernel, rfl⟩, rfl⟩

theorem witness_StepRunsTheFrontCommand : (base.setPending [.routeTake, .routeTake]).pending = .routeTake :: [.routeTake] ∧
    ∃ t, exec .routeTake base = .next t := ⟨rfl, _, rfl⟩

theorem witness_TimelessCommandsFrame : timeless (.ready 0 .waiting) = true ∧ timeless .routeTake = true ∧
    timeless (.rawLevelChange 0 true) = true ∧ timeless (.receivedByte 0 0) = true ∧
    ∃ t, exec (.ready 0 .waiting) (asking .ready []) = .next t := ⟨rfl, rfl, rfl, rfl, _, rfl⟩

theorem witness_ResetInputTakesABoardReset : (base.sup.resetInput = false ∧ base.board.output = false) ∧
    (base.setSup { base.sup with resetInput := true }).sup.resetInput = true ∧
    (base.setBoard ⟨0, true, 20⟩).board.output = true := by decide +kernel

theorem witness_TimePassesTickByTick : base.time.ticked = [] ∧ (marked .boardPulse base).time.ticked ≠ [] ∧
    base.pending = [] ∧ base.time.divider < 999 ∧ 999 ≤ (base.setTime ⟨999, 999, []⟩).time.divider ∧
    timerLeft base .boardPulse ≠ 1 := by decide +kernel

/-- Every kind of timer stands at its last tick. -/
def lastTick : State :=
  let s := presented base 0 { aRecord with owner := 1 } ⟨.deadline, 1, false, false⟩
  let s := s.setLine 0 { s.line 0 with raw := true, debounceLeft := 1, repeatLeft := 1 }
  let s := s.setContexts 0 { s.contextsOf 0 with
    operate := { contextAtReset with timerMode := .once, left := 1 }, holdOff := true, holdOffLeft := 1 }
  let s := s.setClientLines 2 { s.clientLinesOf 2 with resetLine := true, pulseLeft := 1 }
  (s.setBoard ⟨1, true, 1⟩).setHealth 3 ⟨255, .rejoining, 0, 1⟩

/-- TimePassesTickByTick, DebounceFollowsTheRawLevel, LevelLineRearmsOrReRaises, ExchangeByRequestOrForced,
StageExpiriesEscalate, TimersEndWithTheirEffects: each timer is due. -/
theorem witness_due : ∀ t ∈ [Timer.debounce 0, .repeatInterval 0, .context 0 .operate, .holdOff 0, .stage 1, .pulse 2,
    .boardPulse, .boardOutput, .spacing 3], timerLeft lastTick t = 1 ∧ lastTick.time.ticked.contains t = false ∧
      timerLeft (moment lastTick) t = 1 := by decide +kernel

/-- TimePassesTickByTick: each kind of timer that a rule can hold counts at `lastTick`, and is held in SLEEP or by its own item. -/
theorem witness_Counts :
    (Counts lastTick (.context 0 .operate) ∧ Counts lastTick (.holdOff 0) ∧ Counts lastTick (.stage 1) ∧
      Counts lastTick (.spacing 3)) ∧
    (∀ t ∈ [Timer.context 0 .operate, .holdOff 0, .stage 1, .spacing 3], ¬ Counts (setMode .sleep lastTick) t) ∧
    ¬ Counts lastTick (.context 0 .service) ∧ ¬ Counts base (.context 0 .operate) ∧ ¬ Counts base (.holdOff 0) ∧
    ¬ Counts base (.stage 1) := by
  have he : escOf lastTick 1 = some ⟨.deadline, 1, false, false⟩ := by decide +kernel
  have hb : escOf base 1 = none := by decide +kernel
  have hl : (lastTick.link 1).hub = [] ∧ (lastTick.link 1).tx = none := by decide +kernel
  refine ⟨⟨by unfold Counts; decide +kernel, by unfold Counts; decide +kernel,
    ⟨by decide +kernel, fun d => by simp [hl.1], fun d => by simp [hl.2], _, he, .inl rfl⟩, by unfold Counts; decide +kernel⟩,
    ?_, by unfold Counts; decide +kernel, by unfold Counts; decide +kernel, by unfold Counts; decide +kernel, ?_⟩
  · have hm : (setMode .sleep lastTick).sup.mode = .sleep := by decide +kernel
    intro t ht
    simp only [List.mem_cons, List.not_mem_nil, or_false] at ht
    rcases ht with rfl | rfl | rfl | rfl <;> simp [Counts, hm]
  · rintro ⟨_, _, _, e, h, _⟩
    rw [hb] at h; cases h

theorem due_of_witness (t : Timer) (h : t ∈ [Timer.debounce 0, .repeatInterval 0, .context 0 .operate, .holdOff 0, .stage 1,
    .pulse 2, .boardPulse, .boardOutput, .spacing 3]) : Due t lastTick := witness_due t h

/-- A LEVEL line in OUTSTANDING. -/
def levelLine (accepted disposed : Bool) (left : Nat) : State :=
  (lineAt 0 .level base).setLine 0 { (lineAt 0 .level base).line 0 with
    accepted := accepted, latch := .outstanding, disposed := disposed, repeatLeft := left }

theorem witness_ActivationsByModeAndLatch :
    (base.line 0).config.mode = .disabled ∧ ((lineAt 0 .level base).line 0).config.mode = .level ∧
    (((lineAt 9 .groupEdge (lineAt 8 .groupEdge base)).line 8).config.mode = .groupEdge ∧
      (9 : LineNo) ≠ 8 ∧ (9 : LineNo).val / 8 = (8 : LineNo).val / 8 ∧
      ((lineAt 9 .groupEdge (lineAt 8 .groupEdge base)).line 9).active = true) ∧
    (((lineAt 7 .groupEdge (lineAt 8 .groupEdge base)).line 8).config.mode = .groupEdge ∧
      ∀ m : LineNo, m ≠ 8 → m.val / 8 = (8 : LineNo).val / 8 →
        ((lineAt 7 .groupEdge (lineAt 8 .groupEdge base)).line m).config.mode = .groupEdge →
        ((lineAt 7 .groupEdge (lineAt 8 .groupEdge base)).line m).active = false) ∧
    (base.line 0).latch = .armed ∧ ((levelLine false false 0).line 0).latch ≠ .armed ∧
    (base.setIntake (List.replicate 15 anEvent)).intake.length < 16 ∧ 16 ≤ (fullIntake base).intake.length ∧
    ((levelLine false false 0).line 0).active = true ∧ ((levelLine true false 0).line 0).active = false := by
  decide +kernel

theorem witness_LevelLineRearmsOrReRaises :
    (∀ a d, ∀ n ∈ [0, 1, 255], ((levelLine a d n).line 0).config.mode = .level ∧
      ((levelLine a d n).line 0).latch = .outstanding ∧ ((levelLine a d n).line 0).queued = 0 ∧
      ((levelLine a d n).line 0).active = !a ∧ ((levelLine a d n).line 0).disposed = d ∧
      ((levelLine a d n).line 0).repeatLeft = n) ∧
    (((levelLine true false 0).setLine 0 { (levelLine true false 0).line 0 with queued := 1 }).line 0).queued ≠ 0 ∧
    (base.line 0).config.mode ≠ .level ∧ ((lineAt 0 .level base).line 0).latch ≠ .outstanding ∧
    base.sup.mode ≠ .sleep ∧ (setMode .sleep base).sup.mode = .sleep := by decide +kernel

theorem witness_LineSetReconfigures :
    (⟨.level, .activeLow, 0, 1, 0, 0⟩ : LineConfig).mode ≠ (base.line 0).config.mode ∧
    (⟨.disabled, .activeLow, 0, 1, 0, 0⟩ : LineConfig).mode = (base.line 0).config.mode ∧
    (∀ x ∈ [(⟨.edge, .activeLow, 0, 1, 0, 0⟩ : LineConfig), ⟨.groupEdge, .activeHigh, 255, 255, 11, 4095⟩], LineSettable x) ∧
    (∀ f : LineSetFields, LineSettable f.config → ([] : List Byte) ≠ lineSetBytes f) := by
  refine ⟨by decide +kernel, by decide +kernel, by unfold LineSettable; decide, fun f _ => by simp [lineSetBytes]⟩

theorem witness_NoticesAndDrops : (base.setIntake (List.replicate 15 anEvent)).intake.length < 16 ∧
    16 ≤ (fullIntake base).intake.length := by decide

/-- Timer 3 and line 5 wait for a place. -/
def waitingSources : State :=
  let s := fullIntake base
  (s.setWaiting 3 (some ⟨⟨31, 14, 0⟩, 0⟩)).setLine 5 { s.line 5 with latch := .pending ⟨⟨5, 0, 5⟩, 0⟩ }

/-- Entry 0 takes every event to client 1. -/
def anyToOne (m : RouteMode) (targets : BitVec 4) : State :=
  (base.setEntry 0 ⟨true, 0, 0, 0, 0, 0, 0, targets, m, 3, false, none, 0⟩).setBank 0 .opened

theorem witness_RouteTakeRoutesTheHead :
    (waitingSources.waiting.get 3 = some ⟨⟨31, 14, 0⟩, 0⟩ ∧ ∀ m : Fin 8, m < 3 → waitingSources.waiting.get m = none) ∧
    ((∀ n, (waitingSources.setWaiting 3 none).waiting.get n = none) ∧
      ((waitingSources.setWaiting 3 none).line 5).latch = .pending ⟨⟨5, 0, 5⟩, 0⟩ ∧
      ∀ m : LineNo, m < 5 → ((waitingSources.setWaiting 3 none).line m).latch.held = none) ∧
    ((∀ n, base.waiting.get n = none) ∧ ∀ l, (base.line l).latch.held = none) ∧
    base.intake = [] ∧ ((anyToOne .each 2).setIntake [anEvent]).intake = anEvent :: [] ∧
    lookup (anyToOne .each 2) anEvent.key = some 0 ∧ lookup base anEvent.key = none := by decide +kernel

theorem witness_LookupFindsTheFirstMatch :
    (base.sup.straps.unrouted = .drop ∧ anEvent.key.cls ≠ 15 ∧ (⟨36, 15, 0⟩ : Key).cls = 15) ∧
    (let s := base.setSup { base.sup with straps := { base.sup.straps with unrouted := .supervisor } }
     s.sup.straps.unrouted = .supervisor ∧ s.attached s.sup.straps.supsel = true ∧
      (setHealthOf 0 .rejoining 255 s).attached (setHealthOf 0 .rejoining 255 s).sup.straps.supsel = false) := by
  decide +kernel

theorem witness_TargetsResolveByHealth :
    let s := setHealthOf 3 .detached 255 (setHealthOf 2 .restricted 255 (setHealthOf 1 .warned 127 base))
    (s.healthOf 0).health = .healthy ∧ (s.healthOf 1).health = .warned ∧ (s.healthOf 2).health = .restricted ∧
    (s.healthOf 3).health = .detached ∧ s.attached 2 = true ∧ s.attached 3 = false ∧ (0 : Client) ≠ 2 := by decide +kernel

theorem witness_RoutingSendsOneRequestPerClient :
    ((anyToOne .each 2).entries.get 0).mode = .each ∧ ((anyToOne .first 6).entries.get 0).mode = .first ∧
    2 ≤ [(1 : Client), 2].length ∧ [(1 : Client)].length ≤ 1 ∧ base.groups.get 0 = none ∧
    (let s := { base with groups := Table.const (some ⟨1, false, 0⟩) }
     ∀ g, (s.groups.get g).isSome) ∧
    (let s := (base.setGroup 0 (some ⟨2, false, 0⟩)).setGroup 1 (some ⟨1, true, 0⟩)
     s.groups.get 0 = some ⟨2, false, 0⟩ ∧ s.groups.get 1 = some ⟨1, true, 0⟩ ∧ s.groups.get 2 = none ∧
      ∀ g : GroupNo, g < 2 → (s.groups.get g).isSome) ∧
    (let s := (base.setGroup 0 (some ⟨0, false, 0⟩)).setGroup 1 (some ⟨0, true, 0⟩)
     s.groups.get 0 = some ⟨0, false, 0⟩ ∧ s.groups.get 1 = some ⟨0, true, 0⟩) := by decide +kernel

theorem witness_QueueOrder : ((base.setQueue 0 [4, 9, 2]).queue 0).Nodup ∧
    (base.setQueue 0 [4, 9, 2]).queue 0 = [4] ++ 9 :: [2] ∧
    (let s := queued base 9 aRecord
     let v := (s.setSlot 4 ⟨(s.slot 4).gen, some aRecord⟩).setQueue 0 (4 :: s.queue 0)
     sameKeyRecord v 0 aRecord.key (some 4) = some (9, aRecord) ∧ aRecord.mode = .each ∧
      sameKeyRecord ((base.setSlot 4 ⟨0, some aRecord⟩).setQueue 0 [4]) 0 aRecord.key (some 4) = none) := by
  decide +kernel

/-- A request for client 0. -/
def aRequest (m : RecMode) (u : Bool) : StoreRequest :=
  ⟨0, aRecord.key, 3, u, m, .entry 0, 0, none, 9, []⟩

theorem witness_MakingFillsANewRecord : (aRequest .each false).mode = .each ∧ (aRequest (.first 0) false).mode = .first 0 ∧
    base.groups.get 0 = none ∧ (base.setGroup 0 (some ⟨0, false, 0⟩)).groups.get 0 = some ⟨0, false, 0⟩ := by
  decide +kernel

theorem witness_RequestCoalescesMakesDisplacesOrDrops :
    sameKeyRecord (queued base 9 aRecord) 0 aRecord.key none = some (9, aRecord) ∧
    sameKeyRecord base 0 aRecord.key none = none ∧ grantedIndex base 0 = some 0 ∧
    grantedIndex (fullPool base) 0 = none ∧ displacementCandidate (fullPool base) 0 = none ∧
    displacementCandidate (queued (fullPool base) 9 aRecord) 0 = some (9, aRecord) ∧
    grantedIndex (queued (fullPool base) 9 aRecord) 0 = none ∧
    sameKeyRecord (queued (fullPool base) 9 aRecord) 0 ⟨8, 0, 8⟩ none = none := by decide +kernel

theorem witness_FreeEndsTheRecord : base.sup.mode ≠ .sleep ∧ 24 ≤ (24 : BitVec 6).toNat ∧
    (23 : BitVec 6).toNat = (23 : LineNo).val ∧ (∃ o, (queued base 9 aRecord).record 9 = some o ∧ o.key.source = 1) ∧
    (∀ j o, base.record j = some o → o.key.source ≠ 23) ∧ (base.setSup { base.sup with poolLowArmed := false }).sup.poolLowArmed =
      false := by
  have h : ∀ j, base.record j = none := by decide +kernel
  refine ⟨by decide, by decide, by decide, ⟨_, rfl, rfl⟩, fun j o e => ?_, rfl⟩
  rw [h j] at e; cases e

/-- Client 0 is READY; record 9 waits behind record 4, which its active context does not accept. -/
def toPresent : State :=
  let s := readyFor 0 (put (put base 9 aRecord) 4 { aRecord with priority := 0 })
  (s.setQueue 0 [4, 9]).setContexts 0 { contextsAtReset with operate := { contextAtReset with threshold := 1 } }

theorem witness_PresentationTakesTheFirstQualifying :
    ¬ MayPresent base 0 ∧ (∀ i r, i ∈ base.queue 0 → base.record i = some r → ¬ Qualifies base 0 r) ∧
    MayPresent toPresent 0 ∧ toPresent.queue 0 = [4] ++ 9 :: [] ∧
    (∀ j ∈ [(4 : RecIndex)], ∀ o, toPresent.record j = some o → ¬ Qualifies toPresent 0 o) ∧
    toPresent.record 9 = some aRecord ∧ Qualifies toPresent 0 aRecord := by
  refine ⟨?_, ?_, (mayPresent_iff _ _).1 (by decide +kernel), by decide +kernel, ?_, by decide +kernel,
    (qualifies_iff _ _ _).1 (by decide +kernel)⟩
  · rw [← mayPresent_iff]; decide +kernel
  · intro i r h; exact absurd h (by decide +revert +kernel)
  · intro j hj o ho
    rw [List.mem_singleton] at hj
    subst hj
    have : toPresent.record 4 = some { aRecord with priority := 0 } := by decide +kernel
    rw [this] at ho
    cases ho
    rw [← qualifies_iff]; decide +kernel

theorem witness_ReadyIsDeclared : ([] : List Byte) = [] ∧ ([1] : List Byte) ≠ [] := by decide

/-- Client 0 holds record 4 PRESENTED and record 9 SUSPENDED. -/
def toAck (r : Record) : State := presented (suspended base 9 r) 4 { r with key := ⟨2, 0, 2⟩ } ⟨.deadline, 9, false, false⟩

theorem witness_AckIsComparedInOrder : (∀ h d, ([] : List Byte) ≠ ackBytes h d) ∧
    ([127, 255, 1] : List Byte) = ackBytes ⟨127, 255⟩ .decline ∧
    (setHealthOf 0 .detached 255 base).attached 0 = false ∧ (toAck aRecord).attached 0 = true ∧
    (namedRecord (toAck aRecord) 0 .presented ⟨4, 1⟩).isSome = true ∧
    namedRecord (toAck aRecord) 0 .presented ⟨9, 1⟩ = none ∧
    (namedRecord (toAck aRecord) 0 .suspended ⟨9, 1⟩).isSome = true ∧
    namedRecord (toAck aRecord) 0 .suspended ⟨9, 2⟩ = none ∧
    ((setLastRecalled 0 (some ⟨9, 2⟩) (toAck aRecord)).presentationOf 0).lastRecalled = some ⟨9, 2⟩ ∧
    ((toAck aRecord).presentationOf 0).lastRecalled ≠ some ⟨9, 2⟩ := by
  refine ⟨fun h d => by simp [ackBytes], ?_⟩
  decide +kernel

theorem witness_AckFreesTheNamedRecord : ∃ r r',
    namedRecord (toAck aRecord) 0 .presented ⟨4, 1⟩ = some r ∧ (toAck aRecord).attached 0 = true ∧
    (base.contextsOf 0).active = .operate ∧
    namedRecord (toAck aRecord) 0 .suspended ⟨9, 1⟩ = some r' ∧ (toAck aRecord).sup.mode ≠ .sleep ∧ r'.mode = .each :=
  ⟨_, _, rfl, by decide +kernel, by decide +kernel, rfl, by decide +kernel, rfl⟩

/-- Clients 0 and 1 hold the two copies of group 0: client 0's is PRESENTED at 4, client 1's QUEUED at 9. -/
def twoCopies : State :=
  (presented (queued base 9 { aRecord with owner := 1, mode := .first 0 }) 4 { aRecord with mode := .first 0 }
    ⟨.spent, 0, false, false⟩).setGroup 0 (some ⟨2, false, 0⟩)

/-- AckFreesTheNamedRecord: a group that is absent, done, or still to be won; a client with and one without another copy. -/
theorem witness_AckFreesTheNamedRecord_group : base.groups.get 0 = none ∧
    ((twoCopies.setGroup 0 (some ⟨2, true, 0⟩)).groups.get 0).map FirstGroup.done = some true ∧
    (twoCopies.groups.get 0).map FirstGroup.done = some false ∧
    (∃ r, twoCopies.record 4 = some r ∧ r.mode = .first 0 ∧ r.mode ≠ .each) ∧
    (∃ r, twoCopies.record 9 = some r ∧ (9 : RecIndex) ≠ 4 ∧ r.owner = 1 ∧ r.mode = .first 0) ∧
    (∀ k o, k < 9 → k ≠ 4 → twoCopies.record k = some o → o.owner = 1 → o.mode ≠ .first 0) ∧
    (∀ k o, k ≠ 4 → twoCopies.record k = some o → o.owner = 2 → o.mode ≠ .first 0) := by
  have h : ∀ i : RecIndex, i = 4 ∨ i = 9 ∨ twoCopies.record i = none := by decide +kernel
  have h9 : (twoCopies.record 9).map Record.owner = some 1 := by decide +kernel
  refine ⟨by decide +kernel, by decide +kernel, by decide +kernel, ⟨_, rfl, rfl, by simp⟩, ⟨_, rfl, by decide, rfl, rfl⟩, ?_, ?_⟩
  · intro k o lt ne e
    rcases h k with x | x | x
    · exact absurd x ne
    · subst x; exact absurd lt (by decide)
    · rw [x] at e; cases e
  · intro k o ne e ho
    rcases h k with x | x | x
    · exact absurd x ne
    · subst x; rw [e, Option.map_some, ho] at h9; cases h9
    · rw [x] at e; cases e

theorem witness_FirstDoneTakesTheWholeGroup : ∃ r, namedRecord twoCopies 0 .presented ⟨4, 1⟩ = some r ∧
    r.mode = .first 0 ∧ twoCopies.groups.get 0 = some ⟨2, false, 0⟩ ∧
    (∀ i j ri rj, twoCopies.record i = some ri → twoCopies.record j = some rj → ri.mode = .first 0 → rj.mode = .first 0 →
      ri.owner = rj.owner → i = j) := by
  refine ⟨_, rfl, rfl, by decide +kernel, ?_⟩
  have h : ∀ i : RecIndex, i = 4 ∨ i = 9 ∨ twoCopies.record i = none := by decide +kernel
  have h4 : (twoCopies.record 4).map Record.owner = some 0 := by decide +kernel
  have h9 : (twoCopies.record 9).map Record.owner = some 1 := by decide +kernel
  intro i j ri rj hi hj _ _ ho
  rcases h i with e | e | e <;> rcases h j with f | f | f <;> simp_all

theorem witness_WithdrawalFollowsTheCopysState :
    (∃ r, twoCopies.record 9 = some r ∧ r.state = .queued) ∧ (∃ r, twoCopies.record 4 = some r ∧ r.state = .presented) ∧
    (∃ r, (toAck aRecord).record 9 = some r ∧ r.state = .suspended) ∧ (toAck aRecord).sup.mode ≠ .sleep ∧
    (∃ f ∈ ((placeHubFrame 0 (.deliver (deliverFields ⟨4, 1⟩ aRecord)) twoCopies).link 0).hub,
      ∃ b, f = .deliver b ∧ b.handle = ⟨4, 1⟩) ∧
    (∀ b, b.handle = ⟨4, (twoCopies.slot 4).gen⟩ → .deliver b ∉ (twoCopies.link 0).hub) := by
  have hh : (twoCopies.link 0).hub = [] := by decide +kernel
  have hp : ((placeHubFrame 0 (.deliver (deliverFields ⟨4, 1⟩ aRecord)) twoCopies).link 0).hub =
      [.deliver (deliverFields ⟨4, 1⟩ aRecord)] := by decide +kernel
  refine ⟨⟨_, rfl, rfl⟩, ⟨_, rfl, rfl⟩, ⟨_, rfl, rfl⟩, by decide +kernel, ⟨_, by rw [hp]; exact List.mem_singleton.2 rfl, _, rfl, rfl⟩, ?_⟩
  intro b _; rw [hh]; exact List.not_mem_nil

/-- A SLOTS frame waits between two others. -/
def threeFrames (x : Table 4 SlotsEntry) : List HubFrame :=
  [.recall ⟨1, 1⟩] ++ .slots x :: [.context .service .forced none]

theorem witness_OutcomesAndFramesInPlace (x : Table 4 SlotsEntry) :
    (∀ g ∈ (base.link 0).hub, g.kindByte ≠ (HubFrame.slots x).kindByte) ∧ (∀ y, .slots y ∉ (base.link 0).hub) ∧
    (base.setLink 0 { base.link 0 with hub := threeFrames x }).link 0 =
      { base.link 0 with hub := [.recall ⟨1, 1⟩] ++ .slots x :: [.context .service .forced none] } ∧
    (∀ o ∈ [HubFrame.recall ⟨1, 1⟩] ++ [.context .service .forced none], o.kindByte ≠ (HubFrame.slots x).kindByte) ∧
    (∀ y, .slots y ∉ [HubFrame.recall ⟨1, 1⟩] ++ [.context .service .forced none]) ∧
    (let k : Key := ⟨40, 12, 3⟩
     let s := base.setPosts 3 { postsAtReset with slots := postsAtReset.slots.set 3 (.orphaned 0 ⟨4, 1⟩) }
     let t := base.setPosts 3 { postsAtReset with slots := postsAtReset.slots.set 3 (.waiting 0 ⟨4, 1⟩) }
     k.postSender = 3 ∧ k.postSlot = 3 ∧ (s.postsOf 3).slots.get 3 = .orphaned 0 ⟨4, 1⟩ ∧
      (t.postsOf 3).slots.get 3 = .waiting 0 ⟨4, 1⟩) := by
  have hh : (base.link 0).hub = [] := by decide +kernel
  refine ⟨by simp [hh], by simp [hh], by simp [threeFrames, State.link], by simp [HubFrame.kindByte], by simp, ?_⟩
  decide +kernel

theorem witness_ContextAndTimerSettings :
    (∀ k c p, ([] : List Byte) ≠ contextSetBytes k c p) ∧ ([1, 0xFF, 0xFF, 7] : List Byte) = contextSetBytes .service 0xFFFF 7 ∧
    (∀ k x, Allowed x → ([] : List Byte) ≠ timerSetBytes k x) ∧ Allowed ⟨.off, 0, 0⟩ ∧ Allowed ⟨.once, 1, 0⟩ ∧
    Allowed ⟨.once, 2 ^ 24 - 1, 0⟩ ∧ Allowed ⟨.periodic, 1, 1⟩ ∧ Allowed ⟨.periodic, 2 ^ 24 - 1, 2 ^ 24 - 1⟩ := by
  refine ⟨fun _ _ _ => by simp [contextSetBytes], by decide, fun _ _ _ => by simp [timerSetBytes], ?_⟩
  unfold Allowed
  decide

theorem witness_ExchangeByRequestOrForced :
    (base.contextsOf 0).active = .operate ∧ base.attached 0 = true ∧ (setHealthOf 0 .rejoining 255 base).attached 0 = false ∧
    ((suspended base 9 aRecord).contextsOf 0).active = .service ∧ presentedOf (suspended base 9 aRecord) 0 = none ∧
    (presentedOf (toAck aRecord) 0).isSome = true ∧ ([2] : List Byte) ≠ [0] ∧ ([2] : List Byte) ≠ [1] ∧
    Forced (readyFor 0 (queued base 9 { aRecord with urgent := true })) 0 ∧ ¬ Forced base 0 := by
  refine ⟨by decide +kernel, by decide +kernel, by decide +kernel, by decide +kernel, by decide +kernel, by decide +kernel,
    by decide, by decide, (forcedCondition_iff _ _).1 (by decide +kernel), ?_⟩
  rw [← forcedCondition_iff]; decide +kernel

theorem witness_ExchangesChangeTheContext :
    presentedOf base 0 = none ∧ suspendedOf base 0 = none ∧ presentedOf (toAck aRecord) 0 = some 4 ∧
    ((toAck aRecord).record 4).isSome = true ∧ suspendedOf (toAck aRecord) 0 = some 9 ∧
    ((toAck aRecord).record 9).isSome = true := by decide +kernel

/-- The DELIVER frame of client 0's record 4, in stage `e`, is in transmission. -/
def delivering (e : Escalation) (p : ProfileNo) : State :=
  let s := presented base 4 { aRecord with profile := p } e
  s.setLink 0 { s.link 0 with tx := some (.hub (.deliver (deliverFields ⟨4, 1⟩ aRecord))) }

theorem witness_StageBeginsWhenDelivered :
    (∀ e ∈ [(⟨.waiting, 0, false, false⟩ : Escalation), ⟨.deadline, 9, false, false⟩, ⟨.delay, 9, true, true⟩],
      ∀ p ∈ [(0 : ProfileNo), 3],
        ((delivering e p).link 0).tx = some (.hub (.deliver (deliverFields ⟨4, 1⟩ aRecord))) ∧
        presentedOf (delivering e p) 0 = some 4 ∧ ((delivering e p).record 4).map Record.esc = some (some e) ∧
        (deliverFields ⟨4, 1⟩ aRecord).handle = ⟨4, ((delivering e p).slot 4).gen⟩) ∧
    (base.profiles.get 0).deadline ≠ 0 ∧ (base.profiles.get 3).deadline = 0 ∧
    presentedOf (base.setLink 0 { base.link 0 with tx := some (.hub (.deliver (deliverFields ⟨4, 1⟩ aRecord))) }) 0 = none ∧
    (deliverFields ⟨4, 1⟩ aRecord).handle ≠ ⟨5, 1⟩ := by decide +kernel

/-- Client 1's stage timer at its last tick, with this score. -/
def stageAt (e : Escalation) (n : Nat) : State :=
  (presented base 0 { aRecord with owner := 1 } e).setHealth 1 ⟨n, healthOfScore n, 0, 0⟩

theorem witness_StageExpiriesEscalate :
    (∀ st ∈ [Stage.deadline, .delay], ∀ n ∈ [0, 247, 248, 255],
      let s := stageAt ⟨st, 1, false, false⟩ n
      let u := marked (.stage 1) (moment s)
      (timerLeft s (.stage 1) = 1 ∧ s.time.ticked.contains (.stage 1) = false ∧ timerLeft (moment s) (.stage 1) = 1) ∧
      (escOf s 1).map Escalation.stage = some st ∧ u.attached 1 = true ∧ (u.healthOf 1).score = n ∧
      heldIn u 1 .presented = some (0, { aRecord with
        owner := 1, state := .presented, esc := some ⟨st, 1, false, false⟩ })) ∧
    247 + 8 ≤ 255 ∧ 255 < 248 + 8 := by decide +kernel

theorem unique_of_three {s : State} {a b : RecIndex} (h : ∀ i, i = a ∨ i = b ∨ s.record i = none)
    (hab : ∀ ra rb, s.record a = some ra → s.record b = some rb → ra.state ≠ rb.state) (i j : RecIndex) (ri rj : Record)
    (hi : s.record i = some ri) (hj : s.record j = some rj) (e : ri.state = rj.state) : i = j := by
  rcases h i with x | x | x <;> rcases h j with y | y | y <;> subst_vars <;> first
    | rfl
    | (rw [x] at hi; cases hi)
    | (rw [y] at hj; cases hj)
    | exact absurd e (hab _ _ hi hj)
    | exact absurd e.symm (hab _ _ hj hi)

theorem toAck_records : (∀ i, i = 4 ∨ i = 9 ∨ (toAck aRecord).record i = none) ∧
    ∀ ra rb, (toAck aRecord).record 4 = some ra → (toAck aRecord).record 9 = some rb → ra.state ≠ rb.state := by
  refine ⟨by decide +kernel, ?_⟩
  have h4 : ((toAck aRecord).record 4).map Record.state = some .presented := by decide +kernel
  have h9 : ((toAck aRecord).record 9).map Record.state = some .suspended := by decide +kernel
  intro ra rb ha hb e
  rw [ha] at h4; rw [hb] at h9
  simp only [Option.map_some, Option.some.injEq] at h4 h9
  rw [h4, h9] at e; cases e

/-- A state that holds one QUEUED, one PRESENTED and one SUSPENDED record meets the law of records and queues. -/
theorem recordLaw_of {s : State} {a b c : RecIndex} {ra rb rc : Record}
    (h : ∀ i, i = a ∨ i = b ∨ i = c ∨ s.record i = none)
    (ha : s.record a = some ra) (hb : s.record b = some rb) (hc : s.record c = some rc)
    (ea : ra.state = .queued) (eb : rb.state = .presented) (ec : rc.state = .suspended)
    (hq : ∀ k, s.queue k = if k = ra.owner then [a] else [])
    (hg : ∀ k, (s.presentationOf k).gateOpen = decide (k ≠ rb.owner))
    (hs : ∀ k, (s.contextsOf k).suspended = if k = rc.owner then some (s.handleAt c) else none)
    (ho : ∀ k, (s.contextsOf k).active = .operate → (s.contextsOf k).suspended = none)
    (hat : s.attached ra.owner = true ∧ s.attached rb.owner = true ∧ s.attached rc.owner = true) : RecordLaw s := by
  have one : ∀ {i r}, s.record i = some r → (i = a ∧ r = ra) ∨ (i = b ∧ r = rb) ∨ (i = c ∧ r = rc) := by
    intro i r e
    rcases h i with x | x | x | x
    · subst x; exact .inl ⟨rfl, by simpa [ha] using e.symm⟩
    · subst x; exact .inr (.inl ⟨rfl, by simpa [hb] using e.symm⟩)
    · subst x; exact .inr (.inr ⟨rfl, by simpa [hc] using e.symm⟩)
    · rw [x] at e; cases e
  refine ⟨fun k => ⟨?_, fun i => ⟨fun hi => ?_, ?_⟩⟩, ?_, fun k => ⟨fun hk => ?_, ?_⟩, fun k x => ⟨fun hk => ?_, ?_⟩, ho, ?_⟩
  · rw [hq]; split <;> simp
  · rw [hq] at hi
    split at hi
    · rename_i e; rw [List.mem_singleton] at hi; subst hi; exact ⟨ra, ha, e.symm, ea⟩
    · cases hi
  · rintro ⟨r, e, o, st⟩
    rcases one e with ⟨rfl, rfl⟩ | ⟨rfl, rfl⟩ | ⟨rfl, rfl⟩
    · rw [hq, if_pos o.symm]; exact List.mem_singleton.2 rfl
    · rw [eb] at st; cases st
    · rw [ec] at st; cases st
  · intro i j ri rj hi hj _ st nq
    rcases one hi with ⟨rfl, rfl⟩ | ⟨rfl, rfl⟩ | ⟨rfl, rfl⟩ <;> rcases one hj with ⟨rfl, rfl⟩ | ⟨rfl, rfl⟩ | ⟨rfl, rfl⟩ <;>
      first | rfl | simp_all
  · rw [hg] at hk; simp at hk; exact ⟨b, rb, hb, hk.symm, eb⟩
  · rintro ⟨i, r, e, o, st⟩
    rcases one e with ⟨rfl, rfl⟩ | ⟨rfl, rfl⟩ | ⟨rfl, rfl⟩
    · rw [ea] at st; cases st
    · rw [hg]; simp [o]
    · rw [ec] at st; cases st
  · rw [hs] at hk
    split at hk
    · rename_i e; cases hk; exact ⟨rfl, rc, hc, e.symm, ec⟩
    · cases hk
  · rintro ⟨g, r, e, o, st⟩
    rcases one e with ⟨_, rfl⟩ | ⟨_, rfl⟩ | ⟨ei, rfl⟩
    · rw [ea] at st; cases st
    · rw [eb] at st; cases st
    · rw [hs, if_pos o.symm, Option.some.injEq]
      show (⟨c, (s.slot c).gen⟩ : Handle) = x
      rw [← ei, ← g]
  · intro i r e
    rcases one e with ⟨rfl, rfl⟩ | ⟨rfl, rfl⟩ | ⟨rfl, rfl⟩
    · exact hat.1
    · exact hat.2.1
    · exact hat.2.2

/-- A state that meets every law: client 0's PRESENTED record 4 and client 1's QUEUED record 2 are the copies of group 0, and
record 9 of client 0, a post from client 1's slot 2, is SUSPENDED. -/
def lawful : State :=
  setPostSlot 1 2 (.waiting 0 ⟨9, 1⟩) ((presented
    (suspended (queued base 2 { aRecord with owner := 1, mode := .first 0 }) 9 { aRecord with key := ⟨38, 12, 2⟩ }) 4
    { aRecord with mode := .first 0 } ⟨.deadline, 9, false, false⟩).setGroup 0 (some ⟨2, false, 0⟩))

theorem lawful_records : ∀ i, i = 2 ∨ i = 4 ∨ i = 9 ∨ lawful.record i = none := by decide +kernel

theorem recordLaw_lawful : RecordLaw lawful :=
  recordLaw_of lawful_records rfl rfl rfl rfl rfl rfl (by decide +kernel) (by decide +kernel) (by decide +kernel)
    (by decide +kernel) (by decide +kernel)

theorem queueLaw_lawful : QueueLaw lawful := by
  refine ⟨recordLaw_lawful, fun c i j _ _ hi hj _ _ _ _ _ => ?_⟩
  have h : ∀ k, lawful.queue k = if k = 1 then [2] else [] := by decide +kernel
  rw [h] at hi hj
  split at hi <;> simp_all

theorem postLaw_lawful : PostLaw lawful := by
  have hs : ∀ p n, (lawful.postsOf p).slots.get n = if p = 1 ∧ n = 2 then .waiting 0 ⟨9, 1⟩ else .empty := by decide +kernel
  have h2 : (lawful.record 2).map (fun r => r.key.source) = some 1 := by decide +kernel
  have h4 : (lawful.record 4).map (fun r => r.key.source) = some 1 := by decide +kernel
  have h9 : (lawful.record 9).map (fun r => (r.owner, r.key)) = some (0, ⟨38, 12, 2⟩) := by decide +kernel
  have g9 : (lawful.slot 9).gen = 1 := by decide +kernel
  have key : ∀ (p : Client) (n : SlotNo), (⟨BitVec.ofNat 6 (37 + p.val), 12, BitVec.ofNat 12 n.val⟩ : Key).source ≠ 1 ∧
      ((⟨38, 12, 2⟩ : Key) = ⟨BitVec.ofNat 6 (37 + p.val), 12, BitVec.ofNat 12 n.val⟩ ↔ p = 1 ∧ n = 2) := by decide +kernel
  rintro p n t ⟨i, g⟩
  rw [hs]
  constructor
  · intro e
    split at e
    · rename_i hp
      simp only [PostSlot.waiting.injEq, Handle.mk.injEq, reduceCtorEq, or_false] at e
      obtain ⟨rfl, rfl, rfl⟩ := e
      obtain ⟨r, hr, er⟩ := Option.map_eq_some_iff.1 h9
      exact ⟨g9.symm, r, hr, congrArg Prod.fst er, (congrArg Prod.snd er).trans ((key p n).2.2 hp)⟩
    · simp at e
  · rintro ⟨e, r, hr, ho, hk⟩
    dsimp only at e hr
    rcases lawful_records i with x | x | x | x
    · subst x; rw [hr] at h2; exact absurd ((congrArg Key.source hk).symm.trans (Option.some.inj h2)) (key p n).1
    · subst x; rw [hr] at h4; exact absurd ((congrArg Key.source hk).symm.trans (Option.some.inj h4)) (key p n).1
    · subst x
      rw [hr] at h9
      have h := Option.some.inj h9
      have hk' := (congrArg Prod.snd h).symm.trans hk
      rw [if_pos ((key p n).2.1 hk'), ← ho, e, g9]
      exact .inl (by rw [show r.owner = 0 from congrArg Prod.fst h])
    · rw [x] at hr; cases hr

theorem groupLaw_lawful : GroupLaw lawful := by
  have h2 : (lawful.record 2).map (fun r => (r.owner, r.mode)) = some (1, .first 0) := by decide +kernel
  have h4 : (lawful.record 4).map (fun r => (r.owner, r.mode)) = some (0, .first 0) := by decide +kernel
  have h9 : (lawful.record 9).map (fun r => (r.owner, r.mode)) = some (0, .each) := by decide +kernel
  have hg : ∀ g, lawful.groups.get g = if g = 0 then some ⟨2, false, 0⟩ else none := by decide +kernel
  refine ⟨fun g x e => ?_, fun g e i r hr hm => ?_, fun g i j ri rj hi hj mi mj o => ?_⟩
  · rw [hg] at e
    split at e
    · rename_i e0; subst e0; cases e; exact ⟨by decide, by decide +kernel⟩
    · cases e
  · have hne : g ≠ 0 := by rintro rfl; rw [hg] at e; cases e
    rcases lawful_records i with x | x | x | x <;> simp_all
  · rcases lawful_records i with x | x | x | x <;> rcases lawful_records j with y | y | y | y <;> subst_vars <;> simp_all

theorem witness_ClientResetLeavesDefaults : RecordLaw lawful ∧
    (∀ n d h, (lawful.postsOf 0).slots.get n = .waiting d h → d ≠ 0) ∧
    (lawful.record 4).map (fun r => (r.owner, r.state, decide (r.key.source = 41))) = some (0, .presented, false) ∧
    (lawful.contextsOf 0).active = .service ∧ (1 : Client) ≠ 0 := by
  have h : ∀ n, (lawful.postsOf 0).slots.get n = .empty := by decide +kernel
  refine ⟨recordLaw_lawful, fun n d x e => ?_, by decide +kernel, by decide +kernel, by decide⟩
  rw [h n] at e; cases e

/-- A signal record of client 0 is PRESENTED, and one of client 1 waits. -/
def signals : State :=
  presented (queued base 9 { aRecord with owner := 1, key := ⟨41, 13, 0⟩ }) 4 { aRecord with key := ⟨41, 13, 0⟩ }
    ⟨.waiting, 0, false, false⟩

theorem witness_ProfilesAndClientSettings_profiles : ([3, 0xFF, 0xFF, 4, 7] : List Byte) = profileSetBytes 3 ⟨65535, .boardReset, 7⟩ ∧
    ([0, 0, 0, 0, 0] : List Byte) = profileSetBytes 0 ⟨0, .noteOnly, 0⟩ ∧
    (∀ p x, x.deadline ≤ 65535 → ([] : List Byte) ≠ profileSetBytes p x) ∧
    ([3] : List Byte) = [byte (3 : ProfileNo).val] ∧ (∀ p : ProfileNo, ([4] : List Byte) ≠ [byte p.val]) := by
  refine ⟨by decide, by decide, fun _ _ _ => by simp [profileSetBytes], by decide, by decide⟩

theorem witness_ScoreChangesByItsBands :
    (setHealthOf 0 .detached 255 base).attached 0 = false ∧ (setHealthOf 0 .restricted 254 base).attached 0 = true ∧
    255 < ((setHealthOf 0 .restricted 254 base).healthOf 0).score + 2 ∧ (base.healthOf 0).score + 8 ≤ 255 ∧
    bandOf 95 = (base.healthOf 0).health ∧ bandOf 96 ≠ (base.healthOf 0).health ∧ bandOf 127 ≠ .restricted ∧
    bandOf 128 = .restricted := by decide +kernel

theorem witness_DetachLeavesNoRecord : ∀ i r, (toAck aRecord).record i = some r → r.owner = 0 →
    presentedOf (toAck aRecord) 0 = some i ∨ suspendedOf (toAck aRecord) 0 = some i ∨ i ∈ (toAck aRecord).queue 0 := by
  intro i r hr _
  rcases toAck_records.1 i with x | x | x
  · subst x; exact .inl (by decide +kernel)
  · subst x; exact .inr (.inl (by decide +kernel))
  · rw [x] at hr; cases hr

/-- Client 0's record 4 has the fallback client 1, of which client 1 holds a copy or a record of its key at 9. -/
def toFallback (m : RecMode) : State :=
  queued (queued base 9 { aRecord with owner := 1, mode := m }) 4 { aRecord with mode := m, fallback := some 1 }

theorem witness_DetachDisposesOfEachRecord :
    base.record 4 = none ∧ (signals.record 4).map (fun r => r.key.source) = some 41 ∧
    (37 ≤ (37 : BitVec 6).toNat ∧ (37 : BitVec 6).toNat ≤ 40) ∧ (36 : BitVec 6).toNat < 37 ∧ 41 < (42 : BitVec 6).toNat ∧
    ((lawful.record 4).map Record.fallback = some none) ∧
    (∀ m ∈ [RecMode.each, .first 0], ((toFallback m).record 4).map (fun r => (r.mode, r.fallback)) = some (m, some 1)) ∧
    (setHealthOf 1 .detached 255 (toFallback .each)).attached 1 = false ∧ (toFallback .each).attached 1 = true ∧
    (∃ o, (toFallback (.first 0)).record 9 = some o ∧ o.owner = 1 ∧ o.mode = .first 0) ∧
    (∀ j o, (queued base 4 { aRecord with mode := .first 0, fallback := some 1 }).record j = some o → o.owner = 1 →
      o.mode ≠ .first 0) ∧
    (sameKeyRecord (toFallback .each) 1 aRecord.key none).map Prod.fst = some 9 ∧
    sameKeyRecord base 1 aRecord.key none = none := by
  refine ⟨by decide +kernel, by decide +kernel, by decide, by decide, by decide, by decide +kernel, by decide +kernel,
    by decide +kernel, by decide +kernel, ⟨_, rfl, rfl, rfl⟩, fun j o e ho => ?_, by decide +kernel, by decide +kernel⟩
  have h : ∀ j, ((queued base 4 { aRecord with mode := .first 0, fallback := some 1 }).record j).all
      fun o => decide (o.owner = 0) := by decide +kernel
  have := h j
  rw [e] at this
  simp [ho] at this

/-- In SLEEP, client 0's urgent record 9 has the fallback client 1, which is READY in OPERATE; its record 4 is the last of an active
LEVEL line whose repeat timer has run out. -/
def sleepingDetach : State :=
  let s := put (put (setMode .sleep (levelLine false false 0)) 4 { aRecord with key := ⟨0, 0, 0⟩ }) 9
    { aRecord with urgent := true, fallback := some 1 }
  readyFor 1 (s.setQueue 0 [9, 4])

/-- The re-raise wakes the hub, and CTX still comes to the transferred record before PRS: it is presented in SERVICE (R109, R137). -/
theorem test_detach_in_sleep_is_whole :
    (let t := detach 0 sleepingDetach
     (t.mode, (t.contextsOf 1).active, presentedOf t 1, (t.line 0).latch, t.queue 1)) =
      (.run, .service, some 9, .outstanding, []) := by decide +kernel

theorem witness_HeartbeatsAndRejoin :
    ((base.setHealth 0 ⟨255, .rejoining, 14, 0⟩).healthOf 0).rejoin + 1 < 16 ∧
    16 ≤ ((base.setHealth 0 ⟨255, .rejoining, 15, 0⟩).healthOf 0).rejoin + 1 ∧
    ((base.setHealth 0 ⟨255, .rejoining, 15, 0⟩).healthOf 0).health = .rejoining ∧
    ((base.setHealth 0 ⟨255, .rejoining, 15, 1⟩).healthOf 0).spacingLeft ≠ 0 ∧
    (base.healthOf 0).health ≠ .rejoining ∧ (base.healthOf 0).health ≠ .detached ∧
    ((setHealthOf 0 .detached 255 base).healthOf 0).health = .detached := by decide +kernel

theorem witness_ForceActsOnAnotherClient : (1 : Client) ≠ 0 ∧ (1 : Client) ≠ base.sup.straps.supsel ∧
    (∀ d : Client, ([0, 4] : List Byte) ≠ [0, byte d.val]) ∧
    (∀ d : Client, d ≠ base.sup.straps.supsel → ([1, 0] : List Byte) ≠ [1, byte d.val]) ∧
    (∀ d : Client, d ≠ 0 → ([2, 0] : List Byte) ≠ [2, byte d.val]) ∧
    (∃ b rest, ([3] : List Byte) = b :: rest ∧ 2 < b.toNat) := by
  refine ⟨by decide, by decide +kernel, by decide, by decide +kernel, by decide, 3, [], rfl, by decide⟩

theorem witness_RaisePlacesAnEvent : (11 : BitVec 4).toNat ≤ 11 ∧
    ∀ (cls : BitVec 4) (code : BitVec 12), cls.toNat ≤ 11 → ([] : List Byte) ≠ byte cls.toNat :: be16 code.toNat :=
  ⟨by decide, fun _ _ _ => by simp⟩

theorem witness_PostMakesARecord : (1 : Client) ≠ 0 ∧
    (∀ f : PostFields, f.target ≠ 0 → 1 ≤ f.payload.length → f.payload.length ≤ 32 → ([] : List Byte) ≠ postBytes f) ∧
    1 ≤ (List.replicate 32 (0 : Byte)).length ∧ (List.replicate 32 (0 : Byte)).length ≤ 32 ∧
    (base.postsOf 0).slots.get 0 = .empty ∧
    (let s := base.setPosts 0 { postsAtReset with slots := Table.const (.waiting 1 ⟨0, 0⟩) }
     ∀ n, (s.postsOf 0).slots.get n ≠ .empty) ∧
    grantedIndex base 1 = some 0 ∧ grantedIndex (fullPool base) 1 = none := by
  refine ⟨by decide, fun _ _ _ _ => by simp [postBytes], ?_⟩
  decide +kernel

/-- Client 0's slot 3 waits for record 9 of client 1. -/
def posted (st : RecState) : State :=
  (put base 9 { aRecord with owner := 1, key := ⟨37, 12, 3⟩, state := st }).setPosts 0
    { postsAtReset with slots := postsAtReset.slots.set 3 (.waiting 1 ⟨9, 1⟩) }

theorem witness_PostMakesARecord_withdraw :
    (∀ n : SlotNo, ([4] : List Byte) ≠ [byte n.val]) ∧ ((posted .queued).postsOf 0).slots.get 3 = .waiting 1 ⟨9, 1⟩ ∧
    namedRecord (posted .presented) 1 .queued ⟨9, 1⟩ = none ∧
    (namedRecord (posted .queued) 1 .queued ⟨9, 1⟩).map Record.key = some ⟨BitVec.ofNat 6 (37 + 0), 12, BitVec.ofNat 12 3⟩ ∧
    (∀ t h, (base.postsOf 0).slots.get 3 ≠ .waiting t h) ∧ (posted .queued).sup.mode ≠ .sleep := by
  have h : (base.postsOf 0).slots.get 3 = .empty := by decide +kernel
  refine ⟨by decide, by decide +kernel, by decide +kernel, by decide +kernel, fun t x => by rw [h]; simp, by decide +kernel⟩

theorem witness_ClientResetInItsSteps :
    heldIn base 0 .presented = none ∧ (heldIn lawful 0 .presented).map Prod.fst = some 4 ∧
    (heldIn lawful 0 .suspended).map Prod.fst = some 9 ∧
    (heldIn signals 0 .presented).map (fun p => p.2.key.source) = some 41 ∧
    (signals.record 9).map (fun r => (r.owner, r.key.source)) = some (1, 41) ∧ base.record 9 = none ∧
    (∀ t h, (base.postsOf 0).slots.get 3 ≠ .waiting t h) ∧
    (∀ st, ((posted st).postsOf 0).slots.get 3 = .waiting 1 ⟨9, 1⟩) ∧
    (namedRecord (posted .queued) 1 .queued ⟨9, 1⟩).isSome = true ∧ namedRecord (posted .presented) 1 .queued ⟨9, 1⟩ = none := by
  have h : (base.postsOf 0).slots.get 3 = .empty := by decide +kernel
  refine ⟨by decide +kernel, by decide +kernel, by decide +kernel, by decide +kernel, by decide +kernel, by decide +kernel,
    fun t x => by rw [h]; simp, fun st => by cases st <;> decide +kernel, by decide +kernel, by decide +kernel⟩

theorem witness_SignalJoinsOrMakesARecord : (0x8000 : FlagSet) ≠ 0 ∧
    (∀ f : SignalFields, f.target ≠ 0 → f.flags ≠ 0 → ([] : List Byte) ≠ signalBytes f) ∧
    (sameKeyRecord (queued base 9 { aRecord with owner := 1, key := ⟨41, 13, 0⟩ }) 1 ⟨41, 13, 0⟩ none).isSome = true ∧
    sameKeyRecord base 1 ⟨41, 13, 0⟩ none = none ∧ grantedIndex (fullPool base) 1 = none ∧ grantedIndex base 1 = some 0 := by
  refine ⟨by decide, fun _ _ _ => by simp [signalBytes], ?_⟩
  decide +kernel

theorem witness_ReceiverFollowsItsStates : (State.reset.clientLinesOf 0).resetLine = true ∧
    (base.clientLinesOf 0).resetLine = false ∧ (base.link 0).receiver = .hunt ∧
    ((setReceiver 0 .length base).link 0).receiver = .length ∧ (48 : Byte).toNat ≤ 48 ∧ 48 < (49 : Byte).toNat ∧
    ((setReceiver 0 (.body 0 [1]) base).link 0).receiver = .body 0 [1] ∧
    ((setReceiver 0 (.check 0 [1, 2] none) base).link 0).receiver = .check 0 [1, 2] none ∧
    ((setReceiver 0 (.check 0 (1 :: 2 :: []) (some 3)) base).link 0).receiver = .check 0 (1 :: 2 :: []) (some 3) ∧
    ((setReceiver 0 .length base).link 0).receiver ≠ .hunt := by decide +kernel

theorem witness_FramesAreAcceptedOrCounted : base.attached 0 = true ∧
    ((setHealthOf 0 .detached 255 base).healthOf 0).health = .detached ∧
    ((setHealthOf 0 .rejoining 255 base).healthOf 0).health = .rejoining ∧
    (base.setSup { base.sup with resetPending := some 1 }).sup.resetPending ≠ none ∧ base.sup.resetPending = none ∧
    (base.link 0).requests.length + (base.link 0).replies.length < 2 ∧
    (let s := base.setLink 0 { linkAtReset with requests := [⟨.ready, 1, [], 0⟩], replies := [⟨0, 1, .ok, []⟩] }
     2 ≤ (s.link 0).requests.length + (s.link 0).replies.length) ∧
    (∀ k, kindByte k ≠ 0x81) ∧ kindByte .status = 0x50 := by
  refine ⟨by decide +kernel, by decide +kernel, by decide +kernel, by decide +kernel, by decide +kernel, by decide +kernel,
    by decide +kernel, fun k => by cases k <;> decide, rfl⟩

theorem witness_TransmitterTakesRepliesFirst :
    (State.reset.clientLinesOf 0).resetLine = true ∧ (base.clientLinesOf 0).resetLine = false ∧ (base.link 0).tx = none ∧
    (base.link 0).replies = [] ∧ (base.link 0).hub = [] ∧
    (∀ d, HubFrame.recall ⟨1, 1⟩ ≠ .deliver d) ∧
    (let s := base.setLink 0 { linkAtReset with
      replies := [⟨7, 0x44, .ok, []⟩], hub := [.recall ⟨1, 1⟩], tx := some (.reply ⟨7, 0x44, .ok, []⟩) }
     (s.link 0).tx = some (.reply ⟨7, 0x44, .ok, []⟩) ∧ (s.link 0).replies = ⟨7, 0x44, .ok, []⟩ :: [] ∧
      (s.link 0).hub = .recall ⟨1, 1⟩ :: []) := by
  refine ⟨by decide +kernel, by decide +kernel, by decide +kernel, by decide +kernel, by decide +kernel, by simp, ?_⟩
  decide +kernel

theorem witness_FrameBytesSpellTheirRequest : (List.replicate 48 (0 : Byte)).length ≤ 48 ∧ (base.link 0).receiver = .hunt ∧
    (base.clientLinesOf 0).resetLine = false ∧ base.sup.resetPending = none ∧
    (base.link 0).requests.length + (base.link 0).replies.length < 2 ∧ base.sup.mode ≠ .sleep ∧ settle base = base := by
  refine ⟨by decide, by decide +kernel, by decide +kernel, rfl, by decide +kernel, by decide, ?_⟩
  decide +kernel

theorem witness_RouteTableRequests :
    (∃ x : RouteEntry, (x.enabled = true → x.targets ≠ 0) ∧ x.enabled = true ∧ x.targets = 15) ∧
    (∀ (e : EntryNo) (x : RouteEntry), (x.enabled = true → x.targets ≠ 0) → ([] : List Byte) ≠ entryBytes e x) ∧
    (∀ (b : BankNo) (x : BankState), ([6, 0] : List Byte) ≠ [byte b.val, byte x.code]) ∧
    (∀ e : EntryNo, ([48] : List Byte) ≠ [byte e.val]) ∧ ([47] : List Byte) = [byte (47 : EntryNo).val] ∧
    ([5, 1] : List Byte) = [byte (5 : BankNo).val, byte BankState.opened.code] := by
  refine ⟨⟨⟨true, 0, 0, 0, 0, 0, 0, 15, .each, 0, false, none, 0⟩, by decide, rfl, rfl⟩, fun e x _ => by simp [entryBytes],
    fun b x => by cases x <;> revert b <;> decide, by decide, by decide, by decide⟩

theorem witness_ProfilesAndClientSettings_clients :
    ClientSettable 0 ⟨0, ⟨true, true, true, true⟩, 1000, 255, 3, 3⟩ ∧
    ClientSettable 0 ⟨1, ⟨false, false, false, false⟩, 0, 1, 0, 0⟩ ∧
    (∀ f : ClientSetFields, ClientSettable 0 f → ([] : List Byte) ≠ clientSetBytes f) := by
  refine ⟨by unfold ClientSettable; decide, by unfold ClientSettable; decide, fun f _ => by simp [clientSetBytes]⟩

theorem witness_ReadsReportTheirTables_query : escOf base 0 = none ∧
    escOf (toAck aRecord) 0 = some ⟨.deadline, 9, false, false⟩ := by decide +kernel

theorem witness_ReadsReportTheirTables : ([23] : List Byte) = [byte (23 : LineNo).val] ∧
    (∀ l : LineNo, ([24] : List Byte) ≠ [byte l.val]) ∧ (∀ d : Client, ([4] : List Byte) ≠ [byte d.val]) := by decide

theorem witness_FreezeNoteAndResetRequests : ([0xFF, 0xFF, 0xFF, 0xFF] : List Byte) = be32 (0xFFFFFFFF : BitVec 32).toNat ∧
    ∀ v : BitVec 32, ([] : List Byte) ≠ be32 v.toNat := ⟨by decide, fun v => by simp [be32]⟩

theorem witness_SleepAndWake : base.sup.mode ≠ .sleep ∧ base.sup.mode = .run ∧ (setMode .sleep base).sup.mode = .sleep ∧
    (let s := setMode .sleepPending base
     s.sup.mode = .sleepPending ∧ (∀ i, s.record i = none) ∧ s.intake = [] ∧
      (∀ c, (s.link c).requests = [] ∧ (s.link c).replies = [] ∧ (s.link c).hub = [] ∧ (s.link c).tx = none) ∧
      ∀ c, (s.clientLinesOf c).resetLine = false) := by
  refine ⟨by decide, by decide, by decide, rfl, by decide +kernel, by decide +kernel, by decide +kernel, by decide +kernel⟩

theorem witness_FrozenConfigurationStands :
    (base.setSup { base.sup with frozen := true }).sup.frozen = true ∧
    after (step ((base.setSup { base.sup with frozen := true }).setPending [.rawLevelChange 0 true])) (fun t => t.sup.frozen) =
      some true := by decide +kernel

theorem laws_of_quiet {s : State} (hq : s.intake.length ≤ 16) (hd : ∀ d ∈ s.intake, d.key.source.toNat ≤ 36)
    (hw : ∀ n, s.waiting.get n = none) (hl : ∀ l, (s.line l).latch.held = none)
    (hk : ∀ c, (s.link c).requests.length + (s.link c).replies.length ≤ 2 ∧
      ((s.link c).hub.map HubFrame.kindByte).Nodup) (hp : SupervisorLaw s) : IntakeLaw s ∧ LinkLaw s ∧ SupervisorLaw s := by
  refine ⟨⟨hq, ?_, hd, fun n d e => ?_, fun l d e => ?_⟩, hk, hp⟩
  rotate_left
  · rw [hw n] at e; cases e
  · rw [hl l] at e; cases e
  rintro (⟨n, h⟩ | ⟨l, h⟩)
  · rw [hw n] at h; cases h
  · rw [hl l] at h; cases h

/-- Every law's premise is met where records, queues, groups and health hold something, and a step answers there. -/
theorem witness_laws : (IntakeLaw lawful ∧ LinkLaw lawful ∧ SupervisorLaw lawful) ∧ QueueLaw lawful ∧ PostLaw lawful ∧
    GroupLaw lawful ∧
    HealthLaw (setHealthOf 3 .detached 255 (setHealthOf 2 .restricted 254 (base.setHealth 1 ⟨255, .rejoining, 15, 10⟩))) ∧
    ∃ t, step lawful = .next t := by
  refine ⟨laws_of_quiet (by decide +kernel) (by decide +kernel) (by decide +kernel) (by decide +kernel) (by decide +kernel)
    (by unfold SupervisorLaw; decide +kernel), queueLaw_lawful, postLaw_lawful, groupLaw_lawful, ?_, _, rfl⟩
  unfold HealthLaw
  decide +kernel

theorem witness_LawsHoldAtReset (pins : PinLevels) (raw : BitVec 24) : ∃ t, exec (.powerOn pins raw) base = .next t := ⟨_, rfl⟩

end Sys2Proof.Tests
end

section
/-! PROOF. What a command can do, said once: the checks of a request's rule, the taking of a request, the passing of time, and the
step itself. A property that each part keeps is kept by every step. -/

namespace Sys2Proof.Laws

open Sys2Proof.Machine Sys2Proof.Safety

variable {P : State → Prop}

/-! ## The checks of a rule (R166) -/

theorem withPrivilege_keeps {p : Privilege} {c : Client} {s : State} {rest : Answer} (hs : P s) (hr : P rest.1) :
    P (withPrivilege p c s rest).1 := by
  unfold withPrivilege; split
  · exact hr
  · exact hs

theorem unlessFrozen_keeps {s : State} {rest : Answer} (hs : P s) (hr : P rest.1) : P (unlessFrozen s rest).1 := by
  unfold unlessFrozen; split
  · exact hs
  · exact hr

theorem whileAttached_keeps {c : Client} {s : State} {rest : Answer} (hs : P s) (hr : P rest.1) :
    P (whileAttached c s rest).1 := by
  unfold whileAttached; split
  · exact hr
  · exact hs

theorem withFields_keeps {α : Type} {fields : Option α} {s : State} {rest : α → Answer} (hs : P s)
    (hr : ∀ x, fields = some x → P (rest x).1) : P (withFields fields s rest).1 := by
  unfold withFields; split
  · exact hr _ rfl
  · exact hs

theorem configure_keeps {α : Type} {c : Client} {fields : Option α} {s : State} {rest : α → Answer} (hs : P s)
    (hr : ∀ x, fields = some x → P (rest x).1) : P (configure c fields s rest).1 :=
  withPrivilege_keeps hs (unlessFrozen_keeps hs (withFields_keeps hs fun x hx => whileAttached_keeps hs (hr x hx)))

/-! ## The rules of the request commands -/

/-- The rules by which link c carries out the requests it takes, one for each request command. -/
inductive RuleOf (c : Client) : (Request → State → Answer) → Prop where
  | ready : RuleOf c (ruleReady c)
  | ack : RuleOf c (ruleAck c)
  | exchange : RuleOf c (ruleExchange c)
  | contextSet : RuleOf c (ruleContextSet c)
  | timerSet : RuleOf c (ruleTimerSet c)
  | raise : RuleOf c (ruleRaise c)
  | post : RuleOf c (rulePost c)
  | withdraw : RuleOf c (ruleWithdraw c)
  | signal : RuleOf c (ruleSignal c)
  | heartbeat : RuleOf c (ruleHeartbeat c)
  | rejoin : RuleOf c (ruleRejoin c)
  | query : RuleOf c (ruleQuery c)
  | routeWrite : RuleOf c (ruleRouteWrite c)
  | bankSet : RuleOf c (ruleBankSet c)
  | lineSet : RuleOf c (ruleLineSet c)
  | profileSet : RuleOf c (ruleProfileSet c)
  | clientSet : RuleOf c (ruleClientSet c)
  | routeRead : RuleOf c (ruleRouteRead c)
  | lineRead : RuleOf c (ruleLineRead c)
  | profileRead : RuleOf c (ruleProfileRead c)
  | clientRead : RuleOf c (ruleClientRead c)
  | forceAttach : RuleOf c (ruleForceAttach c)
  | forceDetach : RuleOf c (ruleForceDetach c)
  | forceReset : RuleOf c (ruleForceReset c)
  | freeze : RuleOf c (ruleFreeze c)
  | sleep : RuleOf c (ruleSleep c)
  | wake : RuleOf c (ruleWake c)
  | resetHub : RuleOf c (ruleResetHub c)
  | noteSet : RuleOf c (ruleNoteSet c)
  | status : RuleOf c (ruleStatus c)

/-- The state a rule finds: the request it takes has left its place (R162). -/
def withoutRequest (c : Client) (rest : List Request) (s : State) : State :=
  s.setLink c { s.link c with requests := rest }

/-- A link takes no request, or its oldest one, which its rule carries out and whose reply is placed (R162, R163, R178). -/
theorem takeRequest_cases (c : Client) (wanted : Request → Bool) (rule : Request → State → Answer) (s : State) :
    takeRequest c wanted rule s = s ∨
    ∃ q rest, s.sup.resetPending = none ∧ (s.link c).requests = q :: rest ∧ wanted q = true ∧
      takeRequest c wanted rule s =
        placeReply c ⟨q.tag, kindByte q.kind, (rule q (withoutRequest c rest s)).2.1, (rule q (withoutRequest c rest s)).2.2⟩
          (rule q (withoutRequest c rest s)).1 := by
  unfold takeRequest
  split
  · exact .inl rfl
  · rename_i hp
    split
    · exact .inl rfl
    · rename_i q rest hq
      by_cases hw : wanted q = true
      · rw [if_pos hw]
        exact .inr ⟨q, rest, by simpa using hp, hq, hw, rfl⟩
      · rw [if_neg hw]; exact .inl rfl

/-! ## A property that each part keeps -/

/-- `P` is kept by each operation of which commands are made. -/
structure KeptByParts (P : State → Prop) : Prop where
  pending : ∀ s v, P s → P (s.setPending v)
  time : ∀ s v, P s → P (s.setTime v)
  settle : ∀ s, P s → P (settle s)
  lower : ∀ t s, P s → P (lower t s)
  expire : ∀ t s, P s → P (expire t s)
  gapFails : ∀ c s, P s → P (gapFails c s)
  receiveByte : ∀ c b s, P s → P (receiveByte c b s)
  frameSent : ∀ c s, P s → P (frameSent c s)
  takeHead : ∀ s, P s → P (takeHead s)
  changeRawLevel : ∀ l v s, P s → P (changeRawLevel l v s)
  powerOn : ∀ pins raw s, P s → P (powerOnReset pins raw s)
  assertInput : ∀ pins s, P s → P (assertResetInput pins s)
  releaseInput : ∀ s, P s → P (s.setSup { s.sup with resetInput := false })
  take : ∀ c wanted rule s, RuleOf c rule → P s → P (takeRequest c wanted rule s)

/-- A next state, if this is the outcome, meets `P`. -/
def Answers (P : State → Prop) (o : Host.Outcome State Fault Refusal) : Prop := ∀ t, o = .next t → P t

theorem Answers.next {u : State} (h : P u) : Answers P (.next u) := fun t e => by injection e with e; exact e ▸ h

namespace KeptByParts

theorem passWithin (h : KeptByParts P) (fuel n : Nat) {s : State} (hs : P s) : P (passWithin fuel n s) := by
  induction fuel generalizing n s with
  | zero => exact h.time _ _ hs
  | succ fuel ih =>
    unfold Machine.passWithin
    split
    · exact ih _ (h.settle _ (h.gapFails _ _ (h.time _ _ hs)))
    · exact h.time _ _ hs

theorem tickMoment (h : KeptByParts P) {s : State} (hs : P s) : P (tickMoment s) := by
  unfold Machine.tickMoment
  split
  · exact hs
  · exact h.time _ _ (h.passWithin _ _ hs)

theorem takeTick (h : KeptByParts P) {s : State} (hs : P s) : P (takeTick s) := by
  have hl : P (lowerTimers s) := List.foldlRecOn _ _ hs fun u hu t _ => h.lower t u hu
  refine h.time _ _ (List.foldlRecOn _ _ hl fun u hu t _ => ?_)
  unfold expireNow
  split
  · exact h.settle _ (h.expire _ _ hu)
  · exact hu

theorem nextTick (h : KeptByParts P) {s : State} (hs : P s) : P (nextTick s) := h.takeTick (h.tickMoment hs)

theorem pass (h : KeptByParts P) (fuel n : Nat) {s : State} (hs : P s) : P (Machine.pass fuel n s) := by
  induction fuel generalizing n s with
  | zero => exact hs
  | succ fuel ih =>
    unfold Machine.pass
    split
    · exact hs
    · split
      · exact ih _ (h.takeTick hs)
      · split
        · exact h.passWithin _ _ hs
        · exact ih _ (h.nextTick hs)

theorem gapTimeout (h : KeptByParts P) (c : Client) {s : State} (hs : P s) : P (gapTimeout c s) := by
  unfold Machine.gapTimeout
  split
  · dsimp only
    split
    · exact h.settle _ (h.gapFails _ _ (h.pass _ _ hs))
    · exact h.pass _ _ hs
  · exact hs

theorem idle (h : KeptByParts P) {s : State} (hs : P s) : P (idle s) := by
  unfold Machine.idle
  split
  · exact h.nextTick hs
  · exact h.passWithin _ _ hs

theorem expiryCommand (h : KeptByParts P) (t : Timer) {s : State} (hs : P s) : P (expiryCommand t s) := by
  unfold Machine.expiryCommand
  split
  · exact h.settle _ (h.expire _ _ (h.time _ _ (h.tickMoment hs)))
  · exact hs

theorem arrive (h : KeptByParts P) (c : Client) (k : RequestKind) (a : Arrival) {s : State} (hs : P s) : P (arrive c k a s) := by
  cases a with
  | sent tag payload => exact List.foldlRecOn _ _ hs fun u hu b _ => h.settle _ (h.receiveByte _ _ _ hu)
  | waiting => exact hs

theorem serve (h : KeptByParts P) {c : Client} {rule : Request → State → Answer} (hr : RuleOf c rule) (k : RequestKind)
    (a : Arrival) {s : State} (hs : P s) : P (serve c k a rule s) :=
  h.settle _ (h.take _ _ _ _ hr (h.arrive _ _ _ hs))

theorem serveForce (h : KeptByParts P) {c : Client} {rule : Request → State → Answer} (hr : RuleOf c rule) (op : Byte)
    (a : Arrival) {s : State} (hs : P s) : P (serveForce c op a rule s) :=
  h.settle _ (h.take _ _ _ _ hr (h.arrive _ _ _ hs))

/-- Every command keeps what each of its parts keeps. -/
theorem exec (h : KeptByParts P) (i : Instr) {s : State} (hs : P s) : Answers P (exec i s) := by
  cases i
  case powerOn pins raw => exact .next (h.settle _ (h.powerOn _ _ _ hs))
  case resetInputAsserted pins => exact .next (h.settle _ (h.assertInput _ _ hs))
  case resetInputRelease => exact .next (h.settle _ (h.releaseInput _ hs))
  case millisecondTick => exact .next (h.settle _ (h.nextTick hs))
  case rawLevelChange l v => exact .next (h.settle _ (h.changeRawLevel _ _ _ hs))
  case routeTake => exact .next (h.settle _ (h.takeHead _ hs))
  case receivedByte c b => exact .next (h.settle _ (h.receiveByte _ _ _ hs))
  case gapTimeout c => exact .next (h.settle _ (h.gapTimeout c hs))
  case transmissionEnd c => exact .next (h.settle _ (h.frameSent _ _ hs))
  case debounceExpiry l => exact .next (h.settle _ (h.expiryCommand _ hs))
  case repeatTimerExpiry l => exact .next (h.settle _ (h.expiryCommand _ hs))
  case contextTimerExpiry c k => exact .next (h.settle _ (h.expiryCommand _ hs))
  case holdOffExpiry c => exact .next (h.settle _ (h.expiryCommand _ hs))
  case deadlineExpiry c => refine .next (h.settle _ ?_); split; exacts [h.expiryCommand _ hs, hs]
  case delayExpiry c => refine .next (h.settle _ ?_); split; exacts [h.expiryCommand _ hs, hs]
  case clientResetPulseExpiry c => exact .next (h.settle _ (h.expiryCommand _ hs))
  case boardResetPulseExpiry => exact .next (h.settle _ (h.expiryCommand _ hs))
  case boardResetOutputExpiry => exact .next (h.settle _ (h.expiryCommand _ hs))
  case spacingTimerExpiry c => exact .next (h.settle _ (h.expiryCommand _ hs))
  case ready c a => exact .next (h.serve .ready _ _ hs)
  case ack c a => exact .next (h.serve .ack _ _ hs)
  case exchange c a => exact .next (h.serve .exchange _ _ hs)
  case contextSet c a => exact .next (h.serve .contextSet _ _ hs)
  case timerSet c a => exact .next (h.serve .timerSet _ _ hs)
  case raise c a => exact .next (h.serve .raise _ _ hs)
  case post c a => exact .next (h.serve .post _ _ hs)
  case withdraw c a => exact .next (h.serve .withdraw _ _ hs)
  case signal c a => exact .next (h.serve .signal _ _ hs)
  case heartbeat c a => exact .next (h.serve .heartbeat _ _ hs)
  case rejoin c a => exact .next (h.serve .rejoin _ _ hs)
  case query c a => exact .next (h.serve .query _ _ hs)
  case routeWrite c a => exact .next (h.serve .routeWrite _ _ hs)
  case bankSet c a => exact .next (h.serve .bankSet _ _ hs)
  case lineSet c a => exact .next (h.serve .lineSet _ _ hs)
  case profileSet c a => exact .next (h.serve .profileSet _ _ hs)
  case clientSet c a => exact .next (h.serve .clientSet _ _ hs)
  case routeRead c a => exact .next (h.serve .routeRead _ _ hs)
  case lineRead c a => exact .next (h.serve .lineRead _ _ hs)
  case profileRead c a => exact .next (h.serve .profileRead _ _ hs)
  case clientRead c a => exact .next (h.serve .clientRead _ _ hs)
  case forceAttach c a => exact .next (h.serveForce .forceAttach _ _ hs)
  case forceDetach c a => exact .next (h.serveForce .forceDetach _ _ hs)
  case forceReset c a => exact .next (h.serveForce .forceReset _ _ hs)
  case freeze c a => exact .next (h.serve .freeze _ _ hs)
  case sleep c a => exact .next (h.serve .sleep _ _ hs)
  case wake c a => exact .next (h.serve .wake _ _ hs)
  case resetHub c a => exact .next (h.serve .resetHub _ _ hs)
  case noteSet c a => exact .next (h.serve .noteSet _ _ hs)
  case status c a => exact .next (h.serve .status _ _ hs)

/-- Every step keeps what each of its parts keeps. -/
theorem step (h : KeptByParts P) {s t : State} (hs : P s) (e : step s = .next t) : P t := by
  unfold Machine.step at e
  split at e
  · exact h.exec _ (h.pending _ _ hs) _ e
  · cases e; exact h.settle _ (h.idle hs)

theorem kept (h : KeptByParts P) : Kept P := fun _ _ hs e => h.step hs e

end KeptByParts

end Sys2Proof.Laws
end

section
/-! PROOF. The law of the intake queue: what places an event, what makes a source wait, and the take keep it (R2, R6, R7, R9); so does
every operation made of these. -/

namespace Sys2Proof.Safety

open Sys2Proof.Machine

/-- The law reads the queue, the waiting expiries and the lines alone. -/
theorem IntakeLaw.same {s t : State} (h : IntakeLaw s)
    (e : t.intake = s.intake ∧ t.waiting = s.waiting ∧ t.lines = s.lines) : IntakeLaw t := by
  obtain ⟨hi, hw, hl⟩ := e
  simpa only [IntakeLaw, State.line, hi, hw, hl] using h

/-- A queue that is not full has no source waiting. -/
theorem IntakeLaw.none_waits {s : State} (h : IntakeLaw s) (hn : s.intake.length < 16) :
    (∀ n, s.waiting.get n = none) ∧ ∀ l, (s.line l).latch.held = none := by
  obtain ⟨-, hfull, -⟩ := h
  constructor
  · intro n
    by_contra hne
    have := hfull (.inl ⟨n, Option.isSome_iff_ne_none.2 hne⟩)
    omega
  · intro l
    by_contra hne
    have := hfull (.inr ⟨l, Option.isSome_iff_ne_none.2 hne⟩)
    omega

/-- Nothing enters the queue, and every event that waits was waiting before. -/
theorem IntakeLaw.fewer_wait {s t : State} (h : IntakeLaw s) (hi : t.intake = s.intake)
    (hw : ∀ n d, t.waiting.get n = some d → s.waiting.get n = some d)
    (hl : ∀ l d, (t.line l).latch.held = some d → (s.line l).latch.held = some d) : IntakeLaw t := by
  obtain ⟨hle, hfull, hq, ht, hp⟩ := h
  refine ⟨hi ▸ hle, ?_, hi ▸ hq, fun n d e => ht n d (hw n d e), fun l d e => hp l d (hl l d e)⟩
  rintro (⟨n, hn⟩ | ⟨l, hn⟩) <;> obtain ⟨d, hd⟩ := Option.isSome_iff_exists.1 hn <;> rw [hi]
  · exact hfull (.inl ⟨n, by rw [hw n d hd]; rfl⟩)
  · exact hfull (.inr ⟨l, by rw [hl l d hd]; rfl⟩)

/-- A line is written whose latch holds nothing, or what it held before. -/
theorem IntakeLaw.setLine {s : State} (h : IntakeLaw s) {l : LineNo} {x : Line}
    (hx : x.latch.held = none ∨ x.latch = (s.line l).latch) : IntakeLaw (s.setLine l x) := by
  refine h.fewer_wait rfl (fun _ _ e => e) fun m d e => ?_
  simp only [State.line, State.setLine_lines, Table.get_set] at e ⊢
  split at e
  · rename_i hm
    subst hm
    rcases hx with hx | hx
    · rw [hx] at e; cases e
    · rw [hx] at e; exact e
  · exact e

/-- An event of a source of 0 to 36 takes a free place (R2, R6). -/
theorem IntakeLaw.placeEvent {s : State} (h : IntakeLaw s) {d : Descriptor} (hn : s.intake.length < 16)
    (hd : d.key.source.toNat ≤ 36) : IntakeLaw (placeEvent s d) := by
  obtain ⟨hw, hl⟩ := h.none_waits hn
  obtain ⟨-, -, hq, ht, hp⟩ := h
  refine ⟨by simp [Machine.placeEvent]; omega, ?_, ?_, ht, hp⟩
  · rintro (⟨n, hn⟩ | ⟨l, hn⟩)
    · have hn : (s.waiting.get n).isSome := hn
      rw [hw n] at hn; cases hn
    · have hn : ((s.line l).latch.held).isSome := hn
      rw [hl l] at hn; cases hn
  · intro x hx
    rcases List.mem_append.1 hx with hx | hx
    · exact hq x hx
    · rw [List.mem_singleton.1 hx]; exact hd

/-- An expiry of a source of 0 to 36 waits while the queue is full (R2, R8). -/
theorem IntakeLaw.timer_waits {s : State} (h : IntakeLaw s) (n : Fin 8) {d : Descriptor} (hf : 16 ≤ s.intake.length)
    (hd : d.key.source.toNat ≤ 36) : IntakeLaw (s.setWaiting n (some d)) := by
  obtain ⟨hle, -, hq, ht, hp⟩ := h
  refine ⟨hle, fun _ => Nat.le_antisymm hle hf, hq, fun m x e => ?_, hp⟩
  simp only [State.setWaiting_waiting, Table.get_set] at e
  split at e
  · cases e; exact hd
  · exact ht m x e

/-- A line's event of a source of 0 to 36 waits while the queue is full (R2, R7). -/
theorem IntakeLaw.line_waits {s : State} (h : IntakeLaw s) (l : LineNo) {x : Line} (hf : 16 ≤ s.intake.length)
    (hx : ∀ d, x.latch.held = some d → d.key.source.toNat ≤ 36) : IntakeLaw (s.setLine l x) := by
  obtain ⟨hle, -, hq, ht, hp⟩ := h
  refine ⟨hle, fun _ => Nat.le_antisymm hle hf, hq, ht, fun m d e => ?_⟩
  simp only [State.line, State.setLine_lines, Table.get_set] at e
  split at e
  · exact hx d e
  · exact hp m d e

end Sys2Proof.Safety

namespace Sys2Proof.Laws

open Sys2Proof.Machine Sys2Proof.Safety

section Operations

variable {s : State}

theorem intakeFull_iff : intakeFull s = true ↔ 16 ≤ s.intake.length := decide_eq_true_iff

theorem intakeFull_false : intakeFull s = false ↔ s.intake.length < 16 :=
  decide_eq_false_iff_not.trans Nat.not_le

theorem examine_intakeLaw (h : IntakeLaw s) (c : Client) : IntakeLaw (examine c s) := h.same (by simp)

theorem entered_intakeLaw (h : IntakeLaw s) (c : Client) : IntakeLaw (entered c s) := h.same (by simp)

theorem placeHubFrame_intakeLaw (h : IntakeLaw s) (c : Client) (f : HubFrame) : IntakeLaw (placeHubFrame c f s) :=
  h.same (by simp)

/-! ## Notices, timer events and drops -/

theorem offerNotice_intakeLaw (h : IntakeLaw s) (t : NoticeType) (detail : Nat) : IntakeLaw (offerNotice t detail s) := by
  unfold offerNotice
  split
  · exact h.same (by simp)
  · rename_i hf
    exact h.placeEvent (intakeFull_false.1 (by simpa using hf)) (show (36#6).toNat ≤ 36 by decide)

theorem timerKey_source (c : Client) (k : ContextName) : (timerKey c k).source.toNat ≤ 36 := by
  have := (timerNo c k).isLt
  simp only [timerKey, BitVec.toNat_ofNat]
  omega

theorem offerTimerEvent_intakeLaw (h : IntakeLaw s) (c : Client) (k : ContextName) : IntakeLaw (offerTimerEvent c k s) := by
  unfold offerTimerEvent
  split
  · rename_i hf
    split
    · exact h
    · exact h.timer_waits _ (intakeFull_iff.1 hf) (timerKey_source c k)
  · rename_i hf
    exact h.placeEvent (intakeFull_false.1 (by simpa using hf)) (timerKey_source c k)

theorem dropFor_intakeLaw (h : IntakeLaw s) (c : Client) (k : Key) : IntakeLaw (dropFor c k s) := by
  unfold dropFor
  dsimp only
  split
  · exact h.same (by simp)
  · exact offerNotice_intakeLaw (h.same (by simp)) _ _

theorem poolLowTest_intakeLaw (h : IntakeLaw s) : IntakeLaw (poolLowTest s) := by
  unfold poolLowTest
  split
  · exact offerNotice_intakeLaw (h.same (by simp)) _ _
  · exact h

/-! ## Field lines -/

theorem placeLineEvent_intakeLaw (h : IntakeLaw s) (l : LineNo) {d : Descriptor} (hd : d.key.source.toNat ≤ 36) :
    IntakeLaw (placeLineEvent l d s) := by
  unfold placeLineEvent
  split
  · rename_i hf
    refine h.line_waits l (intakeFull_iff.1 hf) fun x hx => ?_
    cases hx; exact hd
  · rename_i hf
    exact (h.placeEvent (intakeFull_false.1 (by simpa using hf)) hd).setLine (.inl rfl)

theorem lineEvent_source (l : LineNo) (s : State) : (lineEvent l s).key.source.toNat ≤ 36 := by
  have := l.isLt
  simp only [lineEvent, BitVec.toNat_ofNat]
  omega

theorem startRaise_intakeLaw (h : IntakeLaw s) (l : LineNo) : IntakeLaw (startRaise l s) := h.setLine (.inr rfl)

theorem raiseWithin_intakeLaw (h : IntakeLaw s) (l : LineNo) : IntakeLaw (raiseWithin l s) :=
  (placeLineEvent_intakeLaw (startRaise_intakeLaw h l) l (lineEvent_source l s)).same (by simp [raiseWithin])

theorem raiseLine_intakeLaw (h : IntakeLaw s) (l : LineNo) : IntakeLaw (raiseLine l s) :=
  (placeLineEvent_intakeLaw (startRaise_intakeLaw h l) l (lineEvent_source l s)).same (by simp [raiseLine, offerLineEvent])

theorem raiseIfArmed_intakeLaw (h : IntakeLaw s) (l : LineNo) : IntakeLaw (raiseIfArmed l s) := by
  unfold raiseIfArmed
  split
  · exact raiseLine_intakeLaw h l
  · exact h
  · exact h

theorem activation_intakeLaw (h : IntakeLaw s) (l : LineNo) : IntakeLaw (activation l s) := by
  unfold activation
  split
  · exact h
  · exact raiseIfArmed_intakeLaw h l
  · exact raiseIfArmed_intakeLaw h l
  · split
    · exact h.same (by simp)
    · exact raiseIfArmed_intakeLaw h l

theorem rearmLevel_intakeLaw (h : IntakeLaw s) (l : LineNo) : IntakeLaw (rearmLevel l s) := by
  unfold rearmLevel
  dsimp only
  split
  · exact h.setLine (.inl rfl)
  · exact h

theorem activityChange_intakeLaw (h : IntakeLaw s) (l : LineNo) (before : Bool) : IntakeLaw (activityChange l before s) := by
  unfold activityChange
  split
  · exact h
  · split
    · exact rearmLevel_intakeLaw h l
    · exact activation_intakeLaw h l

theorem acceptLevel_intakeLaw (h : IntakeLaw s) (l : LineNo) : IntakeLaw (acceptLevel l s) := by
  refine activityChange_intakeLaw ?_ l _
  exact h.setLine (.inr rfl)

theorem changeRawLevel_intakeLaw (h : IntakeLaw s) (l : LineNo) (v : Bool) : IntakeLaw (changeRawLevel l v s) := by
  unfold changeRawLevel
  dsimp only
  split
  · exact h
  · split
    · exact h.setLine (.inr rfl)
    · split
      · exact h.setLine (.inr rfl)
      · split
        · refine acceptLevel_intakeLaw ?_ l
          exact h.setLine (.inr rfl)
        · exact h.setLine (.inr rfl)

theorem repeatRunsOut_intakeLaw (h : IntakeLaw s) (l : LineNo) : IntakeLaw (repeatRunsOut l s) := by
  have h0 : IntakeLaw (s.setLine l { s.line l with repeatLeft := 0 }) := h.setLine (.inr rfl)
  unfold repeatRunsOut reRaise
  dsimp only
  split
  · exact raiseLine_intakeLaw h0 l
  · exact h0

theorem reportTaken_intakeLaw (h : IntakeLaw s) (src : BitVec 6) : IntakeLaw (reportTaken src s) := by
  unfold reportTaken
  split
  · refine h.setLine ?_
    dsimp only
    split
    · exact .inl rfl
    · exact .inr rfl
  · exact h

theorem reportDisposed_intakeLaw (h : IntakeLaw s) (src : BitVec 6) : IntakeLaw (reportDisposed src s) := by
  unfold reportDisposed
  split
  · rename_i l _
    split
    · exact h
    · unfold lineDisposed
      dsimp only
      have h0 : IntakeLaw (s.setLine l { s.line l with disposed := true }) := h.setLine (.inr rfl)
      split
      · split
        · exact rearmLevel_intakeLaw h0 l
        · split
          · exact raiseWithin_intakeLaw h0 l
          · exact h0
      · exact h
  · exact h

theorem lineRetimeRepeat_intakeLaw (h : IntakeLaw s) (l : LineNo) (old : LineConfig) : IntakeLaw (lineRetimeRepeat l old s) := by
  unfold lineRetimeRepeat
  dsimp only
  split
  · exact h
  · split
    · exact repeatRunsOut_intakeLaw h l
    · exact h.setLine (.inr rfl)

theorem lineRetimeDebounce_intakeLaw (h : IntakeLaw s) (l : LineNo) (old : LineConfig) :
    IntakeLaw (lineRetimeDebounce l old s) := by
  unfold lineRetimeDebounce
  dsimp only
  split
  · exact h
  · exact h.setLine (.inr rfl)

/-- The line under its new configuration, before the steps of R29 bring its state into line with it. -/
def newlyConfigured (l : LineNo) (cfg : LineConfig) (clear : Bool) (s : State) : State :=
  (if clear then s.setMasked (lineGroup l) 0 else s).setLine l { s.line l with config := cfg }

/-- Step 3 of R29: both running timers of the line under its new configuration. -/
def retimeLine (l : LineNo) (old : LineConfig) (s : State) : State := lineRetimeRepeat l old (lineRetimeDebounce l old s)

theorem configureLine_of_same_mode {l : LineNo} {cfg : LineConfig} (clear : Bool) (hm : cfg.mode = (s.line l).config.mode) :
    configureLine l cfg clear s =
      activityChange l (s.line l).active (retimeLine l (s.line l).config (newlyConfigured l cfg clear s)) := by
  have hd : decide (cfg.mode = (s.line l).config.mode) = true := decide_eq_true hm
  unfold configureLine
  dsimp only
  rw [hd]
  rfl

theorem configureLine_of_new_mode {l : LineNo} {cfg : LineConfig} (clear : Bool) {v : State}
    (hm : cfg.mode ≠ (s.line l).config.mode)
    (hv : v = retimeLine l (s.line l).config (lineModeChange l (newlyConfigured l cfg clear s))) :
    configureLine l cfg clear s = if cfg.mode = .level ∧ (v.line l).active = true then raiseLine l v else v := by
  have hd : decide (cfg.mode = (s.line l).config.mode) = false := decide_eq_false hm
  subst hv
  unfold configureLine
  dsimp only
  rw [hd]
  rfl

theorem newlyConfigured_intakeLaw (h : IntakeLaw s) (l : LineNo) (cfg : LineConfig) (clear : Bool) :
    IntakeLaw (newlyConfigured l cfg clear s) := by
  unfold newlyConfigured
  split
  · exact (h.same (t := s.setMasked (lineGroup l) 0) (by simp)).setLine (.inr rfl)
  · exact h.setLine (.inr rfl)

theorem retimeLine_intakeLaw (h : IntakeLaw s) (l : LineNo) (old : LineConfig) : IntakeLaw (retimeLine l old s) :=
  lineRetimeRepeat_intakeLaw (lineRetimeDebounce_intakeLaw h l old) l old

theorem configureLine_intakeLaw (h : IntakeLaw s) (l : LineNo) (cfg : LineConfig) (clear : Bool) :
    IntakeLaw (configureLine l cfg clear s) := by
  have h0 := newlyConfigured_intakeLaw h l cfg clear
  by_cases hm : cfg.mode = (s.line l).config.mode
  · rw [configureLine_of_same_mode clear hm]
    exact activityChange_intakeLaw (retimeLine_intakeLaw h0 l _) l _
  · have hv : IntakeLaw (retimeLine l (s.line l).config (lineModeChange l (newlyConfigured l cfg clear s))) :=
      retimeLine_intakeLaw (h0.setLine (.inl rfl)) l _
    rw [configureLine_of_new_mode clear hm rfl]
    split
    · exact raiseLine_intakeLaw hv l
    · exact hv

/-! ## Records -/

theorem endGroup_intakeLaw (h : IntakeLaw s) (g : GroupNo) (x : FirstGroup) (k : Key) : IntakeLaw (endGroup g x k s) := by
  have hn : IntakeLaw (if x.done then s else if k.isNotice then loseNotice s else offerNotice .unclaimed x.entry.val s) := by
    split
    · exact h
    · split
      · exact h.same (by simp)
      · exact offerNotice_intakeLaw h _ _
  exact hn.same (by simp [endGroup])

theorem groupLosesCopy_intakeLaw (h : IntakeLaw s) (g : GroupNo) (k : Key) : IntakeLaw (groupLosesCopy g k s) := by
  unfold groupLosesCopy
  split
  · split
    · exact endGroup_intakeLaw h g _ k
    · exact h.same (by simp)
  · exact h

theorem reportCopy_intakeLaw (h : IntakeLaw s) (r : Record) : IntakeLaw (reportCopy r s) := by
  unfold reportCopy
  split
  · exact groupLosesCopy_intakeLaw h _ _
  · exact h

theorem freeUntested_intakeLaw (h : IntakeLaw s) (i : RecIndex) (r : Record) (cause : FreeCause) :
    IntakeLaw (freeUntested i r cause s) := by
  have hc : IntakeLaw (reportCopy r (release i r s)) := reportCopy_intakeLaw (h.same (by simp)) r
  have hp : IntakeLaw (reportPost r (s.handleAt i) cause (reportCopy r (release i r s))) := hc.same (by simp)
  exact (reportDisposed_intakeLaw hp r.key.source).same (by simp [freeUntested])

theorem freeWithin_intakeLaw (h : IntakeLaw s) (i : RecIndex) (r : Record) (cause : FreeCause) :
    IntakeLaw (freeWithin i r cause s) := (freeUntested_intakeLaw h i r cause).same (by simp [freeWithin])

theorem freeRecord_intakeLaw (h : IntakeLaw s) (i : RecIndex) (r : Record) (cause : FreeCause) :
    IntakeLaw (freeRecord i r cause s) := (freeWithin_intakeLaw h i r cause).same (by simp [freeRecord])

theorem makeAt_intakeLaw (h : IntakeLaw s) (i : RecIndex) (q : StoreRequest) : IntakeLaw (makeAt i q s) :=
  poolLowTest_intakeLaw (h.same (by simp))

theorem displace_intakeLaw (h : IntakeLaw s) (i : RecIndex) (r : Record) (q : StoreRequest) : IntakeLaw (displace i r q s) :=
  makeAt_intakeLaw (freeUntested_intakeLaw (dropFor_intakeLaw h _ _) i r .drop) i q

theorem makeOrDrop_intakeLaw (h : IntakeLaw s) (q : StoreRequest) : IntakeLaw (makeOrDrop q s) := by
  unfold makeOrDrop
  split
  · exact entered_intakeLaw (makeAt_intakeLaw h _ q) _
  · split
    · exact entered_intakeLaw (displace_intakeLaw h _ _ q) _
    · exact dropFor_intakeLaw h _ _

theorem routingRequest_intakeLaw (h : IntakeLaw s) (q : StoreRequest) : IntakeLaw (routingRequest q s) := by
  unfold routingRequest
  split
  · exact h.same (by simp)
  · exact makeOrDrop_intakeLaw h q

theorem placeAtFront_intakeLaw (h : IntakeLaw s) (i : RecIndex) (r : Record) : IntakeLaw (placeAtFront i r s) := by
  unfold placeAtFront mergeFront
  dsimp only
  split
  · split
    · exact freeRecord_intakeLaw (h.same (by simp)) _ _ _
    · exact h.same (by simp)
  · exact h.same (by simp)

theorem returnRecord_intakeLaw (h : IntakeLaw s) (i : RecIndex) (r : Record) : IntakeLaw (returnRecord i r s) := by
  unfold returnRecord
  split
  · exact h
  · exact placeAtFront_intakeLaw (h.same (by simp)) i _

theorem transfer_intakeLaw (h : IntakeLaw s) (i : RecIndex) (r : Record) (f : Client) : IntakeLaw (transfer i r f s) := by
  unfold transfer
  split
  · exact freeWithin_intakeLaw (h.same (by simp)) i r .other
  · dsimp only
    split <;> exact h.same (by simp)

theorem resume_intakeLaw (h : IntakeLaw s) (c : Client) : IntakeLaw (resume c s) := by
  unfold resume
  split
  · rename_i i r _
    have hf : IntakeLaw (returnFlags c r s) := h.same (by simp)
    exact (placeAtFront_intakeLaw hf i { r with state := .queued, resumed := true, flags := 0 }).same (by simp)
  · exact h

theorem exchangeToOperate_intakeLaw (h : IntakeLaw s) (c : Client) : IntakeLaw (exchangeToOperate c s) := by
  have h0 : IntakeLaw (startHoldOff c (enterOperate c s)) := h.same (by simp)
  exact (resume_intakeLaw h0 c).same (by simp [exchangeToOperate])

/-! ## Health and detach -/

theorem applyScore_intakeLaw (h : IntakeLaw s) (c : Client) (n : Nat) : IntakeLaw (applyScore c n s) := by
  have h0 : ∀ x, IntakeLaw (s.setHealth c x) := fun x => h.same (by simp)
  unfold applyScore
  dsimp only
  split
  · exact h0 _
  · split
    · exact examine_intakeLaw (offerNotice_intakeLaw (h0 _) _ _) c
    · exact offerNotice_intakeLaw (h0 _) _ _

theorem lowerScore_intakeLaw (h : IntakeLaw s) (c : Client) : IntakeLaw (lowerScore c s) := by
  unfold lowerScore
  split
  · exact applyScore_intakeLaw h c _
  · exact h

theorem raiseScore_intakeLaw (h : IntakeLaw s) (c : Client) (k : Nat) : IntakeLaw (raiseScore c k s).1 := by
  unfold raiseScore
  split
  · split
    · exact applyScore_intakeLaw h c _
    · exact offerNotice_intakeLaw (h.same (by simp)) _ _
  · exact h

theorem dropRecord_intakeLaw (h : IntakeLaw s) (c : Client) (i : RecIndex) (r : Record) : IntakeLaw (dropRecord c i r s) :=
  freeWithin_intakeLaw (dropFor_intakeLaw h c r.key) i r .drop

theorem disposeAt_intakeLaw (c : Client) {p : State × List Client} (h : IntakeLaw p.1) (i : RecIndex) :
    IntakeLaw (disposeAt c p i).1 := by
  unfold disposeAt
  split
  · unfold disposeRecord
    split
    · exact freeWithin_intakeLaw h _ _ _
    · split
      · exact dropRecord_intakeLaw h _ _ _
      · split
        · exact dropRecord_intakeLaw h _ _ _
        · split
          · exact transfer_intakeLaw h _ _ _
          · split
            · exact freeWithin_intakeLaw h _ _ _
            · exact transfer_intakeLaw h _ _ _
  · exact h

theorem finishDetach_intakeLaw (h : IntakeLaw s) (c : Client) : IntakeLaw (finishDetach c s) := by
  have hd : IntakeLaw (disposeAll c s).1 :=
    List.foldlRecOn (motive := fun p : State × List Client => IntakeLaw p.1) _ _
      (show IntakeLaw (setAttention c false s) from h.same (by simp)) fun p hp i _ => disposeAt_intakeLaw c hp i
  exact hd.same (by simp [finishDetach])

theorem chargeScore_intakeLaw (h : IntakeLaw s) (c : Client) (k : Nat) : IntakeLaw (chargeScore c k s) := by
  unfold chargeScore
  dsimp only
  split
  · exact finishDetach_intakeLaw (raiseScore_intakeLaw h c k) c
  · exact raiseScore_intakeLaw h c k

theorem detach_intakeLaw (h : IntakeLaw s) (c : Client) : IntakeLaw (detach c s) :=
  finishDetach_intakeLaw (offerNotice_intakeLaw (h.same (by simp)) _ _) c

theorem completeRejoin_intakeLaw (h : IntakeLaw s) (c : Client) : IntakeLaw (completeRejoin c s) := by
  have h0 : IntakeLaw (s.setHealth c ⟨0, .healthy, 0, 0⟩) := h.same (by simp)
  exact (offerNotice_intakeLaw h0 .health (clientDetail c Health.healthy.code)).same (by simp [completeRejoin])

/-! ## Resets -/

theorem contextsToDefaults_intakeLaw (h : IntakeLaw s) (c : Client) : IntakeLaw (contextsToDefaults c s) := by
  have h0 : ∀ x, IntakeLaw (((s.setContexts c x).setWaiting (timerNo c .operate) none).setWaiting (timerNo c .service) none) :=
    fun x => h.fewer_wait rfl (fun n d e => by
      simp only [State.setWaiting_waiting, State.setContexts_waiting, Table.get_set] at e
      split at e
      · cases e
      · split at e
        · cases e
        · exact e) fun _ _ e => e
  unfold contextsToDefaults
  dsimp only
  split
  · exact placeHubFrame_intakeLaw (h0 _) _ _
  · exact h0 _

theorem returnHeld_intakeLaw (h : IntakeLaw s) (c : Client) (st : RecState) : IntakeLaw (returnHeld c st s) := by
  unfold returnHeld
  split
  · exact returnRecord_intakeLaw h _ _
  · exact h

theorem clearSignals_intakeLaw (h : IntakeLaw s) (c : Client) : IntakeLaw (clearSignals c s) := by
  refine List.foldlRecOn _ _ (h.same (t := setPendingFlags c 0 s) (by simp)) fun u hu i _ => ?_
  unfold freeSignal
  split
  · exact freeRecord_intakeLaw hu _ _ _
  · exact hu

theorem settleOwnSlots_intakeLaw (h : IntakeLaw s) (c : Client) : IntakeLaw (settleOwnSlots c s) := by
  refine List.foldlRecOn _ _ h fun u hu n _ => ?_
  unfold settleOwnSlot
  split
  · exact hu
  · exact hu
  · split
    · exact freeRecord_intakeLaw hu _ _ _
    · exact hu.same (by simp)

theorem clientResetSteps_intakeLaw (h : IntakeLaw s) (c : Client) (cause : ResetCause) :
    IntakeLaw (clientResetSteps c cause s) := by
  have h4 : IntakeLaw (contextsToDefaults c (clearReady c (flushLink c (startPulse c s)))) :=
    contextsToDefaults_intakeLaw (h.same (by simp)) c
  have h5 := returnHeld_intakeLaw (returnHeld_intakeLaw h4 c .presented) c .suspended
  have h6 := settleOwnSlots_intakeLaw (clearSignals_intakeLaw h5 c) c
  exact offerNotice_intakeLaw (h6.same (t := settleLines c cause _) (by simp)) _ _

/-- Power-on and a board reset leave the intake queue empty, and no source waiting. -/
theorem hubReset_intakeLaw (pins : PinLevels) (raw : LineNo → Bool) (board : BoardLines) (cause : CauseRecord)
    (note : BitVec 32) (resetInput : Bool) (pending : List Instr) :
    IntakeLaw (hubReset pins raw board cause note resetInput pending) := by
  have hl : ∀ l, ((hubReset pins raw board cause note resetInput pending).line l).latch = .armed := fun l => by
    simp [hubReset, State.line, lineAtReset]
  have hw : ∀ n, (hubReset pins raw board cause note resetInput pending).waiting.get n = none := fun n => by
    simp [hubReset, State.reset]
  refine ⟨Nat.zero_le _, ?_, fun d hd => ?_, fun n d e => ?_, fun l d e => ?_⟩
  · rintro (⟨n, hn⟩ | ⟨l, hn⟩)
    · rw [hw] at hn; cases hn
    · rw [hl] at hn; cases hn
  · cases hd
  · rw [hw] at e; cases e
  · rw [hl] at e; cases e

theorem clientReset_intakeLaw (h : IntakeLaw s) (c : Client) (cause : ResetCause) : IntakeLaw (clientReset c cause s) := by
  unfold clientReset
  dsimp only
  split
  · exact hubReset_intakeLaw ..
  · exact clientResetSteps_intakeLaw h c cause

/-! ## Expiries -/

theorem contextTimerExpires_intakeLaw (h : IntakeLaw s) (c : Client) (k : ContextName) :
    IntakeLaw (contextTimerExpires c k s) := (offerTimerEvent_intakeLaw h c k).same (by simp [contextTimerExpires])

theorem takeAction_intakeLaw (h : IntakeLaw s) (c : Client) (i : RecIndex) (r : Record) (a : Action) :
    IntakeLaw (takeAction c i r a s) := by
  unfold takeAction
  split
  · exact h.same (by simp)
  · exact h.same (by simp)
  · exact clientReset_intakeLaw h _ _
  · exact h.same (by simp)
  · exact hubReset_intakeLaw ..

theorem deadlineExpires_intakeLaw (h : IntakeLaw s) (c : Client) (i : RecIndex) (r : Record) :
    IntakeLaw (deadlineExpires c i r s) := by
  have h0 : ∀ x, IntakeLaw (s.setRecord i x) := fun x => h.same (by simp)
  have hn : ∀ x d, IntakeLaw (offerNotice .escalated d (raiseScore c 8 (s.setRecord i x)).1) := fun x d =>
    offerNotice_intakeLaw (raiseScore_intakeLaw (h0 x) c 8) _ _
  unfold deadlineExpires
  dsimp only
  split
  · split
    · exact hubReset_intakeLaw ..
    · exact finishDetach_intakeLaw (hn _ _) c
  · exact takeAction_intakeLaw (hn _ _) _ _ _ _

theorem stageExpires_intakeLaw (h : IntakeLaw s) (c : Client) : IntakeLaw (stageExpires c s) := by
  unfold stageExpires
  split
  · split
    · exact deadlineExpires_intakeLaw h _ _ _
    · exact clientReset_intakeLaw h _ _
    all_goals exact h
  · exact h

theorem expire_intakeLaw (h : IntakeLaw s) (t : Timer) : IntakeLaw (expire t s) := by
  cases t with
  | debounce l => exact acceptLevel_intakeLaw h l
  | repeatInterval l => exact repeatRunsOut_intakeLaw h l
  | context c k => exact contextTimerExpires_intakeLaw h c k
  | stage c => exact stageExpires_intakeLaw h c
  | holdOff c => exact h.same (by simp [expire])
  | pulse c => exact h.same (by simp [expire])
  | boardPulse => exact h.same (by simp [expire])
  | boardOutput => exact h.same (by simp [expire])
  | spacing c => exact h.same (by simp [expire])

theorem lower_intakeLaw (h : IntakeLaw s) (t : Timer) : IntakeLaw (lower t s) := by
  cases t with
  | debounce l => exact h.setLine (.inr rfl)
  | repeatInterval l => exact h.setLine (.inr rfl)
  | context c k => exact h.same (by simp [lower])
  | stage c => exact h.same (by simp [lower])
  | holdOff c => exact h.same (by simp [lower])
  | pulse c => exact h.same (by simp [lower])
  | boardPulse => exact h.same (by simp [lower])
  | boardOutput => exact h.same (by simp [lower])
  | spacing c => exact h.same (by simp [lower])

/-! ## Links -/

theorem frameError_intakeLaw (h : IntakeLaw s) (c : Client) : IntakeLaw (frameError c s) := by
  unfold frameError
  dsimp only
  split
  · exact h.same (by simp)
  · exact chargeScore_intakeLaw (h.same (by simp)) c 2

theorem frameFails_intakeLaw (h : IntakeLaw s) (c : Client) : IntakeLaw (frameFails c s) :=
  frameError_intakeLaw (h.same (by simp)) c

theorem gapFails_intakeLaw (h : IntakeLaw s) (c : Client) : IntakeLaw (gapFails c s) :=
  frameFails_intakeLaw (h.same (by simp)) c

theorem frameComplete_intakeLaw (h : IntakeLaw s) (c : Client) (kind tag : Byte) (payload : List Byte) :
    IntakeLaw (frameComplete c kind tag payload s) := by
  unfold frameComplete
  split
  · exact h
  · split
    · exact offerNotice_intakeLaw (chargeScore_intakeLaw (h.same (by simp)) c 2) _ _
    · split
      · exact h.same (by simp)
      · exact frameError_intakeLaw (h.same (by simp)) c

theorem checkFrame_intakeLaw (h : IntakeLaw s) (c : Client) (len : Byte) (got : List Byte) (hi lo : Byte) :
    IntakeLaw (checkFrame c len got hi lo s) := by
  unfold checkFrame
  split
  · split
    · exact frameComplete_intakeLaw (h.same (by simp)) _ _ _ _
    · exact frameFails_intakeLaw h c
  · exact frameFails_intakeLaw h c

theorem advance_intakeLaw (h : IntakeLaw s) (c : Client) (b : Byte) : IntakeLaw (advance c b s) := by
  unfold advance
  split
  · split
    · exact h.same (by simp)
    · exact h
  · split
    · exact h.same (by simp)
    · exact frameFails_intakeLaw h c
  · split <;> exact h.same (by simp)
  · exact h.same (by simp)
  · exact checkFrame_intakeLaw h _ _ _ _ _

theorem receiveByte_intakeLaw (h : IntakeLaw s) (c : Client) (b : Byte) : IntakeLaw (receiveByte c b s) := by
  have hw : IntakeLaw (wakeHub s) := h.same (by simp)
  have hg : IntakeLaw (if gapPassed (wakeHub s) c then gapFails c (wakeHub s) else wakeHub s) := by
    split
    · exact gapFails_intakeLaw hw c
    · exact hw
  unfold receiveByte
  split
  · exact h
  · exact advance_intakeLaw (hg.same (by simp)) c b

theorem frameSent_intakeLaw (h : IntakeLaw s) (c : Client) : IntakeLaw (frameSent c s) := by
  unfold frameSent
  split
  · exact h
  · dsimp only
    split
    · split
      · exact hubReset_intakeLaw ..
      · exact h.same (by simp)
    all_goals exact h.same (by simp)

/-! ## The take and the routing -/

theorem firstWaitingTimer_some {n : Fin 8} {d : Descriptor} (h : firstWaitingTimer s = some (n, d)) :
    s.waiting.get n = some d := by
  obtain ⟨m, -, hm⟩ := List.exists_of_findSome?_eq_some h
  simp only [Option.map_eq_some_iff, Prod.mk.injEq] at hm
  obtain ⟨x, hx, rfl, rfl⟩ := hm
  exact hx

theorem firstWaitingTimer_none (h : firstWaitingTimer s = none) (n : Fin 8) : s.waiting.get n = none := by
  simpa using List.findSome?_eq_none_iff.1 h n (List.mem_finRange n)

theorem firstWaitingLine_some {l : LineNo} {d : Descriptor} (h : firstWaitingLine s = some (l, d)) :
    (s.line l).latch.held = some d := by
  obtain ⟨m, -, hm⟩ := List.exists_of_findSome?_eq_some h
  simp only [Option.map_eq_some_iff, Prod.mk.injEq] at hm
  obtain ⟨x, hx, rfl, rfl⟩ := hm
  exact hx

theorem firstWaitingLine_none (h : firstWaitingLine s = none) (l : LineNo) : (s.line l).latch.held = none := by
  simpa using List.findSome?_eq_none_iff.1 h l (List.mem_finRange l)

/-- The head has just left the queue, which met the law with it. -/
def PlaceFreed (s : State) : Prop := ∃ d, IntakeLaw (s.setIntake (d :: s.intake))

theorem placeFreed_of_take (h : IntakeLaw s) {d : Descriptor} {rest : List Descriptor} (hi : s.intake = d :: rest) :
    PlaceFreed (s.setIntake rest) := by
  refine ⟨d, ?_⟩
  show IntakeLaw (s.setIntake (d :: rest))
  rw [← hi]
  exact h

/-- A place given to one of the sources that wait, whose event no longer waits, leaves the queue full (R9). -/
theorem PlaceFreed.given (h : PlaceFreed s) {t : State} {d : Descriptor} (hi : t.intake = s.intake ++ [d])
    (hd : (∃ n, s.waiting.get n = some d) ∨ ∃ l, (s.line l).latch.held = some d)
    (hw : ∀ n x, t.waiting.get n = some x → s.waiting.get n = some x)
    (hl : ∀ l x, (t.line l).latch.held = some x → (s.line l).latch.held = some x) : IntakeLaw t := by
  obtain ⟨head, -, hfull, hq, ht, hp⟩ := h
  have hfull : (head :: s.intake).length = 16 := hfull (by
    rcases hd with ⟨n, hn⟩ | ⟨l, hn⟩
    · exact .inl ⟨n, Option.isSome_iff_exists.2 ⟨d, hn⟩⟩
    · exact .inr ⟨l, Option.isSome_iff_exists.2 ⟨d, hn⟩⟩)
  have hlen : t.intake.length = 16 := by
    rw [hi, List.length_append]
    exact hfull
  have hsrc : d.key.source.toNat ≤ 36 := by
    rcases hd with ⟨n, hn⟩ | ⟨l, hn⟩
    · exact ht n d hn
    · exact hp l d hn
  refine ⟨hlen.le, fun _ => hlen, fun x hx => ?_, fun n x e => ht n x (hw n x e), fun l x e => hp l x (hl l x e)⟩
  rw [hi] at hx
  rcases List.mem_append.1 hx with hx | hx
  · exact hq x (List.mem_cons_of_mem head hx)
  · rw [List.mem_singleton.1 hx]; exact hsrc

/-- The place that a take frees is given away, so the law holds again (R9). -/
theorem givePlace_intakeLaw (h : PlaceFreed s) : IntakeLaw (givePlace s) := by
  unfold givePlace
  split
  · rename_i n d e
    refine h.given rfl (.inl ⟨n, firstWaitingTimer_some e⟩) (fun m x hx => ?_) fun _ _ hx => hx
    simp only [placeEvent_keeps, State.setWaiting_waiting, Table.get_set] at hx
    split at hx
    · cases hx
    · exact hx
  · rename_i e
    have hw := firstWaitingTimer_none e
    split
    · rename_i l d e
      refine h.given rfl (.inr ⟨l, firstWaitingLine_some e⟩) (fun _ _ hx => hx) fun m x hx => ?_
      simp only [State.line, placeEvent_keeps, State.setLine_lines, Table.get_set] at hx
      split at hx
      · cases hx
      · exact hx
    · rename_i e
      have hl := firstWaitingLine_none e
      obtain ⟨head, hle, -, hq, ht, hp⟩ := h
      refine ⟨Nat.le_of_succ_le hle, ?_, fun x hx => hq x (List.mem_cons_of_mem head hx), ht, hp⟩
      rintro (⟨n, hn⟩ | ⟨l, hn⟩)
      · rw [hw] at hn; cases hn
      · rw [hl] at hn; cases hn

theorem decideTargets_intakeLaw (h : IntakeLaw s) (x : RouteEntry) (k : Key) : IntakeLaw (decideTargets x k s).1 := by
  refine List.foldlRecOn (motive := fun p : State × List Client => IntakeLaw p.1) clients (decideTarget x k) h
    fun p hp t _ => ?_
  unfold decideTarget
  split
  · split
    · exact hp
    · exact dropFor_intakeLaw hp _ _
  · exact hp

theorem sendRequests_intakeLaw (h : IntakeLaw s) (d : Descriptor) (x : RouteEntry) (hit : Hit) (m : RecMode)
    (rs : List Client) : IntakeLaw (sendRequests d x hit m rs s) :=
  List.foldlRecOn _ _ h fun _ hu _ _ => routingRequest_intakeLaw hu _

theorem closeGroup_intakeLaw (h : IntakeLaw s) (g : GroupNo) (k : Key) : IntakeLaw (closeGroup g k s) := by
  unfold closeGroup
  split
  · split
    · exact endGroup_intakeLaw h _ _ _
    · exact h
  · exact h

theorem routeFirst_intakeLaw (h : IntakeLaw s) (d : Descriptor) (x : RouteEntry) (e : EntryNo) (rs : List Client) :
    IntakeLaw (routeFirst d x e rs s) := by
  unfold routeFirst
  split
  · split
    · exact closeGroup_intakeLaw (sendRequests_intakeLaw (h.same (by simp)) _ _ _ _ _) _ _
    · exact sendRequests_intakeLaw h _ _ _ _ _
  · exact sendRequests_intakeLaw h _ _ _ _ _

theorem routeByEntry_intakeLaw (h : IntakeLaw s) (d : Descriptor) (e : EntryNo) : IntakeLaw (routeByEntry d e s) := by
  unfold routeByEntry
  dsimp only
  split
  · exact sendRequests_intakeLaw (decideTargets_intakeLaw h _ _) _ _ _ _ _
  · exact routeFirst_intakeLaw (decideTargets_intakeLaw h _ _) _ _ _ _

theorem routeUnrouted_intakeLaw (h : IntakeLaw s) (d : Descriptor) : IntakeLaw (routeUnrouted d s) := by
  unfold routeUnrouted
  split
  · split <;> exact h.same (by simp)
  · exact sendRequests_intakeLaw (decideTargets_intakeLaw h _ _) _ _ _ _ _

theorem takeHead_intakeLaw (h : IntakeLaw s) : IntakeLaw (takeHead s) := by
  unfold takeHead
  split
  · rename_i d rest hi
    have ht : IntakeLaw (reportTaken d.key.source (givePlace (s.setIntake rest))) :=
      reportTaken_intakeLaw (givePlace_intakeLaw (placeFreed_of_take h hi)) _
    have hr : IntakeLaw (routeEvent d (reportTaken d.key.source (givePlace (s.setIntake rest)))) := by
      unfold routeEvent
      dsimp only
      split
      · exact reportDisposed_intakeLaw (routeByEntry_intakeLaw ht _ _) _
      · exact reportDisposed_intakeLaw (routeUnrouted_intakeLaw ht _) _
    exact hr.same (by simp)
  · exact h

/-! ## Requests -/

theorem withdrawCopy_intakeLaw (h : IntakeLaw s) (d : Client) (j : RecIndex) (r : Record) : IntakeLaw (withdrawCopy d j r s) := by
  unfold withdrawCopy
  dsimp only
  split
  · exact freeRecord_intakeLaw h _ _ _
  · have h0 : IntakeLaw (freeRecord j r .other (setAttention d false s)) := freeRecord_intakeLaw (h.same (by simp)) _ _ _
    split <;> exact h0.same (by simp)
  · exact (freeRecord_intakeLaw h j r .other).same (by simp)

theorem decideGroup_intakeLaw (h : IntakeLaw s) (i : RecIndex) (r : Record) (d : Disposition) :
    IntakeLaw (decideGroup i r d s) := by
  have hw : ∀ g x, IntakeLaw (winGroup g x i s) := fun g x => by
    refine List.foldlRecOn _ _ (h.same (t := s.setGroup g (some { x with done := true })) (by simp)) fun u hu c _ => ?_
    unfold withdrawFrom
    split
    · exact withdrawCopy_intakeLaw hu _ _ _
    · exact hu
  unfold decideGroup
  split
  · split
    · split
      · exact h
      · exact hw _ _
    · exact h
  · exact h
  · exact h

theorem ackPresented_intakeLaw (h : IntakeLaw s) (c : Client) (i : RecIndex) (r : Record) (d : Disposition) :
    IntakeLaw (ackPresented c i r d s) := by
  have h0 : IntakeLaw (setAttention c false s) := h.same (by simp)
  have h1 : IntakeLaw (ackEndsHoldOff c (openGate c (freeRecord i r d.cause (decideGroup i r d (setAttention c false s))))) :=
    (freeRecord_intakeLaw (decideGroup_intakeLaw h0 i r d) i r d.cause).same (by simp)
  unfold ackPresented
  dsimp only
  split
  · exact h1
  · exact lowerScore_intakeLaw h1 c

theorem ackNamed_intakeLaw (h : IntakeLaw s) (c : Client) (hd : Handle) (d : Disposition) : IntakeLaw (ackNamed c hd d s).1 := by
  unfold ackNamed
  split
  · exact ackPresented_intakeLaw h _ _ _ _
  · split
    · rename_i r _
      exact (freeRecord_intakeLaw (decideGroup_intakeLaw h hd.index r d) hd.index r d.cause).same (by simp [ackSuspended])
    · split
      · exact h
      · exact chargeScore_intakeLaw h _ _

theorem exchange_intakeLaw (h : IntakeLaw s) (c : Client) (k : ContextName) : IntakeLaw (exchange c k s).1 := by
  unfold exchange
  split
  · exact h
  · split
    · exact h.same (by simp)
    · split
      · exact h
      · exact exchangeToOperate_intakeLaw h c

/-- A RAISE puts an event of source 24 to 27 into a free place (R15). -/
theorem raiseEvent_intakeLaw (h : IntakeLaw s) (c : Client) (cls : BitVec 4) (code : BitVec 12) (created : Micros) :
    IntakeLaw (raiseEvent c cls code created s).1 := by
  unfold raiseEvent
  split
  · exact h
  · rename_i hf
    refine h.placeEvent (intakeFull_false.1 (by simpa using hf)) ?_
    have := c.isLt
    simp only [raiseKey, BitVec.toNat_ofNat]
    omega

theorem post_intakeLaw (h : IntakeLaw s) (c : Client) (f : PostFields) (created : Micros) : IntakeLaw (post c f created s).1 := by
  unfold post
  split
  · exact h
  · split
    · exact h
    · split
      · exact h
      · rename_i n _ _ i _
        exact (makeAt_intakeLaw h i (postRequest c n f created s)).same (by simp)

theorem withdraw_intakeLaw (h : IntakeLaw s) (c : Client) (n : SlotNo) : IntakeLaw (withdraw c n s).1 := by
  unfold withdraw
  split
  · exact h
  · exact h
  · split
    · exact freeRecord_intakeLaw h _ _ _
    · exact h

theorem signal_intakeLaw (h : IntakeLaw s) (f : SignalFields) (created : Micros) : IntakeLaw (signal f created s).1 := by
  unfold signal
  split
  · exact h
  · split
    · exact h.same (by simp)
    · split
      · rename_i i _
        exact (makeAt_intakeLaw h i (signalRequest f created s)).same (by simp)
      · exact h

theorem heartbeat_intakeLaw (h : IntakeLaw s) (c : Client) : IntakeLaw (heartbeat c s) := by
  unfold heartbeat
  dsimp only
  split
  · split
    · exact completeRejoin_intakeLaw h c
    · exact h.same (by simp)
  · exact h

theorem rule_intakeLaw {c : Client} {rule : Request → State → Answer} (hr : RuleOf c rule) (q : Request) (h : IntakeLaw s) :
    IntakeLaw (rule q s).1 := by
  cases hr with
  | ready => exact withFields_keeps h fun _ _ => h.same (by simp)
  | ack => exact withFields_keeps h fun _ _ => whileAttached_keeps h (ackNamed_intakeLaw h _ _ _)
  | exchange => exact withFields_keeps h fun _ _ => whileAttached_keeps h (exchange_intakeLaw h _ _)
  | contextSet => exact withFields_keeps h fun _ _ => whileAttached_keeps h (h.same (by simp [accept]))
  | timerSet => exact withFields_keeps h fun _ _ => whileAttached_keeps h (h.same (by simp))
  | raise =>
    exact withPrivilege_keeps h (withFields_keeps h fun _ _ => whileAttached_keeps h (raiseEvent_intakeLaw h _ _ _ _))
  | post => exact withPrivilege_keeps h (withFields_keeps h fun _ _ => whileAttached_keeps h (post_intakeLaw h _ _ _))
  | withdraw => exact withPrivilege_keeps h (withFields_keeps h fun _ _ => whileAttached_keeps h (withdraw_intakeLaw h _ _))
  | signal => exact withPrivilege_keeps h (withFields_keeps h fun _ _ => whileAttached_keeps h (signal_intakeLaw h _ _))
  | heartbeat => exact withFields_keeps h fun _ _ => heartbeat_intakeLaw h c
  | rejoin =>
    refine withFields_keeps h fun _ _ => ?_
    unfold rejoin
    dsimp only
    split
    · exact h.same (by simp [accept])
    · exact h
  | query => exact withFields_keeps h fun _ _ => h
  | routeWrite =>
    refine configure_keeps h fun _ _ => ?_
    unfold writeEntry
    split
    · exact h
    · exact h.same (by simp [accept])
  | bankSet => exact configure_keeps h fun _ _ => h.same (by simp)
  | lineSet => exact configure_keeps h fun _ _ => configureLine_intakeLaw h _ _ _
  | profileSet => exact configure_keeps h fun _ _ => h.same (by simp [accept])
  | clientSet => exact configure_keeps h fun _ _ => h.same (by simp [accept, setClient, setPrivileges])
  | routeRead => exact withFields_keeps h fun _ _ => whileAttached_keeps h h
  | lineRead => exact withFields_keeps h fun _ _ => whileAttached_keeps h h
  | profileRead => exact withFields_keeps h fun _ _ => whileAttached_keeps h h
  | clientRead => exact withFields_keeps h fun _ _ => whileAttached_keeps h h
  | forceAttach =>
    refine withPrivilege_keeps h (withFields_keeps h fun d _ => whileAttached_keeps h ?_)
    unfold forceAttach
    split
    · exact h
    · exact completeRejoin_intakeLaw h d
  | forceDetach =>
    refine withPrivilege_keeps h (withFields_keeps h fun d _ => whileAttached_keeps h ?_)
    unfold forceDetach
    split
    · exact detach_intakeLaw h d
    · exact h
  | forceReset =>
    exact withPrivilege_keeps h (withFields_keeps h fun _ _ => whileAttached_keeps h (clientReset_intakeLaw h _ _))
  | freeze =>
    exact withPrivilege_keeps h (unlessFrozen_keeps h (withFields_keeps h fun _ _ =>
      whileAttached_keeps h (h.same (by simp [accept]))))
  | sleep =>
    refine withPrivilege_keeps h (withFields_keeps h fun _ _ => whileAttached_keeps h ?_)
    unfold sleepRequest
    split
    · exact h.same (by simp [accept])
    · exact h
    · exact h
  | wake =>
    refine withPrivilege_keeps h (withFields_keeps h fun _ _ => whileAttached_keeps h ?_)
    unfold wakeRequest
    split
    · exact h.same (by simp [accept])
    · exact h
    · exact h
  | resetHub =>
    exact withPrivilege_keeps h (withFields_keeps h fun _ _ => whileAttached_keeps h (h.same (by simp [accept])))
  | noteSet => exact withPrivilege_keeps h (withFields_keeps h fun _ _ => whileAttached_keeps h (h.same (by simp)))
  | status => exact withFields_keeps h fun _ _ => whileAttached_keeps h h

/-! ## Every step -/

theorem takeRequest_intakeLaw {c : Client} {rule : Request → State → Answer} (hr : RuleOf c rule)
    (wanted : Request → Bool) (h : IntakeLaw s) : IntakeLaw (takeRequest c wanted rule s) := by
  rcases takeRequest_cases c wanted rule s with e | ⟨q, rest, -, -, -, e⟩ <;> rw [e]
  · exact h
  · have hu : IntakeLaw (withoutRequest c rest s) := h.same (by simp [withoutRequest])
    exact (rule_intakeLaw hr q hu).same (by simp)

theorem assertResetInput_intakeLaw (h : IntakeLaw s) (pins : PinLevels) : IntakeLaw (assertResetInput pins s) := by
  unfold assertResetInput
  dsimp only
  split
  · exact h.same (by simp)
  · exact hubReset_intakeLaw ..

theorem intakeLaw_keptByParts : KeptByParts IntakeLaw where
  pending _ _ h := h.same (by simp)
  time _ _ h := h.same (by simp)
  settle _ h := h.same (by simp)
  lower t _ h := lower_intakeLaw h t
  expire t _ h := expire_intakeLaw h t
  gapFails c _ h := gapFails_intakeLaw h c
  receiveByte c b _ h := receiveByte_intakeLaw h c b
  frameSent c _ h := frameSent_intakeLaw h c
  takeHead _ h := takeHead_intakeLaw h
  changeRawLevel l v _ h := changeRawLevel_intakeLaw h l v
  powerOn _ _ _ _ := hubReset_intakeLaw ..
  assertInput pins _ h := assertResetInput_intakeLaw h pins
  releaseInput _ h := h.same (by simp)
  take _ wanted _ _ hr h := takeRequest_intakeLaw hr wanted h

end Operations

/-- Settles O54: each part of which a step is made keeps the law of the intake queue. -/
theorem everyStepKeepsTheIntakeLaw : Obligations.EveryStepKeepsTheIntakeLaw := intakeLaw_keptByParts.kept

end Sys2Proof.Laws
end

section
/-! PROOF. The frame of the commands in which no time passes (log entries 2 and 8): each leaves what Untouched names, but for the one
item that it writes. -/

namespace Sys2Proof.Safety

open Sys2Proof.Machine

theorem Untouched.refl (s : State) : Untouched s s := by simp [Untouched]

theorem Untouched.trans {s t u : State} (h : Untouched s t) (h' : Untouched t u) : Untouched s u := by
  simp only [Untouched] at h h' ⊢
  simp only [h', h, and_self]

end Sys2Proof.Safety

namespace Sys2Proof.Laws

open Sys2Proof.Machine Sys2Proof.Safety

/-! ## The items that commands write -/

/-- The one item of those that Untouched names which a command in which no time passes may write: `x` is `s` with it replaced. -/
inductive ItemWrite : Instr → State → State → Prop where
  | nothing (i : Instr) (s : State) : ItemWrite i s s
  | entries (c : Client) (a : Arrival) (s : State) (v : Table 48 RouteEntry) :
      ItemWrite (.routeWrite c a) s { s with entries := v }
  | banks (c : Client) (a : Arrival) (s : State) (v : Table 6 BankState) : ItemWrite (.bankSet c a) s { s with banks := v }
  | profiles (c : Client) (a : Arrival) (s : State) (v : Table 4 Profile) :
      ItemWrite (.profileSet c a) s { s with profiles := v }
  | note (c : Client) (a : Arrival) (s : State) (v : BitVec 32) :
      ItemWrite (.noteSet c a) s (s.setSup { s.sup with note := v })
  | privileges (c : Client) (a : Arrival) (s : State) (v : Table 4 PrivilegeSet) :
      ItemWrite (.clientSet c a) s (s.setSup { s.sup with privileges := v })
  | frozen (c : Client) (a : Arrival) (s : State) (v : Bool) :
      ItemWrite (.freeze c a) s (s.setSup { s.sup with frozen := v })
  | resetPending (c : Client) (a : Arrival) (s : State) (v : Option Client) :
      ItemWrite (.resetHub c a) s (s.setSup { s.sup with resetPending := v })
  | maskedBySet (c : Client) (a : Arrival) (s : State) (v : Table 3 Nat) : ItemWrite (.lineSet c a) s { s with masked := v }
  | maskedByLevel (l : LineNo) (level : Bool) (s : State) (v : Table 3 Nat) :
      ItemWrite (.rawLevelChange l level) s { s with masked := v }
  | unrouted (s : State) (v : Nat) : ItemWrite .routeTake s { s with unrouted := v }

/-- A command writes at most its one item, and leaves the others. -/
def Framed (i : Instr) (s t : State) : Prop := ∃ x, ItemWrite i s x ∧ Untouched x t

theorem Framed.of_untouched {i : Instr} {s t : State} (h : Untouched s t) : Framed i s t := ⟨s, .nothing i s, h⟩

theorem Framed.refl (i : Instr) (s : State) : Framed i s s := .of_untouched (.refl s)

/-! ## Requests -/

theorem arrive_untouched (c : Client) (k : RequestKind) (a : Arrival) (s : State) : Untouched s (arrive c k a s) := by
  simp [Untouched]

theorem settle_untouched (s : State) : Untouched s (settle s) := by simp [Untouched]

theorem placeReply_untouched (c : Client) (r : Reply) (s : State) : Untouched s (placeReply c r s) := by simp [Untouched]

/-- What a request command writes is what its rule writes, which finds no RESET_HUB pending: arriving, the reply, and what every
command ends with touch no item. -/
theorem request_framed {i : Instr} {c : Client} {rule : Request → State → Answer}
    (hr : ∀ q u, u.sup.resetPending = none → Framed i u (rule q u).1) (k : RequestKind) (a : Arrival)
    (wanted : Request → Bool) (s : State) :
    ∃ u, Untouched s u ∧ Framed i u (settle (takeRequest c wanted rule (arrive c k a s))) := by
  have ha := arrive_untouched c k a s
  rcases takeRequest_cases c wanted rule (arrive c k a s) with e | ⟨q, rest, hp, -, -, e⟩ <;> rw [e]
  · exact ⟨_, ha, .of_untouched (settle_untouched _)⟩
  · have hu : Untouched (arrive c k a s) (withoutRequest c rest (arrive c k a s)) := by simp [Untouched, withoutRequest]
    obtain ⟨x, hx, hxt⟩ := hr q (withoutRequest c rest (arrive c k a s)) hp
    exact ⟨_, ha.trans hu, x, hx, (hxt.trans (placeReply_untouched ..)).trans (settle_untouched _)⟩

theorem clientReset_untouched {s : State} (hp : s.sup.resetPending = none) (d : Client) (cause : ResetCause) :
    Untouched s (clientReset d cause s) := by
  unfold clientReset
  rw [hp]
  simp [Untouched]

theorem ackNamed_untouched (c : Client) (h : Handle) (d : Disposition) (s : State) : Untouched s (ackNamed c h d s).1 := by
  unfold ackNamed
  split
  · simp [Untouched]
  · split
    · simp [Untouched]
    · split
      · exact .refl s
      · simp [Untouched, refuse]

theorem exchange_untouched (c : Client) (k : ContextName) (s : State) : Untouched s (exchange c k s).1 := by
  unfold exchange
  split
  · exact .refl s
  · split
    · simp [Untouched]
    · split
      · exact .refl s
      · simp [Untouched]

theorem raiseEvent_untouched (c : Client) (cls : BitVec 4) (code : BitVec 12) (created : Micros) (s : State) :
    Untouched s (raiseEvent c cls code created s).1 := by
  unfold raiseEvent
  split
  · exact .refl s
  · simp [Untouched]

theorem post_untouched (c : Client) (f : PostFields) (created : Micros) (s : State) : Untouched s (post c f created s).1 := by
  unfold post
  split
  · exact .refl s
  · split
    · exact .refl s
    · split
      · exact .refl s
      · simp [Untouched]

theorem withdraw_untouched (c : Client) (n : SlotNo) (s : State) : Untouched s (withdraw c n s).1 := by
  unfold withdraw
  split
  · exact .refl s
  · exact .refl s
  · split
    · simp [Untouched, refuse]
    · exact .refl s

theorem signal_untouched (f : SignalFields) (created : Micros) (s : State) : Untouched s (signal f created s).1 := by
  unfold signal
  split
  · exact .refl s
  · split
    · simp [Untouched]
    · split
      · simp [Untouched]
      · exact .refl s

theorem rejoin_untouched (c : Client) (s : State) : Untouched s (rejoin c s).1 := by
  unfold rejoin
  dsimp only
  split
  · simp [Untouched, accept]
  · exact .refl s

theorem forceAttach_untouched (d : Client) (s : State) : Untouched s (forceAttach d s).1 := by
  unfold forceAttach
  split
  · exact .refl s
  · simp [Untouched, accept]

theorem forceDetach_untouched (d : Client) (s : State) : Untouched s (forceDetach d s).1 := by
  unfold forceDetach
  split
  · simp [Untouched, accept]
  · exact .refl s

theorem sleepRequest_untouched (s : State) : Untouched s (sleepRequest s).1 := by
  unfold sleepRequest
  split
  · simp [Untouched, accept]
  · exact .refl s
  · exact .refl s

theorem wakeRequest_untouched (s : State) : Untouched s (wakeRequest s).1 := by
  unfold wakeRequest
  split
  · simp [Untouched, accept]
  · exact .refl s
  · exact .refl s

/-! ## The rules that write an item -/

theorem ruleRouteWrite_framed (c : Client) (a : Arrival) (q : Request) (s : State) :
    Framed (.routeWrite c a) s (ruleRouteWrite c q s).1 :=
  configure_keeps (.refl _ s) fun p _ => by
    unfold writeEntry
    split
    · exact .refl _ s
    · exact ⟨_, .entries c a s _, .refl (s.setEntry p.1 p.2)⟩

theorem ruleBankSet_framed (c : Client) (a : Arrival) (q : Request) (s : State) :
    Framed (.bankSet c a) s (ruleBankSet c q s).1 :=
  configure_keeps (.refl _ s) fun p _ => ⟨_, .banks c a s _, .refl (s.setBank p.1 p.2)⟩

theorem ruleProfileSet_framed (c : Client) (a : Arrival) (q : Request) (s : State) :
    Framed (.profileSet c a) s (ruleProfileSet c q s).1 :=
  configure_keeps (.refl _ s) fun p _ => ⟨_, .profiles c a s _, .refl (s.setProfile p.1 p.2)⟩

theorem ruleClientSet_framed (c : Client) (a : Arrival) (q : Request) (s : State) :
    Framed (.clientSet c a) s (ruleClientSet c q s).1 :=
  configure_keeps (.refl _ s) fun f _ =>
    ⟨_, .privileges c a s (s.sup.privileges.set f.client f.privileges), by simp [Untouched, accept, setClient, setPrivileges]⟩

theorem ruleLineSet_framed (c : Client) (a : Arrival) (q : Request) (s : State) :
    Framed (.lineSet c a) s (ruleLineSet c q s).1 :=
  configure_keeps (.refl _ s) fun f _ =>
    ⟨_, .maskedBySet c a s (configureLine f.line f.config f.clearGroup s).masked, by simp [Untouched]⟩

theorem ruleFreeze_framed (c : Client) (a : Arrival) (q : Request) (s : State) :
    Framed (.freeze c a) s (ruleFreeze c q s).1 :=
  withPrivilege_keeps (.refl _ s) (unlessFrozen_keeps (.refl _ s) (withFields_keeps (.refl _ s) fun _ _ =>
    whileAttached_keeps (.refl _ s) ⟨_, .frozen c a s true, .refl _⟩))

theorem ruleResetHub_framed (c : Client) (a : Arrival) (q : Request) (s : State) :
    Framed (.resetHub c a) s (ruleResetHub c q s).1 :=
  withPrivilege_keeps (.refl _ s) (withFields_keeps (.refl _ s) fun _ _ =>
    whileAttached_keeps (.refl _ s) ⟨_, .resetPending c a s (some c), .refl _⟩)

theorem ruleNoteSet_framed (c : Client) (a : Arrival) (q : Request) (s : State) :
    Framed (.noteSet c a) s (ruleNoteSet c q s).1 :=
  withPrivilege_keeps (.refl _ s) (withFields_keeps (.refl _ s) fun v _ =>
    whileAttached_keeps (.refl _ s) ⟨_, .note c a s v, .refl _⟩)

/-! ## Every command in which no time passes -/

/-- A rule that touches no item gives its command a frame without exception. -/
theorem request_untouching {i : Instr} {c : Client} {rule : Request → State → Answer}
    (hr : ∀ q u, u.sup.resetPending = none → Untouched u (rule q u).1) (k : RequestKind) (a : Arrival)
    (wanted : Request → Bool) (s : State) :
    ∃ u, Untouched s u ∧ Framed i u (settle (takeRequest c wanted rule (arrive c k a s))) :=
  request_framed (fun q u hp => .of_untouched (hr q u hp)) k a wanted s

/-- A command in which no time passes writes at most its one item. -/
theorem exec_framed {i : Instr} (hi : timeless i = true) (s : State) :
    Answers (fun t => ∃ u, Untouched s u ∧ Framed i u t) (exec i s) := by
  cases i
  case rawLevelChange l v =>
    exact .next ⟨s, .refl s, _, .maskedByLevel l v s (changeRawLevel l v s).masked, by simp [Untouched]⟩
  case routeTake => exact .next ⟨s, .refl s, _, .unrouted s (takeHead s).unrouted, by simp [Untouched]⟩
  case receivedByte c b => exact .next ⟨s, .refl s, .of_untouched (by simp [Untouched])⟩
  case routeWrite c a => exact .next (request_framed (fun q u _ => ruleRouteWrite_framed c a q u) ..)
  case bankSet c a => exact .next (request_framed (fun q u _ => ruleBankSet_framed c a q u) ..)
  case profileSet c a => exact .next (request_framed (fun q u _ => ruleProfileSet_framed c a q u) ..)
  case clientSet c a => exact .next (request_framed (fun q u _ => ruleClientSet_framed c a q u) ..)
  case lineSet c a => exact .next (request_framed (fun q u _ => ruleLineSet_framed c a q u) ..)
  case freeze c a => exact .next (request_framed (fun q u _ => ruleFreeze_framed c a q u) ..)
  case resetHub c a => exact .next (request_framed (fun q u _ => ruleResetHub_framed c a q u) ..)
  case noteSet c a => exact .next (request_framed (fun q u _ => ruleNoteSet_framed c a q u) ..)
  case ready c a =>
    exact .next (request_untouching (fun q u _ => withFields_keeps (.refl u) fun _ _ => by simp [Untouched]) ..)
  case ack c a =>
    exact .next (request_untouching (fun q u _ => withFields_keeps (.refl u) fun _ _ =>
      whileAttached_keeps (.refl u) (ackNamed_untouched ..)) ..)
  case exchange c a =>
    exact .next (request_untouching (fun q u _ => withFields_keeps (.refl u) fun _ _ =>
      whileAttached_keeps (.refl u) (exchange_untouched ..)) ..)
  case contextSet c a =>
    exact .next (request_untouching (fun q u _ => withFields_keeps (.refl u) fun _ _ =>
      whileAttached_keeps (.refl u) (by simp [Untouched, accept])) ..)
  case timerSet c a =>
    exact .next (request_untouching (fun q u _ => withFields_keeps (.refl u) fun _ _ =>
      whileAttached_keeps (.refl u) (by simp [Untouched])) ..)
  case raise c a =>
    exact .next (request_untouching (fun q u _ => withPrivilege_keeps (.refl u) (withFields_keeps (.refl u) fun _ _ =>
      whileAttached_keeps (.refl u) (raiseEvent_untouched ..))) ..)
  case post c a =>
    exact .next (request_untouching (fun q u _ => withPrivilege_keeps (.refl u) (withFields_keeps (.refl u) fun _ _ =>
      whileAttached_keeps (.refl u) (post_untouched ..))) ..)
  case withdraw c a =>
    exact .next (request_untouching (fun q u _ => withPrivilege_keeps (.refl u) (withFields_keeps (.refl u) fun _ _ =>
      whileAttached_keeps (.refl u) (withdraw_untouched ..))) ..)
  case signal c a =>
    exact .next (request_untouching (fun q u _ => withPrivilege_keeps (.refl u) (withFields_keeps (.refl u) fun _ _ =>
      whileAttached_keeps (.refl u) (signal_untouched ..))) ..)
  case heartbeat c a =>
    exact .next (request_untouching (fun q u _ => withFields_keeps (.refl u) fun _ _ => by simp [Untouched]) ..)
  case rejoin c a =>
    exact .next (request_untouching (fun q u _ => withFields_keeps (.refl u) fun _ _ => rejoin_untouched ..) ..)
  case query c a => exact .next (request_untouching (fun q u _ => withFields_keeps (.refl u) fun _ _ => .refl u) ..)
  case routeRead c a =>
    exact .next (request_untouching (fun q u _ => withFields_keeps (.refl u) fun _ _ =>
      whileAttached_keeps (.refl u) (.refl u)) ..)
  case lineRead c a =>
    exact .next (request_untouching (fun q u _ => withFields_keeps (.refl u) fun _ _ =>
      whileAttached_keeps (.refl u) (.refl u)) ..)
  case profileRead c a =>
    exact .next (request_untouching (fun q u _ => withFields_keeps (.refl u) fun _ _ =>
      whileAttached_keeps (.refl u) (.refl u)) ..)
  case clientRead c a =>
    exact .next (request_untouching (fun q u _ => withFields_keeps (.refl u) fun _ _ =>
      whileAttached_keeps (.refl u) (.refl u)) ..)
  case forceAttach c a =>
    exact .next (request_untouching (fun q u _ => withPrivilege_keeps (.refl u) (withFields_keeps (.refl u) fun _ _ =>
      whileAttached_keeps (.refl u) (forceAttach_untouched ..))) ..)
  case forceDetach c a =>
    exact .next (request_untouching (fun q u _ => withPrivilege_keeps (.refl u) (withFields_keeps (.refl u) fun _ _ =>
      whileAttached_keeps (.refl u) (forceDetach_untouched ..))) ..)
  case forceReset c a =>
    exact .next (request_untouching (fun q u hp => withPrivilege_keeps (.refl u) (withFields_keeps (.refl u) fun _ _ =>
      whileAttached_keeps (.refl u) (clientReset_untouched hp ..))) ..)
  case sleep c a =>
    exact .next (request_untouching (fun q u _ => withPrivilege_keeps (.refl u) (withFields_keeps (.refl u) fun _ _ =>
      whileAttached_keeps (.refl u) (sleepRequest_untouched u))) ..)
  case wake c a =>
    exact .next (request_untouching (fun q u _ => withPrivilege_keeps (.refl u) (withFields_keeps (.refl u) fun _ _ =>
      whileAttached_keeps (.refl u) (wakeRequest_untouched u))) ..)
  case status c a =>
    exact .next (request_untouching (fun q u _ => withFields_keeps (.refl u) fun _ _ =>
      whileAttached_keeps (.refl u) (.refl u)) ..)
  all_goals cases hi

/-- Settles O2: by the one item that each of these commands may write. -/
theorem timelessCommandsFrame : Obligations.TimelessCommandsFrame := by
  intro i s t hi e
  obtain ⟨u, hsu, x, hx, hxt⟩ := exec_framed hi s t e
  simp only [Untouched] at hsu hxt
  cases hx <;> simp [hxt, hsu]

end Sys2Proof.Laws
end

section
/-! PROOF. The passing of time: the decreases of a tick, the expiry commands, the microsecond of an idle step, and when a timer counts
(R4, R100, R111, R120, R121, R141). -/

namespace Sys2Proof.Laws

open Sys2Proof.Machine Sys2Proof.Safety

/-! ## The stage timer -/

/-- The search for a client's record in a state reads its owner and its state alone. -/
theorem recordIn_setRecord_same {s : State} {i : RecIndex} {r r' : Record} (hr : s.record i = some r)
    (ho : r'.owner = r.owner) (hst : r'.state = r.state) (c : Client) (st : RecState) :
    recordIn (s.setRecord i (some r')) c st = recordIn s c st := by
  unfold recordIn
  congr 1
  funext j
  simp only [State.record, State.slot, State.setRecord, State.setSlot_pool, Table.get_set] at hr ⊢
  split
  · rename_i hj
    subst hj
    simp [hr, ho, hst]
  · rfl

theorem heldIn_setRecord_same {s : State} {i : RecIndex} {r r' : Record} (hr : s.record i = some r)
    (ho : r'.owner = r.owner) (hst : r'.state = r.state) (c : Client) (st : RecState) :
    heldIn (s.setRecord i (some r')) c st = (heldIn s c st).map fun p => if p.1 = i then (i, r') else p := by
  unfold heldIn
  rw [recordIn_setRecord_same hr ho hst]
  cases recordIn s c st with
  | none => rfl
  | some j =>
    simp only [Option.bind_some, State.record, State.slot, State.setRecord, State.setSlot_pool, Table.get_set] at hr ⊢
    by_cases hj : j = i
    · subst hj; simp [hr]
    · simp only [hj, if_false, Option.map_map]
      cases (s.pool.get j).held <;> simp [hj]

/-- The decrease of a stage timer is a decrease of its own client's, and of no other's. -/
theorem escOf_lowerStage (s : State) (c d : Client) :
    escOf (lowerStage c s) d =
      if d = c then (escOf s d).map fun e => { e with left := e.left - 1 } else escOf s d := by
  unfold lowerStage escOf
  cases h : heldIn s c .presented with
  | none =>
    by_cases hd : d = c
    · subst hd; simp [h]
    · simp [hd]
  | some p =>
    obtain ⟨i, r⟩ := p
    obtain ⟨-, hr, ho, -⟩ := heldIn_some h
    dsimp only
    rw [heldIn_setRecord_same (r' := { r with esc := r.esc.map fun e => { e with left := e.left - 1 } }) hr rfl rfl]
    by_cases hd : d = c
    · subst hd; simp [h]
    · rw [if_neg hd]
      cases h' : heldIn s d .presented with
      | none => rfl
      | some p' =>
        obtain ⟨j, o⟩ := p'
        obtain ⟨-, hr', ho', -⟩ := heldIn_some h'
        have hne : j ≠ i := fun e => hd (by rw [e, hr] at hr'; cases hr'; rw [← ho', ho])
        simp [hne]

theorem escOf_of_pool {s t : State} (h : t.pool = s.pool) : escOf t = escOf s := by
  funext c; simp only [escOf, heldIn, recordIn, State.record, State.slot, h]

/-! ## The decreases of a tick -/

theorem lower_line (t : Timer) (s : State) (l : LineNo) : (lower t s).line l =
    { s.line l with
      debounceLeft := (s.line l).debounceLeft - if .debounce l = t then 1 else 0
      repeatLeft := (s.line l).repeatLeft - if .repeatInterval l = t then 1 else 0 } := by
  cases t with
  | debounce m => by_cases h : l = m <;> simp [lower, State.line, Table.get_set, h]
  | repeatInterval m => by_cases h : l = m <;> simp [lower, State.line, Table.get_set, h]
  | _ => simp [lower, State.line]

theorem lower_contextsOf (t : Timer) (s : State) (c : Client) : (lower t s).contextsOf c =
    { s.contextsOf c with
      operate := { (s.contextsOf c).operate with
        left := (s.contextsOf c).operate.left - if .context c .operate = t then 1 else 0 }
      service := { (s.contextsOf c).service with
        left := (s.contextsOf c).service.left - if .context c .service = t then 1 else 0 }
      holdOffLeft := (s.contextsOf c).holdOffLeft - if .holdOff c = t then 1 else 0 } := by
  cases t with
  | context d k =>
    by_cases h : c = d
    · cases k <;> simp [lower, State.contextsOf, h, ClientContexts.set, ClientContexts.get]
    · simp [lower, State.contextsOf, Table.get_set, h]
  | holdOff d => by_cases h : c = d <;> simp [lower, State.contextsOf, Table.get_set, h]
  | _ => simp [lower, State.contextsOf]

theorem lower_clientLinesOf (t : Timer) (s : State) (c : Client) : (lower t s).clientLinesOf c =
    { s.clientLinesOf c with pulseLeft := (s.clientLinesOf c).pulseLeft - if .pulse c = t then 1 else 0 } := by
  cases t with
  | pulse d => by_cases h : c = d <;> simp [lower, State.clientLinesOf, Table.get_set, h]
  | _ => simp [lower, State.clientLinesOf]

theorem lower_healthOf (t : Timer) (s : State) (c : Client) : (lower t s).healthOf c =
    { s.healthOf c with spacingLeft := (s.healthOf c).spacingLeft - if .spacing c = t then 1 else 0 } := by
  cases t with
  | spacing d => by_cases h : c = d <;> simp [lower, State.healthOf, Table.get_set, h]
  | _ => simp [lower, State.healthOf]

theorem lower_board (t : Timer) (s : State) : (lower t s).board =
    { s.board with
      pulseLeft := s.board.pulseLeft - if .boardPulse = t then 1 else 0
      outputLeft := s.board.outputLeft - if .boardOutput = t then 1 else 0 } := by
  cases t <;> simp [lower]

theorem escOf_lower (t : Timer) (s : State) (c : Client) : escOf (lower t s) c =
    (escOf s c).map fun e => { e with left := e.left - if .stage c = t then 1 else 0 } := by
  cases t with
  | stage d =>
    by_cases h : c = d <;> simp [lower, escOf_lowerStage, h]
  | _ => rw [escOf_of_pool (s := s) (by simp [lower])]; simp

/-- A decrease takes one from the time of its own timer and leaves that of every other (R4). -/
theorem standing_lower (t k : Timer) (s : State) :
    standing (lower t s) k = standing s k - if k = t then 1 else 0 := by
  cases k with
  | debounce l => simp only [standing, lower_line]
  | repeatInterval l => simp only [standing, lower_line]
  | context c x => cases x <;> simp only [standing, lower_contextsOf]
  | holdOff c => simp only [standing, lower_contextsOf]
  | stage c => cases h : escOf s c <;> simp [standing, escOf_lower, h]
  | pulse c => simp only [standing, lower_clientLinesOf]
  | boardPulse => simp only [standing, lower_board]
  | boardOutput => simp only [standing, lower_board]
  | spacing c => simp only [standing, lower_healthOf]

theorem timers_nodup : timers.Nodup := by decide

theorem mem_timers (t : Timer) : t ∈ timers := by
  cases t with
  | context c k => cases k <;> revert c <;> decide
  | debounce l => revert l; decide
  | repeatInterval l => revert l; decide
  | holdOff c => revert c; decide
  | stage c => revert c; decide
  | pulse c => revert c; decide
  | spacing c => revert c; decide
  | boardPulse => decide
  | boardOutput => decide

theorem standing_lower_all {l : List Timer} (hl : l.Nodup) (s : State) (k : Timer) :
    standing (l.foldl (fun s t => lower t s) s) k = standing s k - if k ∈ l then 1 else 0 := by
  induction l generalizing s with
  | nil => simp
  | cons t l ih =>
    obtain ⟨ht, hl⟩ := List.nodup_cons.1 hl
    rw [List.foldl_cons, ih hl, standing_lower]
    by_cases hk : k = t
    · subst hk; simp [ht]
    · simp [hk]

/-- The decreases of a tick that leave time remaining change timers alone. -/
theorem lowerTimers_keeps (u : State) :
    (lowerTimers u).time = u.time ∧ (lowerTimers u).intake = u.intake ∧ (lowerTimers u).queues = u.queues ∧
    (lowerTimers u).entries = u.entries ∧ (lowerTimers u).links = u.links ∧ (lowerTimers u).sup = u.sup ∧
    (lowerTimers u).presentation = u.presentation ∧ (lowerTimers u).posts = u.posts := by
  have h : ∀ (t : Timer) (s : State), (lower t s).time = s.time ∧ (lower t s).intake = s.intake ∧
      (lower t s).queues = s.queues ∧ (lower t s).entries = s.entries ∧ (lower t s).links = s.links ∧
      (lower t s).sup = s.sup ∧ (lower t s).presentation = s.presentation ∧ (lower t s).posts = s.posts := by
    intro t s
    cases t <;> simp [lower]
  unfold lowerTimers
  refine List.foldlRecOn (motive := fun v : State => v.time = u.time ∧ v.intake = u.intake ∧ v.queues = u.queues ∧
    v.entries = u.entries ∧ v.links = u.links ∧ v.sup = u.sup ∧ v.presentation = u.presentation ∧ v.posts = u.posts)
    _ _ (by simp) fun v hv t _ => ?_
  simpa only [h] using hv

/-- At a tick every timer that keeps time remaining is decreased once, unless it has been taken (R4). -/
theorem standing_lowerTimers (u : State) (k : Timer) :
    standing (lowerTimers u) k = standing u k - if 2 ≤ timerLeft u k ∧ k ∉ u.time.ticked then 1 else 0 := by
  unfold lowerTimers
  rw [standing_lower_all (timers_nodup.filter _)]
  simp [List.mem_filter, mem_timers]

theorem expiring_eq (u : State) :
    expiring u = timers.filter fun k => timerLeft u k = 1 ∧ k ∉ u.time.ticked := by
  unfold expiring
  congr 1
  funext k
  simp

/-! ## Expiry commands -/

/-- An expiry command takes its own timer when it is due, and changes nothing otherwise (log entries 3 and 23). -/
theorem settle_expiryCommand (t : Timer) (s : State) :
    (Due t s → settle (expiryCommand t s) = settle (expire t (marked t (moment s)))) ∧
    (¬ Due t s → settle (expiryCommand t s) = settle s) :=
  ⟨expiryCommand_of_due, fun h => by rw [expiryCommand_of_not h]⟩

theorem exec_deadlineExpiry (c : Client) (s : State) : exec (.deadlineExpiry c) s = .next (settle
    (if (escOf s c).map Escalation.stage = some .deadline then expiryCommand (.stage c) s else s)) := rfl

theorem exec_delayExpiry (c : Client) (s : State) : exec (.delayExpiry c) s = .next (settle
    (if (escOf s c).map Escalation.stage = some .delay then expiryCommand (.stage c) s else s)) := rfl

/-! ## When a timer counts -/

theorem stageCounts_iff {s : State} {c : Client} {e : Escalation} (he : escOf s c = some e) :
    stageCounts s c e = true ↔ Counts s (.stage c) := by
  have hb := deliverBusy_iff s c
  constructor
  · intro h
    simp only [stageCounts, Bool.and_eq_true, Bool.or_eq_true, decide_eq_true_eq, Bool.not_eq_true'] at h
    obtain ⟨⟨hst, hbusy⟩, hm⟩ := h
    obtain ⟨hhub, htx⟩ := hb.1 hbusy
    exact ⟨hm, hhub, htx, e, he, hst⟩
  · rintro ⟨hm, hhub, htx, e', he', hst⟩
    rw [he] at he'
    cases he'
    simp only [stageCounts, Bool.and_eq_true, Bool.or_eq_true, decide_eq_true_eq, Bool.not_eq_true']
    exact ⟨⟨hst, hb.2 ⟨hhub, htx⟩⟩, hm⟩

/-- A stage timer has its stored time while its rule lets it count, and none otherwise (R120, R121). -/
theorem stageLeft_eq (s : State) (c : Client) :
    (Counts s (.stage c) → stageLeft s c = standing s (.stage c)) ∧ (¬ Counts s (.stage c) → stageLeft s c = 0) := by
  have hl : stageLeft s c = match escOf s c with
      | some e => if stageCounts s c e then e.left else 0
      | none => 0 := rfl
  rw [hl]
  cases he : escOf s c with
  | none =>
    refine ⟨fun h => ?_, fun _ => rfl⟩
    obtain ⟨-, -, -, e, h, -⟩ := h
    rw [he] at h
    cases h
  | some e =>
    simp only [standing, he]
    exact ⟨fun h => if_pos ((stageCounts_iff he).2 h), fun h => if_neg (mt (stageCounts_iff he).1 h)⟩

theorem timerLeft_eq (s : State) (t : Timer) :
    (Counts s t → timerLeft s t = standing s t) ∧ (¬ Counts s t → timerLeft s t = 0) := by
  cases t with
  | stage c => exact stageLeft_eq s c
  | context c k => cases k <;> exact ⟨fun h => if_pos h, fun h => if_neg h⟩
  | holdOff c => exact ⟨fun h => if_pos h, fun h => if_neg h⟩
  | spacing c => exact ⟨fun h => if_pos h, fun h => if_neg h⟩
  | _ => exact ⟨fun _ => rfl, fun h => absurd trivial h⟩

/-! ## A step with no command waiting -/

theorem step_of_no_command {s : State} (h : s.pending = []) : step s = .next (settle (idle s)) := by
  unfold step
  rw [h]

theorem tickBegun_iff (s : State) : tickBegun s = true ↔ s.time.ticked ≠ [] := by simp [tickBegun]

/-- A tick that is due, or begun, is taken; otherwise one microsecond passes (log entry 2). -/
theorem idle_eq (s : State) :
    (s.time.ticked ≠ [] ∨ 999 ≤ s.time.divider → idle s = nextTick s) ∧
    (s.time.ticked = [] → s.time.divider < 999 → idle s = passWithin 4 1 s) := by
  have hu : untilTick s ≤ 1 ↔ 999 ≤ s.time.divider := by
    unfold untilTick Config.tickMicros
    omega
  have hc : (tickBegun s || decide (untilTick s ≤ 1)) = true ↔ s.time.ticked ≠ [] ∨ 999 ≤ s.time.divider := by
    rw [Bool.or_eq_true, tickBegun_iff, decide_eq_true_iff, hu]
  refine ⟨fun h => if_pos (hc.2 h), fun h hd => if_neg fun h' => ?_⟩
  rcases hc.1 h' with h' | h'
  · exact h' h
  · omega

/-- Settles O5: the tick by its decreases and expiries, the expiry commands by `Due`, and the idle step by `Within`. -/
theorem timePassesTickByTick : Obligations.TimePassesTickByTick := by
  refine ⟨moment_spec, ?_, ?_, fun s hp => ⟨fun h => ?_, fun h hd => ?_⟩, timerLeft_eq⟩
  · rintro s u v w rfl rfl rfl
    rw [← expiring_eq]
    exact ⟨rfl, standing_lowerTimers _, lowerTimers_keeps _⟩
  · intro s l c k takes
    have command : ∀ (i : Instr) (t : Timer), exec i s = .next (settle (expiryCommand t s)) → takes i t := fun i t e => by
      obtain ⟨hd, hn⟩ := settle_expiryCommand t s
      exact ⟨fun h => by rw [e, hd h], fun h => by rw [e, hn h]⟩
    refine ⟨command _ _ rfl, command _ _ rfl, command _ _ rfl, command _ _ rfl, command _ _ rfl, command _ _ rfl,
      command _ _ rfl, command _ _ rfl, fun h => command _ _ ?_, fun h => command _ _ ?_, fun h => ?_, fun h => ?_⟩
    · rw [exec_deadlineExpiry, if_pos h]
    · rw [exec_delayExpiry, if_pos h]
    · rw [exec_deadlineExpiry, if_neg h]
    · rw [exec_delayExpiry, if_neg h]
  · rw [step_of_no_command hp, (idle_eq s).1 h]
    rfl
  · refine ⟨passWithin 4 1 s, passWithin_within _ _ _ (receiving_card s), ?_⟩
    rw [step_of_no_command hp, (idle_eq s).2 h hd]

end Sys2Proof.Laws
end

section
/-! PROOF. The intake queue's own operations: notices and drops (R11 to R13, R67), the take and the place it frees (R9, R10, R21),
RAISE (R15), a making (R14, R48, R54, R57, R63), and a free with its reports (R14, R22, R54, R68, R69). -/

namespace Sys2Proof.Laws

open Sys2Proof.Machine Sys2Proof.Safety

/-! ## Notices and drops -/

theorem offerNotice_of_place {s : State} (h : s.intake.length < 16) (n : NoticeType) (detail : Nat) :
    offerNotice n detail s = placeEvent s ⟨noticeKey n detail, s.time.counter⟩ := by
  unfold offerNotice
  rw [intakeFull_false.2 h]
  rfl

theorem offerNotice_of_full {s : State} (h : 16 ≤ s.intake.length) (n : NoticeType) (detail : Nat) :
    offerNotice n detail s = loseNotice s := by
  unfold offerNotice
  rw [if_pos (intakeFull_iff.2 h)]

theorem isNotice_iff (k : Key) : k.isNotice = true ↔ k.cls = 15 := decide_eq_true_iff

/-- Settles O10: a notice by whether the queue is full, a drop by whether its event is a notice. -/
theorem noticesAndDrops : Obligations.NoticesAndDrops := by
  refine ⟨⟨rfl, fun n detail s => ⟨fun h => offerNotice_of_place h n detail, fun h => offerNotice_of_full h n detail⟩⟩,
    fun c k s => ?_⟩
  unfold dropFor
  simp only [isNotice_iff]
  rfl

/-! ## The take and the place it frees -/

theorem firstWaitingTimer_eq {s : State} {n : Fin 8} {d : Descriptor} (hn : s.waiting.get n = some d)
    (hlow : ∀ m, m < n → s.waiting.get m = none) : firstWaitingTimer s = some (n, d) :=
  findSome_finRange _ n (n, d) (by rw [hn]; rfl) fun m hm => by rw [hlow m hm]; rfl

theorem firstWaitingTimer_eq_none {s : State} (h : ∀ n, s.waiting.get n = none) : firstWaitingTimer s = none :=
  List.findSome?_eq_none_iff.2 fun n _ => by rw [h n]; rfl

theorem firstWaitingLine_eq {s : State} {l : LineNo} {d : Descriptor} (hl : (s.line l).latch = .pending d)
    (hlow : ∀ m, m < l → (s.line m).latch.held = none) : firstWaitingLine s = some (l, d) :=
  findSome_finRange _ l (l, d) (by rw [hl]; rfl) fun m hm => by rw [hlow m hm]; rfl

theorem firstWaitingLine_eq_none {s : State} (h : ∀ l, (s.line l).latch.held = none) : firstWaitingLine s = none :=
  List.findSome?_eq_none_iff.2 fun l _ => by rw [h l]; rfl

theorem lineTaken_eq (l : LineNo) (s : State) : lineTaken l s = s.setLine l { s.line l with
    queued := (s.line l).queued - 1
    latch := if (s.line l).queued - 1 = 0 ∧ (s.line l).latch = .outstanding ∧
        ((s.line l).config.mode = .edge ∨ (s.line l).config.mode = .groupEdge) then .armed else (s.line l).latch } := by
  unfold lineTaken
  simp only [Bool.or_eq_true, decide_eq_true_iff]

/-- The report of a take goes to the line of its source, if its source is a line's (R2, R21). -/
theorem reportTaken_eq (src : BitVec 6) (s : State) :
    reportTaken src s = if h : src.toNat < 24 then lineTaken ⟨src.toNat, h⟩ s else s := by
  unfold reportTaken lineOfSource
  by_cases h : src.toNat < 24 <;> simp only [h, dif_pos, dif_neg, not_false_eq_true]

theorem takeHead_cons {s : State} {d : Descriptor} {rest : List Descriptor} (h : s.intake = d :: rest) :
    takeHead s = completeWake s.sup.mode (routeEvent d (reportTaken d.key.source (givePlace (s.setIntake rest)))) := by
  unfold takeHead
  rw [h]

theorem takeHead_nil {s : State} (h : s.intake = []) : takeHead s = s := by
  unfold takeHead
  rw [h]

theorem routeEvent_hit {s : State} {d : Descriptor} {e : EntryNo} (h : lookup s d.key = some e) :
    routeEvent d s = reportDisposed d.key.source (routeByEntry d e s) := by
  unfold routeEvent
  rw [h]

theorem routeEvent_unrouted {s : State} {d : Descriptor} (h : lookup s d.key = none) :
    routeEvent d s = reportDisposed d.key.source (routeUnrouted d s) := by
  unfold routeEvent
  rw [h]

theorem exec_routeTake (s : State) : exec .routeTake s = .next (settle (takeHead s)) := rfl

/-- Settles O11: the freed place by who waits, the routing by what the lookup hits. -/
theorem routeTakeRoutesTheHead : Obligations.RouteTakeRoutesTheHead := by
  refine ⟨fun s => ⟨fun n d hn hlow => ?_, fun hw => ⟨fun l d hl hlow => ?_, fun hl => ?_⟩⟩, fun s => ⟨fun h => ?_, ?_⟩⟩
  · unfold givePlace
    rw [firstWaitingTimer_eq hn hlow]
    rfl
  · unfold givePlace
    rw [firstWaitingTimer_eq_none hw, firstWaitingLine_eq hl hlow]
    rfl
  · unfold givePlace
    rw [firstWaitingTimer_eq_none hw, firstWaitingLine_eq_none hl]
  · rw [exec_routeTake, takeHead_nil h]
  · intro d rest v w hi hv hw
    have hw' : w = reportTaken d.key.source (givePlace (s.setIntake rest)) := by
      rw [reportTaken_eq, hw, hv]
      simp only [lineTaken_eq]
    rw [exec_routeTake, takeHead_cons hi, ← hw']
    exact ⟨fun e he => by rw [routeEvent_hit he], fun he => by rw [routeEvent_unrouted he]⟩

/-! ## RAISE -/

theorem raiseEvent_of_place {s : State} (h : s.intake.length < 16) (c : Client) (cls : BitVec 4) (code : BitVec 12)
    (created : Micros) : raiseEvent c cls code created s =
      (s.setIntake (s.intake ++ [⟨⟨BitVec.ofNat 6 (24 + c.val), cls, code⟩, created⟩]), .ok,
        be32 created.toNat ++ [byte (s.intake.length + 1)]) := by
  unfold raiseEvent
  rw [intakeFull_false.2 h]
  simp [placeEvent, raiseKey]

theorem raiseEvent_of_full {s : State} (h : 16 ≤ s.intake.length) (c : Client) (cls : BitVec 4) (code : BitVec 12)
    (created : Micros) : raiseEvent c cls code created s = refuse .backlog s := by
  unfold raiseEvent
  rw [if_pos (intakeFull_iff.2 h)]

/-- Settles O40: the checks of R15 in their order, then the full queue. -/
theorem raisePlacesAnEvent : Obligations.RaisePlacesAnEvent := by
  intro s u c a q ht
  have he : exec (.raise c a) s = .next (outcomeOf c q (ruleRaise c q u)) :=
    congrArg Host.Outcome.next (serve_of_takes (ruleRaise c) ht)
  rw [he]
  unfold ruleRaise
  rw [outcomeOf_withPrivilege]
  refine ⟨fun cls code hc hq => ?_, fun hq => ?_⟩
  · rw [(parseRaise_eq q.payload cls code).2 ⟨hc, hq⟩, outcomeOf_withFields_some, outcomeOf_whileAttached]
    cases hh : holds u c .raise
    · simp
    · cases hat : u.attached c
      · simp
      · rcases Nat.lt_or_ge u.intake.length 16 with hl | hl
        · rw [raiseEvent_of_place hl, outcomeOf_mk]
          simp [Nat.not_le.2 hl]
        · rw [raiseEvent_of_full hl, outcomeOf_refuse]
          simp [hl]
  · have hn : parseRaise q.payload = none := by
      cases hp : parseRaise q.payload with
      | none => rfl
      | some p =>
        obtain ⟨hc, hb⟩ := (parseRaise_eq q.payload p.1 p.2).1 hp
        exact absurd hb (hq p.1 p.2 hc)
    rw [hn, outcomeOf_withFields_none]
    cases hh : holds u c .raise <;> simp

/-! ## A making -/

theorem enqueue_groups (s : State) (c : Client) (p : Priority) (i : RecIndex) : (enqueue s c p i).groups = s.groups := by simp

/-- Settles O17: the new record, its group's count, and the POOL_LOW test, in this order. -/
theorem makingFillsANewRecord : Obligations.MakingFillsANewRecord := by
  intro i q s v w hv heach hfirst hfree
  have hm : makeAt i q s = poolLowTest (groupGainsCopy q.mode v) := by rw [hv]; rfl
  have hg : v.groups = s.groups := by rw [hv, enqueue_groups, State.setSlot_groups]
  have hw : groupGainsCopy q.mode v = w := by
    unfold groupGainsCopy
    cases hq : q.mode with
    | each => exact (heach hq).symm
    | first g =>
      dsimp only
      rw [hg]
      cases hx : s.groups.get g with
      | none => exact (hfree g hq hx).symm
      | some x => exact (hfirst g x hq hx).symm
  have hsup : w.sup.poolLowArmed = s.sup.poolLowArmed := by rw [← hw, hv]; simp
  rw [hm, hw]
  unfold poolLowTest
  rw [hsup]
  rfl

/-! ## A free -/

theorem isPost_iff (k : Key) : k.isPost = true ↔ 37 ≤ k.source.toNat ∧ k.source.toNat ≤ 40 := by
  simp only [Key.isPost, Bool.and_eq_true, decide_eq_true_iff]

theorem release_eq (i : RecIndex) (r : Record) (s : State) : release i r s =
    if r.state = .queued then
      (s.setSlot i ⟨(s.slot i).gen, none⟩).setQueue r.owner ((s.queue r.owner).filter (· ≠ i))
    else s.setSlot i ⟨(s.slot i).gen, none⟩ := rfl

theorem release_queue (i : RecIndex) (r : Record) (s : State) (c : Client) : (release i r s).queue c =
    if c = r.owner ∧ r.state = .queued then (s.queue c).filter (· ≠ i) else s.queue c := by
  rw [release_eq]
  by_cases hq : r.state = .queued
  · by_cases hc : c = r.owner
    · simp [hq, hc, State.queue]
    · simp [hq, hc, State.queue, Table.get_set]
  · simp [hq, State.queue]

theorem freeWithin_slot (i : RecIndex) (r : Record) (cause : FreeCause) (s : State) (j : RecIndex) :
    (freeWithin i r cause s).slot j = if j = i then ⟨(s.slot i).gen, none⟩ else s.slot j := by
  obtain ⟨hp, -, -⟩ := freeWithin_moves i r cause s
  simp only [State.slot, hp, Table.get_set]

theorem freeWithin_queue (i : RecIndex) (r : Record) (cause : FreeCause) (s : State) (c : Client) :
    (freeWithin i r cause s).queue c =
      if c = r.owner ∧ r.state = .queued then (s.queue c).filter (· ≠ i) else s.queue c := by
  obtain ⟨-, hq, -⟩ := freeWithin_moves i r cause s
  simp only [State.queue, hq]
  exact release_queue i r s c

theorem holdsRecord_iff (s : State) (p : Record → Bool) : holdsRecord s p = true ↔ ∃ j o, s.record j = some o ∧ p o = true := by
  simp only [holdsRecord, List.any_eq_true, Option.any_eq_true]
  constructor
  · rintro ⟨x, hx, o, ho, hp⟩
    obtain ⟨k, hk, rfl⟩ := List.mem_iff_getElem.1 hx
    exact ⟨⟨k, by rw [s.pool.size] at hk; exact hk⟩, o, ho, hp⟩
  · rintro ⟨j, o, ho, hp⟩
    exact ⟨s.slot j, List.getElem_mem _, o, ho, hp⟩

/-- The store reports a source to its line when no record of that source is left (R22). -/
theorem reportDisposed_eq (src : BitVec 6) (s : State) :
    (24 ≤ src.toNat → reportDisposed src s = s) ∧
    ((∃ j o, s.record j = some o ∧ o.key.source = src) → reportDisposed src s = s) ∧
    (∀ l : LineNo, src.toNat = l.val → (∀ j o, s.record j = some o → o.key.source ≠ src) →
      reportDisposed src s = lineDisposed l s) := by
  have hh : (holdsRecord s fun r => r.key.source = src) = true ↔ ∃ j o, s.record j = some o ∧ o.key.source = src := by
    simp only [holdsRecord_iff, decide_eq_true_iff]
  unfold reportDisposed lineOfSource
  refine ⟨fun h => ?_, fun h => ?_, fun l hl h => ?_⟩
  · rw [dif_neg (Nat.not_lt.2 h)]
  · rw [hh.2 h]
    split <;> rfl
  · have hn : (holdsRecord s fun r => r.key.source = src) = false := by
      rw [← Bool.not_eq_true, hh]
      rintro ⟨j, o, ho, e⟩
      exact h j o ho e
    have hlt : src.toNat < 24 := hl ▸ l.isLt
    have hf : (⟨src.toNat, hlt⟩ : LineNo) = l := Fin.ext hl
    rw [dif_pos hlt, hn, hf]
    rfl

/-- Settles O19: what a free moves, its reports in their order, and the report to a line. -/
theorem freeEndsTheRecord : Obligations.FreeEndsTheRecord := by
  refine ⟨fun i r cause s => ⟨?_, fun j hj => ?_, freeWithin_queue i r cause s, ?_, ?_, ?_, ?_, ?_, fun h => ?_⟩, ?_,
    reportDisposed_eq⟩
  · rw [freeWithin_slot, if_pos rfl]
  · rw [freeWithin_slot, if_neg hj]
  · simp
  · simp
  · simp
  · simp
  · simp [Untouched]
  · exact completeWake_awake h _
  · intro i r cause s v w x y z hv hw hx hy hz
    have hz' : freeUntested i r cause s = z := by
      have h1 : release i r s = v := by rw [hv, release_eq]
      have h2 : reportCopy r v = w := hw.symm
      have h3 : reportPost r (s.handleAt i) cause w = x := by
        rw [hx]
        unfold reportPost
        simp only [isPost_iff]
        rfl
      unfold freeUntested
      dsimp only
      rw [h1, h2, h3, ← hy, hz]
      rfl
    refine ⟨hz', rfl, ?_⟩
    unfold freeWithin
    rw [hz']
    rfl

end Sys2Proof.Laws
end

section
/-! PROOF. The ends of the timers of contexts, pulses, the board-reset output and rejoins (R8, R100, R126, R127, R131, R141). -/

namespace Sys2Proof.Laws

open Sys2Proof.Machine Sys2Proof.Safety

/-- An expiry command whose timer is due takes its expiry. -/
theorem next_expiryCommand_of_due {t : Timer} {s u : State} (h : Due t s) (hu : u = marked t (moment s)) :
    (.next (settle (expiryCommand t s)) : Host.Outcome State Fault Refusal) = .next (settle (expire t u)) := by
  rw [expiryCommand_of_due h, hu]

theorem timerKey_eq (c : Client) (k : ContextName) :
    timerKey c k = ⟨BitVec.ofNat 6 (28 + 2 * c.val + contextCode k), 14, 0⟩ := by
  cases k <;> simp [timerKey, timerNo, contextCode, Nat.add_assoc]

/-- The event of a context timer joins the queue, or waits, once, while it is full (R8, R100). -/
theorem offerTimerEvent_eq (c : Client) (k : ContextName) (s : State) : offerTimerEvent c k s =
    if s.intake.length < 16 then s.setIntake (s.intake ++ [⟨timerKey c k, s.time.counter⟩])
    else if (s.waiting.get (timerNo c k)).isSome then s
    else s.setWaiting (timerNo c k) (some ⟨timerKey c k, s.time.counter⟩) := by
  unfold offerTimerEvent
  by_cases h : s.intake.length < 16
  · rw [if_pos h, intakeFull_false.2 h]
    rfl
  · rw [if_neg h, if_pos (intakeFull_iff.2 (Nat.not_lt.1 h))]
    cases s.waiting.get (timerNo c k) <;> rfl

/-- A context timer that has run out: PERIODIC reloads, ONCE becomes OFF (R100). -/
theorem contextTimerExpires_eq (c : Client) (k : ContextName) (s : State) : contextTimerExpires c k s =
    (offerTimerEvent c k s).setContexts c ((s.contextsOf c).set k
      (if ((s.contextsOf c).get k).timerMode = .periodic then
        { (s.contextsOf c).get k with left := ((s.contextsOf c).get k).reload }
      else { (s.contextsOf c).get k with timerMode := .off, left := 0 })) := by
  have hc : (offerTimerEvent c k s).contextsOf c = s.contextsOf c := by simp [State.contextsOf]
  unfold contextTimerExpires
  dsimp only
  rw [hc]
  cases h : ((s.contextsOf c).get k).timerMode <;> rfl

theorem releaseLine_clientLinesOf (s : State) (d c : Client) : (releaseLine s d).clientLinesOf c =
    if c = d ∧ (s.clientLinesOf c).pulseLeft = 0 then { s.clientLinesOf c with resetLine := false, pulseLeft := 0 }
    else s.clientLinesOf c := by
  unfold releaseLine
  by_cases hp : (s.clientLinesOf d).pulseLeft = 0
  · rw [if_pos hp]
    by_cases hc : c = d
    · subst hc; simp [pulseExpires, State.clientLinesOf, hp]
    · simp [pulseExpires, State.clientLinesOf, Table.get_set, hc]
  · rw [if_neg hp]
    by_cases hc : c = d
    · subst hc; simp [hp]
    · simp [hc]

/-- The end of the common pulse releases the line of each client whose own pulse does not run (R131; log entry 22). -/
theorem boardPulseExpires_clientLinesOf (s : State) (c : Client) : (boardPulseExpires s).clientLinesOf c =
    if (s.clientLinesOf c).pulseLeft = 0 then { s.clientLinesOf c with resetLine := false, pulseLeft := 0 }
    else s.clientLinesOf c := by
  have hb : ∀ d, (s.setBoard { s.board with pulseLeft := 0 }).clientLinesOf d = s.clientLinesOf d := fun _ => rfl
  revert c
  unfold boardPulseExpires clients
  apply eachClient <;> simp [releaseLine_clientLinesOf, hb]

theorem boardPulseExpires_board (s : State) : (boardPulseExpires s).board = { s.board with pulseLeft := 0 } :=
  foldl_keeps releaseLine State.board (fun s c => by simp) _ _

/-- Settles O34: each expiry command at its due moment, by what the expiry of its timer does. -/
theorem timersEndWithTheirEffects : Obligations.TimersEndWithTheirEffects := by
  refine ⟨fun c k s u w h hu hw => ?_, fun c s u h hu => next_expiryCommand_of_due h hu, fun s u h hu => ?_,
    fun s u h hu => next_expiryCommand_of_due h hu, fun c s u h hu => next_expiryCommand_of_due h hu⟩
  · rw [← timerKey_eq, ← offerTimerEvent_eq] at hw
    rw [hw, ← contextTimerExpires_eq]
    exact next_expiryCommand_of_due h hu
  · exact ⟨boardPulseExpires u, next_expiryCommand_of_due h hu, boardPulseExpires_board u,
      boardPulseExpires_clientLinesOf u, by simp, by simp, by simp, by simp⟩

end Sys2Proof.Laws
end

section
/-! PROOF. The seven laws hold of a hub fresh from a reset (R175; log entry 9). -/

namespace Sys2Proof.Laws

open Sys2Proof.Machine Sys2Proof.Safety

/-! ## The laws of a hub that holds nothing -/

theorem queueLaw_of_empty {s : State} (hr : ∀ i, s.record i = none) (hq : ∀ c, s.queue c = [])
    (hg : ∀ c, (s.presentationOf c).gateOpen = true) (hs : ∀ c, (s.contextsOf c).suspended = none) : QueueLaw s := by
  refine ⟨⟨fun c => ⟨?_, fun i => ⟨fun hi => ?_, ?_⟩⟩, ?_, fun c => ⟨fun hc => ?_, ?_⟩, fun c h => ⟨fun hc => ?_, ?_⟩,
    fun c _ => hs c, ?_⟩, ?_⟩
  · rw [hq]; exact List.nodup_nil
  · rw [hq] at hi; cases hi
  · rintro ⟨r, h, -⟩
    rw [hr] at h; cases h
  · intro i j ri rj h
    rw [hr] at h; cases h
  · rw [hg] at hc; cases hc
  · rintro ⟨i, r, h, -⟩
    rw [hr] at h; cases h
  · rw [hs] at hc; cases hc
  · rintro ⟨-, r, h', -⟩
    rw [hr] at h'; cases h'
  · intro i r h
    rw [hr] at h; cases h
  · intro c i j ri rj hi
    rw [hq] at hi; cases hi

theorem postLaw_of_empty {s : State} (hr : ∀ i, s.record i = none) (hp : ∀ c n, (s.postsOf c).slots.get n = .empty) :
    PostLaw s := by
  intro p n t h
  rw [hp]
  constructor
  · rintro (e | e) <;> cases e
  · rintro ⟨-, r, e, -⟩
    rw [hr] at e; cases e

theorem groupLaw_of_empty {s : State} (hr : ∀ i, s.record i = none) (hg : ∀ g, s.groups.get g = none) : GroupLaw s := by
  refine ⟨fun g x e => ?_, fun g _ i r e => ?_, fun g i j ri rj e => ?_⟩
  · rw [hg] at e; cases e
  · rw [hr] at e; cases e
  · rw [hr] at e; cases e

theorem healthLaw_of_healthy {s : State} (h : ∀ c, s.healthOf c = ⟨0, .healthy, 0, 0⟩) : HealthLaw s := by
  intro c
  rw [h c]
  exact ⟨fun _ => ⟨Nat.zero_le _, rfl⟩, nofun, nofun⟩

/-! ## Power-on and board reset -/

section FreshHub

variable (pins : PinLevels) (raw : LineNo → Bool) (board : BoardLines) (cause : CauseRecord) (note : BitVec 32)
  (resetInput : Bool) (pending : List Instr)

theorem hubReset_record (i : RecIndex) : (hubReset pins raw board cause note resetInput pending).record i = none := by
  simp [hubReset, State.reset, State.record, State.slot, slotAtReset]

theorem hubReset_link (c : Client) : (hubReset pins raw board cause note resetInput pending).link c = linkAtReset := by
  simp [hubReset, State.reset, State.link]

/-- The laws hold of a hub fresh from a reset: it holds no record, no event and no frame, and every client is HEALTHY. -/
theorem laws_hubReset : IntakeLaw (hubReset pins raw board cause note resetInput pending) ∧
    LinkLaw (hubReset pins raw board cause note resetInput pending) ∧
    SupervisorLaw (hubReset pins raw board cause note resetInput pending) ∧
    QueueLaw (hubReset pins raw board cause note resetInput pending) ∧
    PostLaw (hubReset pins raw board cause note resetInput pending) ∧
    GroupLaw (hubReset pins raw board cause note resetInput pending) ∧
    HealthLaw (hubReset pins raw board cause note resetInput pending) := by
  have hr := hubReset_record pins raw board cause note resetInput pending
  refine ⟨hubReset_intakeLaw .., fun c => ?_, ?_, queueLaw_of_empty hr ?_ ?_ ?_, postLaw_of_empty hr ?_,
    groupLaw_of_empty hr ?_, healthLaw_of_healthy ?_⟩
  · rw [hubReset_link]
    exact ⟨Nat.zero_le _, List.nodup_nil⟩
  · simp [SupervisorLaw, hubReset, supervisorAtReset, privilegesAtReset]
  · simp [hubReset, State.reset, State.queue]
  · simp [hubReset, State.reset, State.presentationOf, presentationAtReset]
  · simp [hubReset, State.reset, State.contextsOf, contextsAtReset]
  · simp [hubReset, State.reset, State.postsOf, postsAtReset]
  · simp [hubReset, State.reset]
  · simp [hubReset, State.reset, State.healthOf, healthAtReset]

/-- A hub fresh from a reset begins no transmission and enters no SLEEP. -/
theorem settle_hubReset : settle (hubReset pins raw board cause note resetInput pending) =
    hubReset pins raw board cause note resetInput pending := by
  have hq : ∀ c, ((hubReset pins raw board cause note resetInput pending).link c).quiet = true := fun c => by
    rw [hubReset_link]; rfl
  have hm : sleepReady (hubReset pins raw board cause note resetInput pending) = false := rfl
  unfold settle
  rw [beginAll_of_quiet hq]
  unfold enterSleep
  rw [hm]
  rfl

end FreshHub

theorem reset_eq_hubReset : State.reset =
    hubReset strapsOfReset (fun _ => false) (boardLinesAtReset false 0) ⟨.powerOn, none, 0⟩ 0 false [] := rfl

/-- Settles O60: State.reset is a fresh hub, and so is what every POWER_ON leaves. -/
theorem lawsHoldAtReset : Obligations.LawsHoldAtReset := by
  refine ⟨reset_eq_hubReset ▸ laws_hubReset .., fun pins raw s t e => ?_⟩
  have ht : t = powerOnReset pins raw s := by
    injection e with e
    rw [← e]
    exact settle_hubReset ..
  rw [ht]
  exact laws_hubReset ..

end Sys2Proof.Laws
end

section
/-! PROOF. Field lines: the debounce of the raw level (R18), activations and deactivations by mode and latch (R19, R20, R23 to R25, R27),
the re-raise of a LEVEL line (R22, R26), and LINE_SET (R28, R29). -/

namespace Sys2Proof.Laws

open Sys2Proof.Machine Sys2Proof.Safety

theorem line_setLine (s : State) (l : LineNo) (x : Line) : (s.setLine l x).line l = x := Table.get_set_same ..

/-! ## A change of activity -/

theorem activityChange_same {l : LineNo} {before : Bool} {s : State} (h : (s.line l).active = before) :
    activityChange l before s = s := by
  unfold activityChange
  rw [if_pos h]

theorem activityChange_rise {l : LineNo} {s : State} (h : (s.line l).active = true) :
    activityChange l false s = activation l s := by
  unfold activityChange
  simp [h]

theorem activityChange_fall {l : LineNo} {s : State} (h : (s.line l).active = false) :
    activityChange l true s = deactivation l s := by
  unfold activityChange
  simp [h]

/-! ## The debounce of the raw level (R18) -/

/-- The level a line accepts is the raw one, from whatever raw level it was last given. -/
theorem acceptLevel_setLine_raw (l : LineNo) (v : Bool) (s : State) :
    acceptLevel l (s.setLine l { s.line l with raw := v }) =
      activityChange l (s.line l).active (s.setLine l { s.line l with raw := v, accepted := v, debounceLeft := 0 }) := by
  unfold acceptLevel
  simp only [line_setLine, setLine_setLine]
  rfl

theorem changeRawLevel_eq (l : LineNo) (v : Bool) (s : State) : changeRawLevel l v s =
    if v = (s.line l).raw then s
    else if v = (s.line l).accepted then s.setLine l { s.line l with raw := v, debounceLeft := 0 }
    else if (s.line l).debounceLeft ≠ 0 then s.setLine l { s.line l with raw := v }
    else if (s.line l).config.debounce ≠ 0 then
      s.setLine l { s.line l with raw := v, debounceLeft := (s.line l).config.debounce }
    else activityChange l (s.line l).active
      (s.setLine l { s.line l with raw := v, accepted := v, debounceLeft := 0 }) := by
  unfold changeRawLevel
  dsimp only
  rw [acceptLevel_setLine_raw, ite_not (p := (s.line l).config.debounce = 0)]
  simp only [eq_comm (a := v) (b := (s.line l).raw)]

/-- Settles O6: a raw change by the branches of R18, and the expiry at its due moment. -/
theorem debounceFollowsTheRawLevel : Obligations.DebounceFollowsTheRawLevel := by
  refine ⟨fun l v s => ?_, fun l s u h hu => next_expiryCommand_of_due h hu⟩
  rw [← changeRawLevel_eq]
  rfl

/-! ## Raising an event -/

theorem raiseIfArmed_armed {l : LineNo} {s : State} (h : (s.line l).latch = .armed) : raiseIfArmed l s = raiseLine l s := by
  unfold raiseIfArmed
  rw [h]

theorem raiseIfArmed_merged {l : LineNo} {s : State} (h : (s.line l).latch ≠ .armed) : raiseIfArmed l s = s := by
  unfold raiseIfArmed
  split
  · rename_i ha; exact absurd ha h
  · rfl
  · rfl

theorem placeLineEvent_of_place {s : State} (h : s.intake.length < 16) (l : LineNo) (d : Descriptor) :
    placeLineEvent l d s = (s.setIntake (s.intake ++ [d])).setLine l
      { s.line l with latch := .outstanding, queued := (s.line l).queued + 1 } := by
  unfold placeLineEvent
  rw [intakeFull_false.2 h]
  rfl

theorem placeLineEvent_of_full {s : State} (h : 16 ≤ s.intake.length) (l : LineNo) (d : Descriptor) :
    placeLineEvent l d s = s.setLine l { s.line l with latch := .pending d } := by
  unfold placeLineEvent
  rw [if_pos (intakeFull_iff.2 h)]

/-! ## Activations and deactivations by mode -/

theorem activation_disabled {l : LineNo} {s : State} (h : (s.line l).config.mode = .disabled) : activation l s = s := by
  unfold activation
  rw [h]

theorem activation_masked {l : LineNo} {s : State} (h : (s.line l).config.mode = .groupEdge) (hb : groupBusy l s = true) :
    activation l s = s.setMasked (lineGroup l) (min 255 (s.masked.get (lineGroup l) + 1)) := by
  unfold activation
  rw [h]
  exact if_pos hb

/-- A line that is not DISABLED raises if ARMED, unless its activation is masked (R23, R24, R27). -/
theorem activation_unmasked {l : LineNo} {s : State} (h : (s.line l).config.mode ≠ .disabled)
    (hb : (s.line l).config.mode = .groupEdge → groupBusy l s = false) : activation l s = raiseIfArmed l s := by
  unfold activation
  cases hm : (s.line l).config.mode with
  | disabled => exact absurd hm h
  | edge => rfl
  | level => rfl
  | groupEdge => exact if_neg (Bool.eq_false_iff.1 (hb hm))

theorem deactivation_not_level {l : LineNo} {s : State} (h : (s.line l).config.mode ≠ .level) : deactivation l s = s := by
  unfold deactivation rearmLevel
  exact if_neg fun x => h x.1

theorem deactivation_not_disposed {l : LineNo} {s : State} (h : (s.line l).disposed = false) : deactivation l s = s := by
  unfold deactivation rearmLevel
  refine if_neg ?_
  rintro ⟨-, -, hd, -⟩
  rw [h] at hd; cases hd

/-- Settles O7: an activation by mode, group and latch, the offer by the queue's places, and the change of activity by what the
line has become. -/
theorem activationsByModeAndLatch : Obligations.ActivationsByModeAndLatch := by
  refine ⟨fun l s => ⟨fun h => ?_, deactivation_not_level, fun h hb => ?_, fun h hb => ?_⟩, fun l d s => ⟨fun h => ?_, fun h => ?_⟩,
    fun l before s => ⟨activityChange_same, ?_, ?_⟩⟩
  · exact ⟨activation_disabled h, deactivation_not_level (by simp [h])⟩
  · exact activation_masked h ((groupBusy_iff l s).2 hb)
  · have hu : activation l s = raiseIfArmed l s := by
      refine activation_unmasked h fun hm => Bool.eq_false_iff.2 fun hbusy => ?_
      obtain ⟨m, hne, hg, hmm, ha⟩ := (groupBusy_iff l s).1 hbusy
      rw [hb hm m hne hg hmm] at ha; cases ha
    rw [hu]
    exact ⟨raiseIfArmed_merged, raiseIfArmed_armed⟩
  · unfold offerLineEvent
    rw [placeLineEvent_of_place h]
  · unfold offerLineEvent
    rw [placeLineEvent_of_full h]
  · rintro h rfl
    exact activityChange_rise h
  · rintro h rfl
    exact activityChange_fall h

/-! ## A LEVEL line after its event is disposed of (R22, R25, R26) -/

theorem rearmLevel_rearms {l : LineNo} {s : State} (hm : (s.line l).config.mode = .level) (ho : (s.line l).latch = .outstanding)
    (hd : (s.line l).disposed = true) (ha : (s.line l).active = false) :
    rearmLevel l s = s.setLine l { s.line l with latch := .armed, disposed := false } := by
  unfold rearmLevel
  exact if_pos ⟨hm, ho, hd, ha⟩

/-- The report sets the mark of a LEVEL line whose event has been taken; the line then re-arms, re-raises or waits. -/
theorem lineDisposed_level {l : LineNo} {s : State} (hm : (s.line l).config.mode = .level)
    (ho : (s.line l).latch = .outstanding) (hq : (s.line l).queued = 0) : lineDisposed l s =
      if (s.line l).active = false then rearmLevel l (s.setLine l { s.line l with disposed := true })
      else if (s.line l).repeatLeft = 0 then raiseWithin l (s.setLine l { s.line l with disposed := true })
      else s.setLine l { s.line l with disposed := true } := by
  unfold lineDisposed
  exact if_pos ⟨hm, ho, hq⟩

theorem lineDisposed_ignored {l : LineNo} {s : State}
    (h : (s.line l).config.mode ≠ .level ∨ (s.line l).latch ≠ .outstanding ∨ (s.line l).queued ≠ 0) : lineDisposed l s = s := by
  unfold lineDisposed
  refine if_neg ?_
  rintro ⟨hm, ho, hq⟩
  rcases h with h | h | h
  · exact h hm
  · exact h ho
  · exact h hq

/-- A repeat timer that runs out re-raises a LEVEL line that is OUTSTANDING, disposed and active (R26). -/
theorem repeatRunsOut_eq (l : LineNo) (s : State) : repeatRunsOut l s =
    if (s.line l).config.mode = .level ∧ (s.line l).latch = .outstanding ∧ (s.line l).disposed = true ∧
        (s.line l).active = true then
      raiseLine l (s.setLine l { s.line l with repeatLeft := 0 })
    else s.setLine l { s.line l with repeatLeft := 0 } := by
  unfold repeatRunsOut reRaise
  simp only [line_setLine, and_true]
  rfl

theorem rouse_asleep {s : State} (h : s.sup.mode = .sleep) : rouse s = setMode .run s := if_pos h

theorem wakeHub_asleep {s : State} (h : s.sup.mode = .sleep) : wakeHub s = examineAll (rouse s) := by
  unfold wakeHub completeWake
  exact if_pos ⟨h, by rw [rouse_asleep h]; rfl⟩

theorem examineAll_eq (s : State) : examineAll s = examine 3 (examine 2 (examine 1 (examine 0 s))) := by
  simp only [examineAll, clients, List.foldl_cons, List.foldl_nil]

/-- In SLEEP a raise within an operation lacks only the examinations that the wake makes (R181; log entry 39). -/
theorem raiseLine_asleep {s : State} (h : s.sup.mode = .sleep) (l : LineNo) :
    raiseLine l s = examine 3 (examine 2 (examine 1 (examine 0 (raiseWithin l s)))) := by
  unfold raiseLine offerLineEvent raiseWithin
  rw [wakeHub_asleep (by simpa using h), examineAll_eq]

theorem raiseWithin_asleep_sup {s : State} (h : s.sup.mode = .sleep) (l : LineNo) :
    (raiseWithin l s).sup = { s.sup with mode := .run } := by
  unfold raiseWithin
  rw [rouse_asleep (by simpa using h)]
  simp [setMode]

/-- Settles O8: the report and the deactivation by the branches of R25 and R26, the expiry at its due moment, and the re-raise by
the hub's mode. -/
theorem levelLineRearmsOrReRaises : Obligations.LevelLineRearmsOrReRaises := by
  refine ⟨fun l s hm ho => ⟨fun hq => ⟨fun ha => ?_, fun ha hr => ?_, fun ha hr => ?_⟩,
      fun hq => lineDisposed_ignored (.inr (.inr hq)), rearmLevel_rearms hm ho, deactivation_not_disposed⟩, fun l s u h hu => ?_,
    fun l s h => lineDisposed_ignored (h.imp_right .inl), fun l s => ⟨fun h => raiseWithin_awake h l, fun h => ?_⟩⟩
  · rw [lineDisposed_level hm ho hq, if_pos ha, rearmLevel_rearms]
    · simp only [line_setLine, setLine_setLine]
    · rw [line_setLine]; exact hm
    · rw [line_setLine]; exact ho
    · rw [line_setLine]
    · rw [line_setLine]; exact ha
  · rw [lineDisposed_level hm ho hq, if_neg (by simp [ha]), if_pos hr]
  · rw [lineDisposed_level hm ho hq, if_neg (by simp [ha]), if_neg hr]
  · rw [← repeatRunsOut_eq]
    exact next_expiryCommand_of_due h hu
  · refine ⟨raiseLine_asleep h l, raiseWithin_asleep_sup h l, ?_, ?_, ?_⟩ <;> intro x <;>
      simp [raiseWithin, State.queue, State.slot, State.link]

/-! ## LINE_SET (R28, R29) -/

/-- The first failing check of a configuration request whose payload reads (R166). -/
theorem outcomeOf_configure_some {α : Type} (c : Client) (q : Request) (u : State) {fields : Option α} {x : α}
    (h : fields = some x) (rest : α → Answer) : outcomeOf c q (configure c fields u rest) =
      judged c q u [(!holds u c .configure, .denied), (u.sup.frozen, .frozen), (!u.attached c, .detached)]
        (outcomeOf c q (rest x)) := by
  unfold configure
  rw [h, outcomeOf_withPrivilege, outcomeOf_unlessFrozen, outcomeOf_withFields_some, outcomeOf_whileAttached]
  simp only [judged_cons, judged_nil]
  cases holds u c .configure
  · rfl
  · cases u.attached c <;> rfl

theorem outcomeOf_configure_none {α : Type} (c : Client) (q : Request) (u : State) {fields : Option α}
    (h : fields = none) (rest : α → Answer) : outcomeOf c q (configure c fields u rest) =
      judged c q u [(!holds u c .configure, .denied), (u.sup.frozen, .frozen)] (replied c q .badField [] u) := by
  unfold configure
  rw [h, outcomeOf_withPrivilege, outcomeOf_unlessFrozen, outcomeOf_withFields_none]
  simp only [judged_cons, judged_nil]
  cases holds u c .configure <;> rfl

/-- A line whose running debounce timer is given the time of its configuration, less the time already run under `old`; with nothing
left it accepts the raw level (R29 step 3). -/
def debounceRetimed (old : LineConfig) (x : Line) : Line :=
  { x with
    debounceLeft := if x.debounceLeft = 0 then 0 else x.config.debounce - (old.debounce - x.debounceLeft)
    accepted := if x.debounceLeft ≠ 0 ∧ x.config.debounce - (old.debounce - x.debounceLeft) = 0 then x.raw else x.accepted }

theorem lineRetimeDebounce_eq (l : LineNo) (old : LineConfig) (s : State) :
    lineRetimeDebounce l old s = s.setLine l (debounceRetimed old (s.line l)) := by
  unfold lineRetimeDebounce debounceRetimed retimed
  dsimp only
  by_cases h : (s.line l).debounceLeft = 0
  · rw [if_pos h, if_pos h, if_neg fun x => x.1 h, ← h, setLine_self]
  · simp only [h, if_false, ne_eq, not_false_eq_true, true_and]

theorem lineRetimeRepeat_idle {l : LineNo} {s : State} (h : (s.line l).repeatLeft = 0) (old : LineConfig) :
    lineRetimeRepeat l old s = s := if_pos h

/-- A running repeat timer under its new interval: one left with nothing runs out, with the re-raise of R26 (R29 step 3). -/
theorem lineRetimeRepeat_eq (l : LineNo) (old : LineConfig) {s v : State} {x : Line}
    (hx : x = { s.line l with repeatLeft := if (s.line l).repeatLeft = 0 then 0
      else (s.line l).config.interval - (old.interval - (s.line l).repeatLeft) })
    (hv : v = s.setLine l x) : lineRetimeRepeat l old s =
      if (s.line l).repeatLeft ≠ 0 ∧ x.repeatLeft = 0 ∧ x.config.mode = .level ∧ x.latch = .outstanding ∧
          x.disposed = true ∧ x.active = true then raiseLine l v else v := by
  subst hv hx
  by_cases h : (s.line l).repeatLeft = 0
  · rw [lineRetimeRepeat_idle h, if_neg fun y => y.1 h, if_pos h, ← h, setLine_self]
  · unfold lineRetimeRepeat retimed
    dsimp only
    rw [if_neg h, if_neg h]
    by_cases hz : (s.line l).config.interval - (old.interval - (s.line l).repeatLeft) = 0
    · rw [if_pos hz, repeatRunsOut_eq, hz]
      simp only [ne_eq, h, not_false_eq_true, true_and]
      rfl
    · rw [if_neg hz, if_neg fun y => hz y.2.1]

theorem line_newlyConfigured (l : LineNo) (cfg : LineConfig) (clear : Bool) (s : State) :
    (newlyConfigured l cfg clear s).line l = { s.line l with config := cfg } := line_setLine ..

theorem setLine_newlyConfigured (l : LineNo) (cfg : LineConfig) (clear : Bool) (s : State) (x : Line) :
    (newlyConfigured l cfg clear s).setLine l x = (if clear then s.setMasked (lineGroup l) 0 else s).setLine l x :=
  setLine_setLine ..

/-- A line under a configuration of another mode (R29 steps 1 and 2). -/
def inNewMode (cfg : LineConfig) (x : Line) : Line :=
  { x with config := cfg, latch := .armed, disposed := false, repeatLeft := 0 }

theorem retimeLine_new_mode (l : LineNo) (cfg : LineConfig) (clear : Bool) (s : State) :
    retimeLine l (s.line l).config (lineModeChange l (newlyConfigured l cfg clear s)) =
      (if clear then s.setMasked (lineGroup l) 0 else s).setLine l
        (debounceRetimed (s.line l).config (inNewMode cfg (s.line l))) := by
  unfold retimeLine lineModeChange
  rw [lineRetimeDebounce_eq, lineRetimeRepeat_idle] <;>
    simp only [line_setLine, setLine_setLine, line_newlyConfigured, setLine_newlyConfigured]
  · rfl
  · rfl

/-- The level is accepted exactly where a running debounce timer is left with nothing. -/
theorem debounceRetimed_accepted (old : LineConfig) (x : Line) : (debounceRetimed old x).accepted =
    if x.debounceLeft ≠ 0 ∧ (debounceRetimed old x).debounceLeft = 0 then x.raw else x.accepted := by
  unfold debounceRetimed
  by_cases h : x.debounceLeft = 0 <;> simp [h]

/-- The running timers of a line whose mode does not change (R29 step 3). -/
theorem retimeLine_same_mode (l : LineNo) (cfg : LineConfig) (clear : Bool) {s v : State} {x : Line}
    (hx : x = { debounceRetimed (s.line l).config { s.line l with config := cfg } with
      repeatLeft := if (s.line l).repeatLeft = 0 then 0
        else cfg.interval - ((s.line l).config.interval - (s.line l).repeatLeft) })
    (hv : v = (if clear then s.setMasked (lineGroup l) 0 else s).setLine l x) :
    retimeLine l (s.line l).config (newlyConfigured l cfg clear s) =
      if (s.line l).repeatLeft ≠ 0 ∧ x.repeatLeft = 0 ∧ x.config.mode = .level ∧ x.latch = .outstanding ∧
          x.disposed = true ∧ x.active = true then raiseLine l v else v := by
  unfold retimeLine
  rw [lineRetimeDebounce_eq, line_newlyConfigured, setLine_newlyConfigured, lineRetimeRepeat_eq (x := x) (v := v), line_setLine]
  · rfl
  · rw [hx, line_setLine]; rfl
  · rw [hv, setLine_setLine]

/-- LINE_SET carries out the configuration it names (R28). -/
theorem ruleLineSet_eq (c : Client) (q : Request) (u : State) : ruleLineSet c q u =
    configure c (parseLineSet q.payload) u fun f => (configureLine f.line f.config f.clearGroup u, .ok,
      [byte ((configureLine f.line f.config f.clearGroup u).line f.line).latch.code]) := rfl

/-- Settles O9: the checks of R28 in their order, and the steps of R29 by whether the mode changes. -/
theorem lineSetReconfigures : Obligations.LineSetReconfigures := by
  refine ⟨fun s u c a q ht => ?_, fun l cfg clear s hm => ?_, fun l cfg clear s v x hm hx hv => ?_⟩
  · have he : exec (.lineSet c a) s = .next (outcomeOf c q (ruleLineSet c q u)) :=
      congrArg Host.Outcome.next (serve_of_takes (ruleLineSet c) ht)
    rw [he, ruleLineSet_eq]
    refine ⟨fun f hf hq => ?_, fun hq => ?_⟩
    · rw [outcomeOf_configure_some c q u ((parseLineSet_eq q.payload f).2 ⟨hf, hq⟩), outcomeOf_mk]
    · have hn : parseLineSet q.payload = none := Option.eq_none_iff_forall_ne_some.2 fun f hp => by
        obtain ⟨hf, hb⟩ := (parseLineSet_eq q.payload f).1 hp
        exact hq f hf hb
      rw [outcomeOf_configure_none c q u hn]
  · refine ⟨debounceRetimed (s.line l).config (inNewMode cfg (s.line l)), rfl, rfl, rfl, rfl, rfl, rfl, rfl,
      debounceRetimed_accepted .., ?_⟩
    rw [configureLine_of_new_mode clear hm (retimeLine_new_mode l cfg clear s).symm, line_setLine]
  · rw [configureLine_of_same_mode clear hm, retimeLine_same_mode l cfg clear hx hv]

end Sys2Proof.Laws
end

section
/-! PROOF. The requests that read (R30, R168, R169, R183): the payload decides, and the reply holds the fields of the table. -/

namespace Sys2Proof.Laws

open Sys2Proof.Machine Sys2Proof.Safety

/-! ## The fields of QUERY (R169) -/

theorem stageFields_none {s : State} {c : Client} (h : escOf s c = none) : stageFields s c = [0, 0, 0, 0] := by
  unfold escOf at h
  unfold stageFields
  rw [h]

theorem stageFields_some {s : State} {c : Client} {e : Escalation} (h : escOf s c = some e) : stageFields s c =
    [byte e.stage.code] ++ be16 e.left ++ [byte ((if e.expired then 1 else 0) + if e.asserting then 2 else 0)] := by
  unfold escOf at h
  unfold stageFields
  rw [h]
  rfl

theorem stageFields_length (s : State) (c : Client) : (stageFields s c).length = 4 := by
  cases h : escOf s c with
  | none => rw [stageFields_none h]; rfl
  | some e => rw [stageFields_some h]; rfl

theorem handleBytes_length (h : Option Handle) : (handleBytes h).length = 2 := by
  cases h <;> rfl

/-- A flag of a union, gathered place by place, is set when some place gives it. -/
theorem getLsbD_foldl {α : Type} {w : Nat} (g : BitVec w → α → BitVec w) (p : α → Bool) (n : Nat)
    (h : ∀ f a, (g f a).getLsbD n = (f.getLsbD n || p a)) (l : List α) (f : BitVec w) :
    (l.foldl g f).getLsbD n = (f.getLsbD n || l.any p) := by
  induction l generalizing f with
  | nil => simp
  | cons a l ih => rw [List.foldl_cons, ih, h, List.any_cons, Bool.or_assoc]

/-- Client c's record of a signal that it has been given, with flag `n` (R153). -/
def givenFlag (c : Client) (n : Nat) (r : Record) : Bool :=
  r.owner = c && r.key.isSignal && r.state ≠ .queued && r.flags.getLsbD n

theorem inDelivery_getLsbD (s : State) (c : Client) (n : Nat) :
    (inDelivery s c).getLsbD n = holdsRecord s (givenFlag c n) := by
  unfold inDelivery holdsRecord
  rw [getLsbD_foldl (p := fun x => x.held.any (givenFlag c n))]
  · simp
  · intro f x
    cases hx : x.held with
    | none => simp
    | some r =>
      simp only [Option.filter_some, Option.any_some, givenFlag]
      cases r.owner = c && r.key.isSignal && r.state ≠ .queued <;> simp

theorem inDelivery_iff (s : State) (c : Client) (n : Nat) : (inDelivery s c).getLsbD n = true ↔
    ∃ i r, s.record i = some r ∧ r.owner = c ∧ r.key.source = 41 ∧ r.state ≠ .queued ∧ r.flags.getLsbD n = true := by
  rw [inDelivery_getLsbD, holdsRecord_iff]
  simp only [givenFlag, Key.isSignal, Bool.and_eq_true, decide_eq_true_eq, and_assoc]

theorem table_data {n : Nat} {α : Type} (t : Table n α) : t.data = (List.finRange n).map t.get :=
  List.ext_getElem (by simp [t.size]) fun k h _ => by simp [Table.get]

theorem queryFields_length (s : State) (c : Client) : (queryFields s c).length = 29 := by
  simp [queryFields, healthFields, handleBytes_length, stageFields_length, be16, Table.size]

/-! ## The checks of a read -/

/-- A read whose payload reads is refused only to a client that is not attached (R140). -/
theorem outcomeOf_read_some {α : Type} (c : Client) (q : Request) (u : State) {fields : Option α} {x : α}
    (h : fields = some x) (res : α → List Byte) :
    outcomeOf c q (withFields fields u fun y => whileAttached c u (u, .ok, res y)) =
      judged c q u [(!u.attached c, .detached)] (replied c q .ok (res x) u) := by
  rw [h, outcomeOf_withFields_some, outcomeOf_whileAttached, judged_cons, judged_nil, outcomeOf_mk]
  cases u.attached c <;> rfl

theorem outcomeOf_fields_none {α : Type} (c : Client) (q : Request) (u : State) {fields : Option α}
    (h : ∀ x, fields ≠ some x) (rest : α → Answer) :
    outcomeOf c q (withFields fields u rest) = replied c q .badField [] u := by
  rw [Option.eq_none_iff_forall_ne_some.2 h, outcomeOf_withFields_none]

theorem parseEmpty_ne {p : List Byte} (h : p ≠ []) (x : Unit) : parseEmpty p ≠ some x := fun e => h ((parseEmpty_eq p x).1 e)

theorem parseIndex_ne {n : Nat} (hn : n ≤ 256) {p : List Byte} (h : ∀ x : Fin n, p ≠ [byte x.val]) (x : Fin n) :
    parseIndex n p ≠ some x := fun e => h x ((parseIndex_eq hn p x).1 e)

/-! ## The four reads -/

section Reads

variable {s u : State} {c : Client} {a : Arrival} {q : Request}

theorem exec_query (ht : Takes s c .query a q u) :
    exec (.query c a) s = .next (outcomeOf c q (withFields (parseEmpty q.payload) u fun _ => (u, .ok, queryFields u c))) :=
  congrArg Host.Outcome.next (serve_of_takes (ruleQuery c) ht)

theorem exec_lineRead (ht : Takes s c .lineRead a q u) : exec (.lineRead c a) s = .next (outcomeOf c q
    (withFields (parseIndex 24 q.payload) u fun l => whileAttached c u (u, .ok, lineReadFields u l))) :=
  congrArg Host.Outcome.next (serve_of_takes (ruleLineRead c) ht)

theorem exec_clientRead (ht : Takes s c .clientRead a q u) : exec (.clientRead c a) s = .next (outcomeOf c q
    (withFields (parseIndex 4 q.payload) u fun d => whileAttached c u (u, .ok, clientReadFields u d))) :=
  congrArg Host.Outcome.next (serve_of_takes (ruleClientRead c) ht)

theorem exec_status (ht : Takes s c .status a q u) : exec (.status c a) s = .next (outcomeOf c q
    (withFields (parseEmpty q.payload) u fun _ => whileAttached c u (u, .ok, statusFields u))) :=
  congrArg Host.Outcome.next (serve_of_takes (ruleStatus c) ht)

end Reads

/-- Settles O50: each read by whether its payload reads, with the fields of its table, and the numbers of the named values. -/
theorem readsReportTheirTables : Obligations.ReadsReportTheirTables := by
  refine ⟨fun s u c a q ht => ⟨fun hq => ?_, fun hq => ?_⟩,
    ⟨fun s u c a q ht => ⟨fun hq => ?_, fun l x hq hx => ?_⟩, fun s u c a q ht => ⟨fun hq => ?_, fun d hq => ?_⟩,
      fun s u c a q ht => ⟨fun hq => ?_, fun hq => ?_⟩⟩, ?_⟩
  · rw [exec_query ht, outcomeOf_fields_none c q u (parseEmpty_ne hq)]
  · refine ⟨stageFields u c, inDelivery u c, queryFields u c, stageFields_none, fun e he => ?_,
      fun n _ => inDelivery_iff u c n, ?_, queryFields_length u c, ?_⟩
    · rw [stageFields_some he]
      cases e.stage <;> rfl
    · unfold queryFields
      rw [table_data]
      rfl
    · rw [exec_query ht, (parseEmpty_eq q.payload ()).2 hq, outcomeOf_withFields_some, outcomeOf_mk]
  · rw [exec_lineRead ht, outcomeOf_fields_none c q u (parseIndex_ne (by omega) hq)]
  · rw [exec_lineRead ht, outcomeOf_read_some c q u ((parseIndex_eq (by omega) q.payload l).2 hq), hx]
    rfl
  · rw [exec_clientRead ht, outcomeOf_fields_none c q u (parseIndex_ne (by omega) hq)]
  · rw [exec_clientRead ht, outcomeOf_read_some c q u ((parseIndex_eq (by omega) q.payload d).2 hq)]
    rfl
  · rw [exec_status ht, outcomeOf_fields_none c q u (parseEmpty_ne hq)]
  · rw [exec_status ht, outcomeOf_read_some c q u ((parseEmpty_eq q.payload ()).2 hq)]
    rfl
  · exact ⟨rfl, rfl, rfl, rfl, rfl, ⟨rfl, fun _ => rfl, rfl⟩, rfl, ⟨rfl, fun _ _ => ⟨rfl, rfl⟩⟩, rfl, rfl, rfl, rfl, rfl,
      rfl, fun _ => rfl⟩

end Sys2Proof.Laws
end

section
/-! PROOF. The law of FIRST groups (R47 to R49, R138): a copy is made, freed or handed over with its group's count, and no other
operation touches a copy or a group. -/

namespace Sys2Proof.Laws

open Sys2Proof.Machine Sys2Proof.Safety

/-! ## Copies -/

/-- The client and the group of a record that is a FIRST copy (R47). -/
def copyIn (r : Record) : Option (Client × GroupNo) :=
  match r.mode with
  | .first g => some (r.owner, g)
  | .each => none

/-- The copy at an index, told by its client and its group. -/
def copyAt (s : State) (i : RecIndex) : Option (Client × GroupNo) := (s.record i).bind copyIn

theorem copyIn_each {r : Record} (h : r.mode = .each) : copyIn r = none := by simp [copyIn, h]

theorem copyIn_first {r : Record} {g : GroupNo} (h : r.mode = .first g) : copyIn r = some (r.owner, g) := by simp [copyIn, h]

theorem copyIn_eq_some {r : Record} {c : Client} {g : GroupNo} :
    copyIn r = some (c, g) ↔ r.owner = c ∧ r.mode = .first g := by
  unfold copyIn
  cases r.mode <;> simp

theorem copyAt_of_record {s : State} {i : RecIndex} {r : Record} (h : s.record i = some r) : copyAt s i = copyIn r := by
  simp [copyAt, h]

theorem copyAt_of_free {s : State} {i : RecIndex} (h : s.record i = none) : copyAt s i = none := by simp [copyAt, h]

theorem copyAt_eq_some {s : State} {i : RecIndex} {c : Client} {g : GroupNo} :
    copyAt s i = some (c, g) ↔ ∃ r, s.record i = some r ∧ r.owner = c ∧ r.mode = .first g := by
  simp only [copyAt, Option.bind_eq_some_iff, copyIn_eq_some]

/-- What a record keeps while one client holds it tells its copy. -/
theorem copyAt_eq_holding (s : State) (i : RecIndex) : copyAt s i = (holding s i).bind fun p =>
    match p.2.2 with
    | .first g => some (p.1, g)
    | .each => none := by
  unfold copyAt holding
  cases s.record i <;> rfl

theorem copyAt_of_holding {s t : State} {i : RecIndex} (h : holding t i = holding s i) : copyAt t i = copyAt s i := by
  rw [copyAt_eq_holding, copyAt_eq_holding, h]

theorem copyAt_of_pool {s t : State} (h : t.pool = s.pool) : copyAt t = copyAt s := by
  funext i
  simp only [copyAt, State.record, State.slot, h]

theorem copyAt_framed {s t : State} {i : RecIndex} {v : Option (Client × GroupNo)} (h : copyAt s i = v)
    (hp : t.pool = s.pool) : copyAt t i = v := (congrFun (copyAt_of_pool hp) i).trans h

theorem copyAt_setSlot (s : State) (i : RecIndex) (v : PoolSlot) :
    copyAt (s.setSlot i v) = Function.update (copyAt s) i (v.held.bind copyIn) := by
  funext j
  by_cases hj : j = i
  · subst hj
    simp [copyAt, State.record, State.slot]
  · simp [copyAt, State.record, State.slot, Table.get_set_ne _ hj, hj]

theorem copyAt_setRecord (s : State) (i : RecIndex) (r : Record) :
    copyAt (s.setRecord i (some r)) = Function.update (copyAt s) i (copyIn r) := copyAt_setSlot s i _

theorem copyAt_setRecord_same {s : State} {i : RecIndex} {r : Record} (h : copyAt s i = copyIn r) :
    copyAt (s.setRecord i (some r)) = copyAt s := by rw [copyAt_setRecord, ← h, Function.update_eq_self]

/-- The indexes that hold a copy of group `g`. -/
def copies (s : State) (g : GroupNo) : Finset RecIndex := Finset.univ.filter fun i => ∃ c, copyAt s i = some (c, g)

theorem mem_copies {s : State} {g : GroupNo} {i : RecIndex} : i ∈ copies s g ↔ ∃ c, copyAt s i = some (c, g) := by
  simp [copies]

theorem any_first_iff {s : State} {g : GroupNo} {i : RecIndex} :
    ((s.record i).any fun r => r.mode = .first g) = true ↔ ∃ c, copyAt s i = some (c, g) := by
  simp [Option.any_eq_true, copyAt_eq_some]

/-- A group's live copy count, 0 for a FREE group. -/
def liveOf (s : State) (g : GroupNo) : Nat := ((s.groups.get g).map FirstGroup.live).getD 0

theorem liveOf_some {s : State} {g : GroupNo} {x : FirstGroup} (h : s.groups.get g = some x) : liveOf s g = x.live := by
  simp [liveOf, h]

theorem liveOf_none {s : State} {g : GroupNo} (h : s.groups.get g = none) : liveOf s g = 0 := by simp [liveOf, h]

theorem liveOf_setGroup (s : State) (g : GroupNo) (v : Option FirstGroup) :
    liveOf (s.setGroup g v) = Function.update (liveOf s) g ((v.map FirstGroup.live).getD 0) := by
  funext k
  by_cases hk : k = g
  · subst hk
    simp [liveOf]
  · simp [liveOf, Table.get_set_ne _ hk, hk]

/-- 1 for a copy of group `g`, 0 for any other and for none. -/
def ofGroup (v : Option (Client × GroupNo)) (g : GroupNo) : Nat := if v.map Prod.snd = some g then 1 else 0

@[simp] theorem ofGroup_none (g : GroupNo) : ofGroup none g = 0 := by simp [ofGroup]

@[simp] theorem ofGroup_some (c : Client) (k g : GroupNo) : ofGroup (some (c, k)) g = if k = g then 1 else 0 := by
  simp [ofGroup]

/-- The copies of a group are those at the other indexes, and the one at `i` if it is a copy of the group. -/
theorem copies_card (s : State) (g : GroupNo) (i : RecIndex) :
    (copies s g).card = ((copies s g).erase i).card + ofGroup (copyAt s i) g := by
  have hmem : i ∈ copies s g ↔ (copyAt s i).map Prod.snd = some g := by
    rw [mem_copies]
    cases copyAt s i <;> simp [Prod.ext_iff]
  unfold ofGroup
  split
  · rw [Finset.card_erase_add_one (hmem.2 ‹_›)]
  · rw [Finset.erase_eq_of_notMem fun hi => absurd (hmem.1 hi) ‹_›, Nat.add_zero]

/-! ## The law, while a routing forms a group -/

/-- The law of FIRST groups, but that the group a routing is forming may have no copy yet (R48). -/
structure GroupLawBut (forming : Option GroupNo) (s : State) : Prop where
  count : ∀ g, liveOf s g = (copies s g).card
  alive : ∀ g x, s.groups.get g = some x → some g ≠ forming → 1 ≤ x.live
  once : ∀ i j p, copyAt s i = some p → copyAt s j = some p → i = j

theorem groupLaw_iff {s : State} : GroupLaw s ↔ GroupLawBut none s := by
  have hc : ∀ g, (Finset.univ.filter fun i => ((s.record i).any fun r => r.mode = .first g) = true) = copies s g :=
    fun g => Finset.filter_congr fun i _ => any_first_iff
  constructor
  · rintro ⟨hin, hfree, hone⟩
    refine ⟨fun g => ?_, fun g x hx _ => (hin g x hx).1, fun i j p hi hj => ?_⟩
    · cases hx : s.groups.get g with
      | some x => rw [liveOf_some hx, (hin g x hx).2, hc]
      | none =>
        rw [liveOf_none hx, eq_comm, Finset.card_eq_zero, Finset.eq_empty_iff_forall_notMem]
        intro i hi
        obtain ⟨c, hi⟩ := mem_copies.1 hi
        obtain ⟨r, hr, -, hm⟩ := copyAt_eq_some.1 hi
        exact hfree g hx i r hr hm
    · obtain ⟨c, g⟩ := p
      obtain ⟨ri, hri, hoi, hmi⟩ := copyAt_eq_some.1 hi
      obtain ⟨rj, hrj, hoj, hmj⟩ := copyAt_eq_some.1 hj
      exact hone g i j ri rj hri hrj hmi hmj (hoi.trans hoj.symm)
  · rintro ⟨hcount, halive, honce⟩
    refine ⟨fun g x hx => ⟨halive g x hx nofun, ?_⟩, fun g hx i r hr hm => ?_, fun g i j ri rj hri hrj hmi hmj ho => ?_⟩
    · rw [hc, ← hcount, liveOf_some hx]
    · have h0 := hcount g
      rw [liveOf_none hx, eq_comm, Finset.card_eq_zero] at h0
      have hi : i ∈ copies s g := mem_copies.2 ⟨r.owner, copyAt_eq_some.2 ⟨r, hr, rfl, hm⟩⟩
      rw [h0] at hi
      cases hi
    · exact honce i j (ri.owner, g) (copyAt_eq_some.2 ⟨ri, hri, rfl, hmi⟩) (copyAt_eq_some.2 ⟨rj, hrj, ho.symm, hmj⟩)

namespace GroupLawBut

variable {o : Option GroupNo} {s t : State}

/-- The law reads the copies and the groups alone. -/
theorem same (h : GroupLawBut o s) (hc : copyAt t = copyAt s) (hg : t.groups = s.groups) : GroupLawBut o t := by
  have hl : liveOf t = liveOf s := by
    funext g
    simp only [liveOf, hg]
  have hs : copies t = copies s := by
    funext g
    simp only [copies, hc]
  exact ⟨fun g => by rw [hl, hs]; exact h.count g, fun g x hx => h.alive g x (hg ▸ hx), fun i j p hi hj =>
    h.once i j p (hc ▸ hi) (hc ▸ hj)⟩

theorem framed (h : GroupLawBut o s) (e : t.pool = s.pool ∧ t.groups = s.groups) : GroupLawBut o t :=
  h.same (copyAt_of_pool e.1) e.2

/-- The law of every group is the law of all but the one being formed. -/
theorem weaken (h : GroupLawBut none s) : GroupLawBut o s := ⟨h.count, fun g x hx _ => h.alive g x hx nofun, h.once⟩

/-- A group counts none exactly while no index holds a copy of it. -/
theorem liveOf_eq_zero (h : GroupLawBut o s) {g : GroupNo} : liveOf s g = 0 ↔ ∀ i c, copyAt s i ≠ some (c, g) := by
  rw [h.count, Finset.card_eq_zero, Finset.eq_empty_iff_forall_notMem]
  exact forall_congr' fun i => by rw [mem_copies, not_exists]

/-- The law of a state one of whose indexes has a new copy, or none. -/
theorem update (h : GroupLawBut o s) {i : RecIndex} {v : Option (Client × GroupNo)}
    (hc : copyAt t = Function.update (copyAt s) i v)
    (hcount : ∀ g, liveOf t g + ofGroup (copyAt s i) g = liveOf s g + ofGroup v g)
    (halive : ∀ g x, t.groups.get g = some x → some g ≠ o → 1 ≤ x.live)
    (honce : ∀ p, v = some p → ∀ j, copyAt s j ≠ some p) : GroupLawBut o t := by
  refine ⟨fun g => ?_, halive, fun j k p hj hk => ?_⟩
  · have hrest : (copies t g).erase i = (copies s g).erase i := by
      ext j
      simp only [Finset.mem_erase, mem_copies, hc]
      refine and_congr_right fun hj => ?_
      rw [Function.update_of_ne hj]
    have ht := copies_card t g i
    rw [hrest, show copyAt t i = v by rw [hc, Function.update_self]] at ht
    have hs := copies_card s g i
    have hlive := h.count g
    have hstep := hcount g
    omega
  · have hother : ∀ j k, j ≠ i → copyAt t j = some p → copyAt t k = some p → j = k := fun j k hji hj hk => by
      rw [hc, Function.update_of_ne hji] at hj
      by_cases hki : k = i
      · rw [hc, hki, Function.update_self] at hk
        exact absurd hj (honce p hk j)
      · rw [hc, Function.update_of_ne hki] at hk
        exact h.once j k p hj hk
    by_cases hji : j = i
    · by_cases hki : k = i
      · rw [hji, hki]
      · exact (hother k j hki hk hj).symm
    · exact hother j k hji hj hk

end GroupLawBut

section Operations

variable {o : Option GroupNo} {s : State}

/-! ## Examinations, wakes and lines -/

theorem examine_copyAt (c : Client) (s : State) : copyAt (examine c s) = copyAt s :=
  funext fun i => copyAt_of_holding (congrFun (examine_holding c s) i)

theorem examine_groupLaw (h : GroupLawBut o s) (c : Client) : GroupLawBut o (examine c s) :=
  h.same (examine_copyAt c s) (by simp)

theorem completeWake_groupLaw (h : GroupLawBut o s) (m : HubMode) : GroupLawBut o (completeWake m s) :=
  h.same (funext fun i => copyAt_of_holding (congrFun (completeWake_holding m s) i)) (by simp)

theorem examineAll_groupLaw (h : GroupLawBut o s) : GroupLawBut o (examineAll s) :=
  List.foldlRecOn _ _ h fun _ hu c _ => examine_groupLaw hu c

theorem openGate_groupLaw (h : GroupLawBut o s) (c : Client) : GroupLawBut o (openGate c s) :=
  examine_groupLaw (h.framed (by simp)) c

theorem wakeHub_groupLaw (h : GroupLawBut o s) : GroupLawBut o (wakeHub s) :=
  completeWake_groupLaw (h.framed (by simp)) _

theorem raiseLine_groupLaw (h : GroupLawBut o s) (l : LineNo) : GroupLawBut o (raiseLine l s) :=
  wakeHub_groupLaw (h.framed (by simp))

theorem raiseIfArmed_groupLaw (h : GroupLawBut o s) (l : LineNo) : GroupLawBut o (raiseIfArmed l s) := by
  unfold raiseIfArmed
  split
  · exact raiseLine_groupLaw h l
  · exact h
  · exact h

theorem activation_groupLaw (h : GroupLawBut o s) (l : LineNo) : GroupLawBut o (activation l s) := by
  unfold activation
  split
  · exact h
  · exact raiseIfArmed_groupLaw h l
  · exact raiseIfArmed_groupLaw h l
  · split
    · exact h.framed (by simp)
    · exact raiseIfArmed_groupLaw h l

theorem activityChange_groupLaw (h : GroupLawBut o s) (l : LineNo) (before : Bool) :
    GroupLawBut o (activityChange l before s) := by
  unfold activityChange
  split
  · exact h
  · split
    · exact h.framed (by simp)
    · exact activation_groupLaw h l

theorem acceptLevel_groupLaw (h : GroupLawBut o s) (l : LineNo) : GroupLawBut o (acceptLevel l s) :=
  activityChange_groupLaw (h.framed (by simp)) l _

theorem changeRawLevel_groupLaw (h : GroupLawBut o s) (l : LineNo) (v : Bool) : GroupLawBut o (changeRawLevel l v s) := by
  unfold changeRawLevel
  dsimp only
  split
  · exact h
  · split
    · exact h.framed (by simp)
    · split
      · exact h.framed (by simp)
      · split
        · exact acceptLevel_groupLaw (h.framed (by simp)) l
        · exact h.framed (by simp)

theorem repeatRunsOut_groupLaw (h : GroupLawBut o s) (l : LineNo) : GroupLawBut o (repeatRunsOut l s) := by
  unfold repeatRunsOut reRaise
  dsimp only
  split
  · exact raiseLine_groupLaw (h.framed (by simp)) l
  · exact h.framed (by simp)

theorem retimeLine_groupLaw (h : GroupLawBut o s) (l : LineNo) (old : LineConfig) : GroupLawBut o (retimeLine l old s) := by
  have hd : GroupLawBut o (lineRetimeDebounce l old s) := h.framed (by simp)
  unfold retimeLine lineRetimeRepeat
  dsimp only
  split
  · exact hd
  · split
    · exact repeatRunsOut_groupLaw hd l
    · exact hd.framed (by simp)

theorem newlyConfigured_groupLaw (h : GroupLawBut o s) (l : LineNo) (cfg : LineConfig) (clear : Bool) :
    GroupLawBut o (newlyConfigured l cfg clear s) := by
  unfold newlyConfigured
  split <;> exact h.framed (by simp)

theorem configureLine_groupLaw (h : GroupLawBut o s) (l : LineNo) (cfg : LineConfig) (clear : Bool) :
    GroupLawBut o (configureLine l cfg clear s) := by
  have h0 := newlyConfigured_groupLaw h l cfg clear
  by_cases hm : cfg.mode = (s.line l).config.mode
  · rw [configureLine_of_same_mode clear hm]
    exact activityChange_groupLaw (retimeLine_groupLaw h0 l _) l _
  · have hv : GroupLawBut o (retimeLine l (s.line l).config (lineModeChange l (newlyConfigured l cfg clear s))) :=
      retimeLine_groupLaw (h0.framed (by simp)) l _
    rw [configureLine_of_new_mode clear hm rfl]
    split
    · exact raiseLine_groupLaw hv l
    · exact hv

/-! ## A record that changes, and stays the copy it is -/

theorem setRecord_groupLaw (h : GroupLawBut o s) {i : RecIndex} {r : Record} (hi : copyAt s i = copyIn r) :
    GroupLawBut o (s.setRecord i (some r)) := h.same (copyAt_setRecord_same hi) rfl

theorem copyAt_of_heldIn {c : Client} {st : RecState} {i : RecIndex} {r : Record} (e : heldIn s c st = some (i, r)) :
    copyAt s i = copyIn r := by
  obtain ⟨-, hr, -, -⟩ := heldIn_some e
  exact copyAt_of_record hr

theorem suspend_copyAt (c : Client) {i : RecIndex} {r : Record} (hi : copyAt s i = copyIn r) :
    copyAt (suspend c i r s) = copyAt s := by
  have hr : copyAt ((setAttention c false s).setRecord i (some { r with state := .suspended })) = copyAt s :=
    copyAt_setRecord_same hi
  unfold suspend
  exact (copyAt_of_pool (by simp)).trans hr

theorem exchangeToService_copyAt (c : Client) (cause : ContextCause) (s : State) :
    copyAt (exchangeToService c cause s) = copyAt s := by
  unfold exchangeToService
  split
  · rename_i i r e
    have hs : copyAt (suspend c i r s) = copyAt s := suspend_copyAt c (copyAt_of_heldIn e)
    unfold openGate
    rw [examine_copyAt, ← hs]
    exact copyAt_of_pool (by simp)
  · rw [examine_copyAt]
    exact copyAt_of_pool (by simp)

theorem ctxExamine_copyAt (c : Client) (s : State) : copyAt (ctxExamine c s) = copyAt s := by
  unfold ctxExamine
  split
  · exact exchangeToService_copyAt c .forced s
  · rfl

theorem exchangeToService_groupLaw (h : GroupLawBut o s) (c : Client) (cause : ContextCause) :
    GroupLawBut o (exchangeToService c cause s) := h.same (exchangeToService_copyAt c cause s) (by simp)

theorem ctxExamine_groupLaw (h : GroupLawBut o s) (c : Client) : GroupLawBut o (ctxExamine c s) :=
  h.same (ctxExamine_copyAt c s) (by simp)

/-- What a record's entry into a queue leads to moves no copy (R59, R109). -/
theorem entered_copyAt (c : Client) (s : State) : copyAt (entered c s) = copyAt s :=
  (examine_copyAt c _).trans (ctxExamine_copyAt c s)

theorem entered_groupLaw (h : GroupLawBut o s) (c : Client) : GroupLawBut o (entered c s) :=
  h.same (entered_copyAt c s) (by simp)

theorem foldInto_copyAt {i : RecIndex} {r : Record} (hi : copyAt s i = copyIn r) (count : Nat) (p : Priority) (u : Bool) :
    copyAt (foldInto i r count p u s) = copyAt s := by
  have hr : copyAt (s.setRecord i (some { r with
      count := satAdd 255 r.count count, priority := max r.priority p, urgent := r.urgent || u })) = copyAt s :=
    copyAt_setRecord_same hi
  unfold foldInto
  dsimp only
  split
  · exact (copyAt_of_pool (by simp)).trans hr
  · exact hr

theorem foldInto_groupLaw (h : GroupLawBut o s) {i : RecIndex} {r : Record} (hi : copyAt s i = copyIn r) (count : Nat)
    (p : Priority) (u : Bool) : GroupLawBut o (foldInto i r count p u s) := h.same (foldInto_copyAt hi count p u) (by simp)

theorem coalesce_groupLaw (h : GroupLawBut o s) {i : RecIndex} {r : Record} (hi : copyAt s i = copyIn r) (p : Priority)
    (u : Bool) : GroupLawBut o (coalesce i r p u s) := by
  unfold coalesce
  dsimp only
  split
  · exact entered_groupLaw (foldInto_groupLaw h hi 1 p u) _
  · exact foldInto_groupLaw h hi 1 p u

/-! ## A free (R49, R68) -/

theorem endGroup_groups (g : GroupNo) (x : FirstGroup) (k : Key) (s : State) :
    (endGroup g x k s).groups = s.groups.set g none := by
  unfold endGroup
  dsimp only
  split
  · rfl
  · split <;> simp

theorem groupLosesCopy_eq {s : State} {g : GroupNo} {x : FirstGroup} (h : s.groups.get g = some x) (k : Key) :
    groupLosesCopy g k s =
      if x.live ≤ 1 then endGroup g x k s else s.setGroup g (some { x with live := x.live - 1 }) := by
  unfold groupLosesCopy
  rw [h]

/-- A group that loses a copy counts one fewer, and with its last copy it is FREE (R49). -/
theorem groupLosesCopy_groups {g : GroupNo} {x : FirstGroup} (hx : s.groups.get g = some x) (k : Key) :
    (groupLosesCopy g k s).groups =
      s.groups.set g (if x.live ≤ 1 then none else some { x with live := x.live - 1 }) := by
  rw [groupLosesCopy_eq hx]
  split
  · exact endGroup_groups g x k s
  · rfl

theorem freeUntested_copyAt (i : RecIndex) (r : Record) (cause : FreeCause) (s : State) :
    copyAt (freeUntested i r cause s) = Function.update (copyAt s) i none := by
  funext j
  rw [copyAt_eq_holding, freeUntested_holding]
  by_cases hj : j = i
  · rw [if_pos hj, hj, Function.update_self, Option.bind_none]
  · rw [if_neg hj, Function.update_of_ne hj, copyAt_eq_holding]

theorem freeUntested_groups (i : RecIndex) (r : Record) (cause : FreeCause) (s : State) :
    (freeUntested i r cause s).groups = (reportCopy r (release i r s)).groups := by
  unfold freeUntested
  simp

theorem freeUntested_groups_each {r : Record} (hm : r.mode = .each) (i : RecIndex) (cause : FreeCause) (s : State) :
    (freeUntested i r cause s).groups = s.groups := by
  rw [freeUntested_groups]
  unfold reportCopy
  rw [hm]
  simp

theorem freeUntested_groups_first {r : Record} {g : GroupNo} {x : FirstGroup} (hm : r.mode = .first g)
    (hx : s.groups.get g = some x) (i : RecIndex) (cause : FreeCause) : (freeUntested i r cause s).groups =
      s.groups.set g (if x.live ≤ 1 then none else some { x with live := x.live - 1 }) := by
  have hg : (release i r s).groups = s.groups := by simp
  rw [freeUntested_groups]
  unfold reportCopy
  rw [hm]
  dsimp only
  rw [groupLosesCopy_groups (hg ▸ hx), hg]

theorem freeUntested_groupLaw (h : GroupLawBut o s) {i : RecIndex} {r : Record} (hi : copyAt s i = copyIn r)
    (cause : FreeCause) : GroupLawBut o (freeUntested i r cause s) := by
  have hc := freeUntested_copyAt i r cause s
  cases hm : r.mode with
  | each =>
    rw [copyIn_each hm] at hi
    refine h.same ?_ (freeUntested_groups_each hm i cause s)
    rw [hc, ← hi, Function.update_eq_self]
  | first g =>
    rw [copyIn_first hm] at hi
    have hone : liveOf s g ≠ 0 := fun h0 => h.liveOf_eq_zero.1 h0 i r.owner hi
    obtain ⟨x, hx⟩ : ∃ x, s.groups.get g = some x := by
      refine Option.ne_none_iff_exists'.1 fun hn => hone (liveOf_none hn)
    rw [liveOf_some hx] at hone
    have hg := freeUntested_groups_first hm hx i cause
    refine h.update hc (fun k => ?_) (fun k y hy hk => ?_) nofun
    · rw [hi, ofGroup_some, ofGroup_none]
      unfold liveOf
      rw [hg, Table.get_set]
      by_cases hk : k = g
      · subst hk
        rw [if_pos rfl, if_pos rfl, hx]
        split <;> simp <;> omega
      · rw [if_neg hk, if_neg (Ne.symm hk)]
    · rw [hg, Table.get_set] at hy
      split at hy
      · split at hy
        · cases hy
        · cases hy
          dsimp only
          omega
      · exact h.alive k y hy hk

theorem freeWithin_groupLaw (h : GroupLawBut o s) {i : RecIndex} {r : Record} (hi : copyAt s i = copyIn r)
    (cause : FreeCause) : GroupLawBut o (freeWithin i r cause s) :=
  (freeUntested_groupLaw h hi cause).framed (by simp [freeWithin])

theorem freeRecord_groupLaw (h : GroupLawBut o s) {i : RecIndex} {r : Record} (hi : copyAt s i = copyIn r)
    (cause : FreeCause) : GroupLawBut o (freeRecord i r cause s) :=
  completeWake_groupLaw (freeWithin_groupLaw h hi cause) _

/-! ## A making (R48, R63) -/

theorem makeAt_copyAt (i : RecIndex) (q : StoreRequest) (s : State) :
    copyAt (makeAt i q s) = Function.update (copyAt s) i (copyIn (recordOf q)) :=
  (copyAt_of_pool (t := makeAt i q s) (s := s.setSlot i ⟨(s.slot i).gen + 1, some (recordOf q)⟩) (makeAt_pool i q s)).trans
    (copyAt_setSlot s i _)

/-- The groups after a gain depend on the groups before it alone. -/
theorem groupGainsCopy_groups {s t : State} (m : RecMode) (hg : t.groups = s.groups) :
    (groupGainsCopy m t).groups = (groupGainsCopy m s).groups := by
  unfold groupGainsCopy
  cases m with
  | each => exact hg
  | first g =>
    dsimp only
    rw [hg]
    cases s.groups.get g with
    | none => exact hg
    | some x => simp [hg]

theorem makeAt_groups (i : RecIndex) (q : StoreRequest) (s : State) :
    (makeAt i q s).groups = (groupGainsCopy q.mode s).groups := by
  have ht : ∀ u : State, (poolLowTest u).groups = u.groups := fun u => by simp
  unfold makeAt
  dsimp only
  rw [ht]
  exact groupGainsCopy_groups q.mode (by simp)

theorem makeAt_groups_first {i : RecIndex} {q : StoreRequest} {g : GroupNo} {x : FirstGroup} (hm : q.mode = .first g)
    (hx : s.groups.get g = some x) : (makeAt i q s).groups = s.groups.set g (some { x with live := x.live + 1 }) := by
  rw [makeAt_groups, hm]
  unfold groupGainsCopy
  dsimp only
  rw [hx]
  rfl

/-- An EACH record is made at an index that holds no copy. -/
theorem makeAt_each_groupLaw (h : GroupLawBut o s) {i : RecIndex} {q : StoreRequest} (hi : copyAt s i = none)
    (hm : q.mode = .each) : GroupLawBut o (makeAt i q s) := by
  refine h.same ?_ ?_
  · rw [makeAt_copyAt, copyIn_each (r := recordOf q) hm, ← hi, Function.update_eq_self]
  · rw [makeAt_groups, hm]
    rfl

/-- A copy is made of a group IN_USE of which its client has none. -/
theorem makeAt_first_groupLaw (h : GroupLawBut o s) {i : RecIndex} {q : StoreRequest} {g : GroupNo} (hi : copyAt s i = none)
    (hm : q.mode = .first g) (hg : (s.groups.get g).isSome) (hnew : ∀ j, copyAt s j ≠ some (q.owner, g)) :
    GroupLawBut o (makeAt i q s) := by
  obtain ⟨x, hx⟩ := Option.isSome_iff_exists.1 hg
  have hv : copyIn (recordOf q) = some (q.owner, g) := copyIn_first hm
  have ht := makeAt_groups_first (i := i) hm hx
  refine h.update (makeAt_copyAt i q s) (fun k => ?_) (fun k y hy hk => ?_) fun p hp j => ?_
  · rw [hi, hv, ofGroup_some, ofGroup_none]
    unfold liveOf
    rw [ht, Table.get_set]
    by_cases hk : k = g
    · subst hk
      rw [if_pos rfl, if_pos rfl, hx]
      rfl
    · rw [if_neg hk, if_neg (Ne.symm hk)]
  · rw [ht, Table.get_set] at hy
    split at hy
    · cases hy
      exact Nat.le_add_left 1 x.live
    · exact h.alive k y hy hk
  · rw [hv] at hp
    cases hp
    exact hnew j

theorem grantedIndex_free {c : Client} {i : RecIndex} (e : grantedIndex s c = some i) : s.record i = none := by
  unfold grantedIndex lowestFree at e
  split at e
  · simpa using List.find?_some e
  · cases e

/-! ## Return, resumption and transfer -/

theorem sameKeyRecord_copyAt {c : Client} {k : Key} {skip : Option RecIndex} {i : RecIndex} {r : Record}
    (e : sameKeyRecord s c k skip = some (i, r)) : copyAt s i = copyIn r := by
  obtain ⟨-, -, hr, -⟩ := sameKeyRecord_some e
  exact copyAt_of_record hr

/-- A record with another of its key is merged into one: the other, an EACH record, is freed (R70). -/
theorem mergeFront_groupLaw (h : GroupLawBut o s) {i j : RecIndex} {r x : Record} (hi : copyAt s i = copyIn r)
    (hj : copyAt s j = copyIn x) : GroupLawBut o (mergeFront i r j x s) := by
  unfold mergeFront
  dsimp only
  refine freeRecord_groupLaw (setRecord_groupLaw h ?_) ?_ .other
  · exact hi
  · rw [copyAt_setRecord_same, hj]
    exact hi

theorem placeAtFront_groupLaw (h : GroupLawBut o s) {i : RecIndex} {r : Record} (hi : copyAt s i = copyIn r) :
    GroupLawBut o (placeAtFront i r s) := by
  have hc : copyAt (enqueueFront (s.setRecord i (some r)) r.owner i) = copyAt s :=
    (copyAt_of_pool rfl).trans (copyAt_setRecord_same hi)
  have hf : GroupLawBut o (enqueueFront (s.setRecord i (some r)) r.owner i) := h.same hc rfl
  unfold placeAtFront
  dsimp only
  split
  · split
    · rename_i e
      exact mergeFront_groupLaw hf (hc ▸ hi) (sameKeyRecord_copyAt e)
    · exact hf
  · exact hf

theorem resume_groupLaw (h : GroupLawBut o s) (c : Client) : GroupLawBut o (resume c s) := by
  unfold resume
  split
  · rename_i i r e
    have hi : copyAt (returnFlags c r s) i = copyIn r := copyAt_framed (copyAt_of_heldIn e) (by simp)
    have hp : GroupLawBut o (placeAtFront i { r with state := .queued, resumed := true, flags := 0 } (returnFlags c r s)) :=
      placeAtFront_groupLaw (h.framed (by simp)) hi
    exact hp.framed (by simp)
  · exact h

theorem exchangeToOperate_groupLaw (h : GroupLawBut o s) (c : Client) : GroupLawBut o (exchangeToOperate c s) := by
  have hr : GroupLawBut o (resume c (startHoldOff c (enterOperate c s))) := resume_groupLaw (h.framed (by simp)) c
  exact ctxExamine_groupLaw (examine_groupLaw (hr.framed (by simp)) c) c

theorem returnHeld_groupLaw (h : GroupLawBut o s) (c : Client) (st : RecState) : GroupLawBut o (returnHeld c st s) := by
  unfold returnHeld
  split
  · rename_i i r e
    unfold returnRecord
    split
    · exact h
    · have hi : copyAt (reportPresented r (s.handleAt i) s) i = copyIn r := copyAt_framed (copyAt_of_heldIn e) (by simp)
      exact placeAtFront_groupLaw (h.framed (by simp)) hi
  · exact h

/-- A record is handed to a client that holds no copy of its group. -/
theorem setRecord_handed_groupLaw (h : GroupLawBut o s) {i : RecIndex} {r r' : Record} (hi : copyAt s i = copyIn r)
    (hm : r'.mode = r.mode) (hnew : ∀ g, r.mode = .first g → ∀ j, copyAt s j ≠ some (r'.owner, g)) :
    GroupLawBut o (s.setRecord i (some r')) := by
  cases hr : r.mode with
  | each =>
    refine setRecord_groupLaw h ?_
    rw [hi, copyIn_each hr, copyIn_each (hm.trans hr)]
  | first g =>
    refine h.update (copyAt_setRecord s i r') (fun k => ?_) h.alive fun p hp => ?_
    · rw [hi, copyIn_first hr, copyIn_first (hm.trans hr), ofGroup_some, ofGroup_some]
      rfl
    · rw [copyIn_first (hm.trans hr)] at hp
      cases hp
      exact hnew g hr

/-- A record goes to a client that holds no copy of its group (R72, R138). -/
theorem transfer_groupLaw (h : GroupLawBut o s) {i : RecIndex} {r : Record} {f : Client} (hi : copyAt s i = copyIn r)
    (hnew : ∀ g, r.mode = .first g → ∀ j, copyAt s j ≠ some (f, g)) : GroupLawBut o (transfer i r f s) := by
  unfold transfer
  split
  · rename_i j x e
    split at e
    · have hx := sameKeyRecord_copyAt e
      refine freeWithin_groupLaw (foldInto_groupLaw h hx _ _ _) ?_ .other
      rw [foldInto_copyAt hx, hi]
    · cases e
  · have handed : ∀ u : State, u.pool = s.pool → u.groups = s.groups → GroupLawBut o
        (enqueue (u.setRecord i (some { r with owner := f, state := .queued, esc := none })) f r.priority i) :=
      fun u hp hg => by
        have hu : copyAt u = copyAt s := copyAt_of_pool hp
        have hr : GroupLawBut o (u.setRecord i (some { r with owner := f, state := .queued, esc := none })) :=
          setRecord_handed_groupLaw (h.framed ⟨hp, hg⟩) ((congrFun hu i).trans hi) rfl fun g hm j => hu ▸ hnew g hm j
        exact hr.framed (by simp)
    dsimp only
    refine handed _ ?_ ?_ <;> split <;> simp

/-! ## Health and detach -/

theorem applyScore_copyAt (c : Client) (n : Nat) (s : State) : copyAt (applyScore c n s) = copyAt s := by
  unfold applyScore
  dsimp only
  split
  · rfl
  · split
    · rw [examine_copyAt]
      exact copyAt_of_pool (by simp)
    · exact copyAt_of_pool (by simp)

theorem applyScore_groupLaw (h : GroupLawBut o s) (c : Client) (n : Nat) : GroupLawBut o (applyScore c n s) :=
  h.same (applyScore_copyAt c n s) (by simp)

theorem lowerScore_groupLaw (h : GroupLawBut o s) (c : Client) : GroupLawBut o (lowerScore c s) := by
  unfold lowerScore
  split
  · exact applyScore_groupLaw h c _
  · exact h

theorem raiseScore_copyAt (c : Client) (k : Nat) (s : State) : copyAt (raiseScore c k s).1 = copyAt s := by
  unfold raiseScore
  split
  · split
    · exact applyScore_copyAt c _ s
    · exact copyAt_of_pool (by simp)
  · rfl

theorem raiseScore_groupLaw (h : GroupLawBut o s) (c : Client) (k : Nat) : GroupLawBut o (raiseScore c k s).1 :=
  h.same (raiseScore_copyAt c k s) (by simp)

theorem dropRecord_groupLaw (h : GroupLawBut o s) {i : RecIndex} {r : Record} (hi : copyAt s i = copyIn r) (c : Client) :
    GroupLawBut o (dropRecord c i r s) :=
  freeWithin_groupLaw (h.framed (by simp)) (copyAt_framed hi (by simp)) .drop

theorem holdsCopy_false {f : Client} {g : GroupNo} (e : holdsCopy s f g ≠ true) (j : RecIndex) : copyAt s j ≠ some (f, g) := by
  intro hj
  obtain ⟨r, hr, ho, hm⟩ := copyAt_eq_some.1 hj
  exact e ((holdsRecord_iff s _).2 ⟨j, r, hr, by simp [ho, hm]⟩)

theorem disposeAt_groupLaw (c : Client) {p : State × List Client} (h : GroupLawBut o p.1) (i : RecIndex) :
    GroupLawBut o (disposeAt c p i).1 := by
  unfold disposeAt
  split
  · rename_i r hr
    have hi : copyAt p.1 i = copyIn r := copyAt_of_record hr
    unfold disposeRecord
    split
    · exact freeWithin_groupLaw h hi _
    · split
      · exact dropRecord_groupLaw h hi c
      · split
        · exact dropRecord_groupLaw h hi c
        · split
          · rename_i hm
            exact transfer_groupLaw h hi fun g hg => by rw [hm] at hg; cases hg
          · rename_i g hm
            split
            · exact freeWithin_groupLaw h hi _
            · rename_i hn
              refine transfer_groupLaw h hi fun k hk => ?_
              rw [hm] at hk
              cases hk
              exact holdsCopy_false hn
  · exact h

theorem finishDetach_groupLaw (h : GroupLawBut o s) (c : Client) : GroupLawBut o (finishDetach c s) := by
  have hd : GroupLawBut o (disposeAll c s).1 :=
    List.foldlRecOn (motive := fun p : State × List Client => GroupLawBut o p.1) _ _
      (show GroupLawBut o (setAttention c false s) from h.framed (by simp)) fun p hp i _ => disposeAt_groupLaw c hp i
  have hc : GroupLawBut o (clearDetached c (disposeAll c s).1) := hd.framed (by simp)
  exact completeWake_groupLaw (List.foldlRecOn _ _ (examine_groupLaw hc c) fun _ hu d _ => entered_groupLaw hu d) _

theorem chargeScore_groupLaw (h : GroupLawBut o s) (c : Client) (k : Nat) : GroupLawBut o (chargeScore c k s) := by
  unfold chargeScore
  dsimp only
  split
  · exact finishDetach_groupLaw (raiseScore_groupLaw h c k) c
  · exact raiseScore_groupLaw h c k

theorem detach_groupLaw (h : GroupLawBut o s) (c : Client) : GroupLawBut o (detach c s) :=
  finishDetach_groupLaw (h.framed (by simp)) c

theorem completeRejoin_groupLaw (h : GroupLawBut o s) (c : Client) : GroupLawBut o (completeRejoin c s) :=
  entered_groupLaw (h.framed (by simp)) c

/-! ## Resets -/

theorem clearSignals_groupLaw (h : GroupLawBut o s) (c : Client) : GroupLawBut o (clearSignals c s) := by
  refine List.foldlRecOn _ _ (h.framed (t := setPendingFlags c 0 s) (by simp)) fun u hu i _ => ?_
  unfold freeSignal
  split
  · rename_i r e
    exact freeRecord_groupLaw hu (copyAt_of_record (Option.filter_eq_some_iff.1 e).1) _
  · exact hu

theorem namedRecord_copyAt {c : Client} {st : RecState} {hd : Handle} {r : Record} (e : namedRecord s c st hd = some r) :
    copyAt s hd.index = copyIn r := by
  obtain ⟨-, hr, -, -⟩ := namedRecord_some e
  exact copyAt_of_record hr

theorem settleOwnSlots_groupLaw (h : GroupLawBut o s) (c : Client) : GroupLawBut o (settleOwnSlots c s) := by
  refine List.foldlRecOn _ _ h fun u hu n _ => ?_
  unfold settleOwnSlot
  split
  · exact hu
  · exact hu
  · split
    · rename_i e
      exact freeRecord_groupLaw hu (namedRecord_copyAt e) _
    · exact hu.framed (by simp)

theorem clientResetSteps_groupLaw (h : GroupLawBut o s) (c : Client) (cause : ResetCause) :
    GroupLawBut o (clientResetSteps c cause s) := by
  have h4 : GroupLawBut o (contextsToDefaults c (clearReady c (flushLink c (startPulse c s)))) := h.framed (by simp)
  have h5 := returnHeld_groupLaw (returnHeld_groupLaw h4 c .presented) c .suspended
  have h6 := settleOwnSlots_groupLaw (clearSignals_groupLaw h5 c) c
  exact h6.framed (by simp [clientResetSteps])

/-- Power-on and a board reset leave no record, and every group FREE. -/
theorem hubReset_groupLaw (pins : PinLevels) (raw : LineNo → Bool) (board : BoardLines) (cause : CauseRecord)
    (note : BitVec 32) (resetInput : Bool) (pending : List Instr) :
    GroupLawBut o (hubReset pins raw board cause note resetInput pending) := by
  obtain ⟨-, -, -, -, -, hg, -⟩ := laws_hubReset pins raw board cause note resetInput pending
  exact (groupLaw_iff.1 hg).weaken

theorem clientReset_groupLaw (h : GroupLawBut o s) (c : Client) (cause : ResetCause) :
    GroupLawBut o (clientReset c cause s) := by
  unfold clientReset
  dsimp only
  split
  · exact hubReset_groupLaw ..
  · exact clientResetSteps_groupLaw h c cause

/-! ## Expiries -/

theorem takeAction_groupLaw (h : GroupLawBut o s) (c : Client) {i : RecIndex} {r : Record} (hi : copyAt s i = copyIn r)
    (a : Action) : GroupLawBut o (takeAction c i r a s) := by
  have he : ∀ e, GroupLawBut o (setEsc i r e s) := fun e => setRecord_groupLaw h (r := { r with esc := some e }) hi
  have ha : ∀ e, GroupLawBut o (setAttention c true (setEsc i r e s)) := fun e => (he e).framed (by simp)
  unfold takeAction
  split
  · exact he _
  · exact ha _
  · exact clientReset_groupLaw h _ _
  · exact ha _
  · exact hubReset_groupLaw ..

/-- The record of an expired deadline, its stage time run out (R122). -/
def expiredRecord (r : Record) : Record :=
  { r with esc := some { (r.esc.getD ⟨.deadline, 0, false, false⟩) with left := 0, expired := true } }

/-- The state in which the expired deadline's action is taken, the score raised and the notice offered, and whether c is being
detached (R122). -/
def chargedDeadline (c : Client) (i : RecIndex) (r : Record) (s : State) : State × Bool :=
  let p := raiseScore c 8 (s.setRecord i (some (expiredRecord r)))
  (offerNotice .escalated (clientDetail c (s.profiles.get r.profile).action.code) p.1, p.2)

theorem deadlineExpires_eq (c : Client) (i : RecIndex) (r : Record) (s : State) : deadlineExpires c i r s =
    if (chargedDeadline c i r s).2 then
      if (s.profiles.get r.profile).action = .boardReset then
        boardReset .escalation (some c) (finishDetach c (chargedDeadline c i r s).1)
      else finishDetach c (chargedDeadline c i r s).1
    else takeAction c i (expiredRecord r) (s.profiles.get r.profile).action (chargedDeadline c i r s).1 := rfl

theorem deadlineExpires_groupLaw (h : GroupLawBut o s) (c : Client) {i : RecIndex} {r : Record} (hi : copyAt s i = copyIn r) :
    GroupLawBut o (deadlineExpires c i r s) := by
  have hr : GroupLawBut o (s.setRecord i (some (expiredRecord r))) := setRecord_groupLaw h hi
  have hs : GroupLawBut o (chargedDeadline c i r s).1 :=
    (raiseScore_groupLaw hr c 8).framed (by simp [chargedDeadline])
  have hc : copyAt (chargedDeadline c i r s).1 i = copyIn (expiredRecord r) := by
    refine copyAt_framed (s := (raiseScore c 8 (s.setRecord i (some (expiredRecord r)))).1) ?_ (by simp [chargedDeadline])
    rw [raiseScore_copyAt, copyAt_setRecord, Function.update_self]
  rw [deadlineExpires_eq]
  split
  · split
    · exact hubReset_groupLaw ..
    · exact finishDetach_groupLaw hs c
  · exact takeAction_groupLaw hs c hc _

theorem stageExpires_groupLaw (h : GroupLawBut o s) (c : Client) : GroupLawBut o (stageExpires c s) := by
  unfold stageExpires
  split
  · rename_i i r e
    split
    · exact deadlineExpires_groupLaw h c (copyAt_of_heldIn e)
    · exact clientReset_groupLaw h _ _
    all_goals exact h
  · exact h

theorem expire_groupLaw (h : GroupLawBut o s) (t : Timer) : GroupLawBut o (expire t s) := by
  cases t with
  | debounce l => exact acceptLevel_groupLaw h l
  | repeatInterval l => exact repeatRunsOut_groupLaw h l
  | holdOff c => exact ctxExamine_groupLaw (h.framed (by simp)) c
  | stage c => exact stageExpires_groupLaw h c
  | context c k => exact h.framed (by simp [expire])
  | pulse c => exact h.framed (by simp [expire])
  | boardPulse => exact h.framed (by simp [expire])
  | boardOutput => exact h.framed (by simp [expire])
  | spacing c => exact h.framed (by simp [expire])

theorem lowerStage_groupLaw (h : GroupLawBut o s) (c : Client) : GroupLawBut o (lowerStage c s) := by
  unfold lowerStage
  split
  · rename_i i r e
    have hi : copyAt s i = copyIn r := copyAt_of_heldIn e
    exact setRecord_groupLaw h hi
  · exact h

theorem lower_groupLaw (h : GroupLawBut o s) (t : Timer) : GroupLawBut o (lower t s) := by
  cases t with
  | stage c => exact lowerStage_groupLaw h c
  | _ => exact h.framed (by simp [lower])

/-! ## Links -/

theorem frameError_groupLaw (h : GroupLawBut o s) (c : Client) : GroupLawBut o (frameError c s) := by
  unfold frameError
  dsimp only
  split
  · exact h.framed (by simp)
  · exact chargeScore_groupLaw (h.framed (by simp)) c 2

theorem frameFails_groupLaw (h : GroupLawBut o s) (c : Client) : GroupLawBut o (frameFails c s) :=
  frameError_groupLaw (h.framed (by simp)) c

theorem gapFails_groupLaw (h : GroupLawBut o s) (c : Client) : GroupLawBut o (gapFails c s) :=
  frameFails_groupLaw (h.framed (by simp)) c

theorem frameComplete_groupLaw (h : GroupLawBut o s) (c : Client) (kind tag : Byte) (payload : List Byte) :
    GroupLawBut o (frameComplete c kind tag payload s) := by
  unfold frameComplete
  split
  · exact h
  · split
    · have hc : GroupLawBut o (chargeScore c 2 (s.setLink c { s.link c with overruns := up16 (s.link c).overruns })) :=
        chargeScore_groupLaw (h.framed (by simp)) c 2
      exact hc.framed (by simp [overrun])
    · split
      · exact h.framed (by simp)
      · exact frameError_groupLaw (h.framed (by simp)) c

theorem checkFrame_groupLaw (h : GroupLawBut o s) (c : Client) (len : Byte) (got : List Byte) (hi lo : Byte) :
    GroupLawBut o (checkFrame c len got hi lo s) := by
  unfold checkFrame
  split
  · split
    · exact frameComplete_groupLaw (h.framed (by simp)) _ _ _ _
    · exact frameFails_groupLaw h c
  · exact frameFails_groupLaw h c

theorem advance_groupLaw (h : GroupLawBut o s) (c : Client) (b : Byte) : GroupLawBut o (advance c b s) := by
  unfold advance
  split
  · split
    · exact h.framed (by simp)
    · exact h
  · split
    · exact h.framed (by simp)
    · exact frameFails_groupLaw h c
  · split <;> exact h.framed (by simp)
  · exact h.framed (by simp)
  · exact checkFrame_groupLaw h _ _ _ _ _

theorem receiveByte_groupLaw (h : GroupLawBut o s) (c : Client) (b : Byte) : GroupLawBut o (receiveByte c b s) := by
  have hw := wakeHub_groupLaw h
  have hg : GroupLawBut o (if gapPassed (wakeHub s) c then gapFails c (wakeHub s) else wakeHub s) := by
    split
    · exact gapFails_groupLaw hw c
    · exact hw
  unfold receiveByte
  split
  · exact h
  · exact advance_groupLaw (hg.framed (by simp)) c b

theorem beginStage_groupLaw (h : GroupLawBut o s) (c : Client) {i : RecIndex} {r : Record} (hi : copyAt s i = copyIn r) :
    GroupLawBut o (beginStage c i r s) := by
  have hb : GroupLawBut o (beginDeadline i r s) := setRecord_groupLaw h hi
  unfold beginStage
  split
  · exact hb
  · split
    · exact hb
    · split
      · exact h.framed (by simp)
      · exact h

theorem deliverSent_groupLaw (h : GroupLawBut o s) (c : Client) (hd : Handle) : GroupLawBut o (deliverSent c hd s) := by
  unfold deliverSent
  split
  · rename_i i r e
    refine examine_groupLaw ?_ c
    split
    · exact beginStage_groupLaw h c (copyAt_of_heldIn e)
    · exact h
  · exact examine_groupLaw h c

theorem frameSent_groupLaw (h : GroupLawBut o s) (c : Client) : GroupLawBut o (frameSent c s) := by
  unfold frameSent
  split
  · exact h
  · dsimp only
    split
    · split
      · exact hubReset_groupLaw ..
      · exact h.framed (by simp)
    · exact deliverSent_groupLaw (h.framed (by simp)) c _
    all_goals exact h.framed (by simp)

/-! ## The requests of a routing (R46, R48, R50) -/

theorem displacementCandidate_some {c : Client} {i : RecIndex} {r : Record} (e : displacementCandidate s c = some (i, r)) :
    s.record i = some r ∧ r.mode = .each := by
  unfold displacementCandidate at e
  simp only [Option.bind_eq_some_iff, Option.map_eq_some_iff, Prod.mk.injEq] at e
  obtain ⟨j, hj, x, hx, rfl, rfl⟩ := e
  have hd := List.find?_some hj
  simp only [displaceable, hx, Option.any_some, Bool.and_eq_true, decide_eq_true_iff] at hd
  obtain ⟨⟨-, hm⟩, -⟩ := hd
  exact ⟨hx, hm⟩

/-- A state whose copies and groups are as `t` has them. -/
def SameCopies (t u : State) : Prop := copyAt u = copyAt t ∧ u.groups = t.groups

theorem GroupLawBut.sameCopies {t : State} (h : GroupLawBut o s) (e : SameCopies s t) : GroupLawBut o t := h.same e.1 e.2

theorem makeAt_sameCopies {t : State} (e : SameCopies s t) (i : RecIndex) (q : StoreRequest) :
    SameCopies (makeAt i q s) (makeAt i q t) := by
  obtain ⟨hc, hg⟩ := e
  exact ⟨by rw [makeAt_copyAt, makeAt_copyAt, hc], by rw [makeAt_groups, makeAt_groups, groupGainsCopy_groups _ hg]⟩

/-- A free of an EACH record moves no copy. -/
theorem freeUntested_each_sameCopies {i : RecIndex} {r : Record} (hi : copyAt s i = copyIn r) (hm : r.mode = .each)
    (cause : FreeCause) : SameCopies s (freeUntested i r cause s) :=
  ⟨by rw [freeUntested_copyAt, ← copyIn_each hm, ← hi, Function.update_eq_self], freeUntested_groups_each hm i cause s⟩

theorem entered_sameCopies {t : State} (e : SameCopies t s) (c : Client) : SameCopies t (entered c s) :=
  ⟨(entered_copyAt c s).trans e.1, Eq.trans (by simp) e.2⟩

/-- A request that is not coalesced is dropped, or its record is made at an index that holds no copy; no other copy moves, since
only an EACH record is displaced (R63 to R65). -/
theorem makeOrDrop_copies (q : StoreRequest) (s : State) : SameCopies s (makeOrDrop q s) ∨
    ∃ i, copyAt s i = none ∧ SameCopies (makeAt i q s) (makeOrDrop q s) := by
  unfold makeOrDrop
  split
  · rename_i i e
    exact .inr ⟨i, copyAt_of_free (grantedIndex_free e), entered_sameCopies ⟨rfl, rfl⟩ _⟩
  · split
    · rename_i i r e
      split at e
      · obtain ⟨hr, hm⟩ := displacementCandidate_some e
        have hi := copyAt_of_record hr
        have hd : SameCopies s (dropFor q.owner r.key s) := ⟨copyAt_of_pool (by simp), by simp⟩
        have hf := freeUntested_each_sameCopies ((congrFun hd.1 i).trans hi) hm .drop
        refine .inr ⟨i, hi.trans (copyIn_each hm), entered_sameCopies ?_ _⟩
        exact makeAt_sameCopies ⟨hf.1.trans hd.1, hf.2.trans hd.2⟩ i q
      · cases e
    · exact .inl ⟨copyAt_of_pool (by simp), by simp⟩

/-- A request for an EACH record. -/
theorem routingRequest_each_groupLaw (h : GroupLawBut o s) {q : StoreRequest} (hm : q.mode = .each) :
    GroupLawBut o (routingRequest q s) := by
  unfold routingRequest
  rw [if_pos hm]
  split
  · rename_i i r e
    exact coalesce_groupLaw h (sameKeyRecord_copyAt e) _ _
  · rcases makeOrDrop_copies q s with e | ⟨i, hi, e⟩
    · exact h.sameCopies e
    · exact (makeAt_each_groupLaw h hi hm).sameCopies e

/-- A routing may send requests for copies of group `g` to these clients: the group is IN_USE, and they hold no copy of it. -/
def MayCopy (g : GroupNo) (rs : List Client) (s : State) : Prop :=
  (s.groups.get g).isSome ∧ ∀ c ∈ rs, ∀ j, copyAt s j ≠ some (c, g)

theorem routingRequest_first_groupLaw (h : GroupLawBut o s) {q : StoreRequest} {g : GroupNo} {rs : List Client}
    (hm : q.mode = .first g) (hmay : MayCopy g (q.owner :: rs) s) (hq : q.owner ∉ rs) :
    GroupLawBut o (routingRequest q s) ∧ MayCopy g rs (routingRequest q s) := by
  obtain ⟨hg, hnew⟩ := hmay
  have hr : routingRequest q s = makeOrDrop q s := by
    unfold routingRequest
    rw [hm]
    rfl
  rw [hr]
  rcases makeOrDrop_copies q s with e | ⟨i, hi, e⟩
  · obtain ⟨ec, eg⟩ := e
    exact ⟨h.same ec eg, by rw [eg]; exact hg, fun c hc j => ec ▸ hnew c (List.mem_cons_of_mem _ hc) j⟩
  · refine ⟨(makeAt_first_groupLaw h hi hm hg (hnew _ List.mem_cons_self)).sameCopies e, ?_, fun c hc j => ?_⟩
    · obtain ⟨x, hx⟩ := Option.isSome_iff_exists.1 hg
      rw [e.2, makeAt_groups_first hm hx, Table.get_set_same]
      rfl
    · rw [e.1, makeAt_copyAt]
      by_cases hj : j = i
      · rw [hj, Function.update_self, copyIn_first (r := recordOf q) hm]
        intro hcq
        cases hcq
        exact hq hc
      · rw [Function.update_of_ne hj]
        exact hnew c (List.mem_cons_of_mem _ hc) j

theorem sendRequests_each_groupLaw (h : GroupLawBut o s) (d : Descriptor) (x : RouteEntry) (hit : Hit) (rs : List Client) :
    GroupLawBut o (sendRequests d x hit .each rs s) :=
  List.foldlRecOn _ _ h fun _ hu _ _ => routingRequest_each_groupLaw hu rfl

theorem sendRequests_first_groupLaw (d : Descriptor) (x : RouteEntry) (hit : Hit) {g : GroupNo} {rs : List Client}
    (hn : rs.Nodup) (h : GroupLawBut o s) (hmay : MayCopy g rs s) : GroupLawBut o (sendRequests d x hit (.first g) rs s) := by
  induction rs generalizing s with
  | nil => exact h
  | cons c rs ih =>
    obtain ⟨hc, hn⟩ := List.nodup_cons.1 hn
    obtain ⟨h', hmay'⟩ := routingRequest_first_groupLaw h (q := requestFor d x hit (.first g) c) rfl hmay hc
    exact ih hn h' hmay'

/-! ## The group that a routing forms (R48) -/

/-- A group is written with the count it has; the law then asks a copy of every group but `o'`. -/
theorem setGroup_groupLaw {o' : Option GroupNo} (h : GroupLawBut o s) {g : GroupNo} {v : Option FirstGroup}
    (hl : (v.map FirstGroup.live).getD 0 = liveOf s g) (hv : ∀ x, v = some x → some g ≠ o' → 1 ≤ x.live)
    (ho : ∀ k, k ≠ g → some k ≠ o' → some k ≠ o) : GroupLawBut o' (s.setGroup g v) := by
  refine ⟨fun k => ?_, fun k x hx hk => ?_, h.once⟩
  · rw [liveOf_setGroup, hl, Function.update_eq_self]
    exact h.count k
  · rw [State.setGroup_groups, Table.get_set] at hx
    split at hx
    · rename_i hkg
      exact hv x hx (hkg ▸ hk)
    · rename_i hkg
      exact h.alive k x hx (ho k hkg hk)

theorem closeGroup_eq {s : State} {g : GroupNo} {x : FirstGroup} (h : s.groups.get g = some x) (k : Key) :
    closeGroup g k s = if x.live = 0 then endGroup g x k s else s := by
  unfold closeGroup
  rw [h]

theorem closeGroup_of_free {s : State} {g : GroupNo} (h : s.groups.get g = none) (k : Key) : closeGroup g k s = s := by
  unfold closeGroup
  rw [h]

/-- At the close of the routing its group has a copy, or is FREE. -/
theorem closeGroup_groupLaw {g : GroupNo} (h : GroupLawBut (some g) s) (k : Key) : GroupLawBut none (closeGroup g k s) := by
  have other : ∀ j, j ≠ g → some j ≠ none → some j ≠ some g := fun j hj _ e => hj (Option.some.inj e)
  have kept : (∀ x, s.groups.get g = some x → 1 ≤ x.live) → GroupLawBut none s := fun hx =>
    ⟨h.count, fun j y hy _ => by
      by_cases hj : j = g
      · exact hx y (hj ▸ hy)
      · exact h.alive j y hy (other j hj nofun), h.once⟩
  cases hx : s.groups.get g with
  | none =>
    rw [closeGroup_of_free hx]
    exact kept fun y hy => by rw [hx] at hy; cases hy
  | some x =>
    rw [closeGroup_eq hx]
    split
    · rename_i h0
      have hz : 0 = liveOf s g := by rw [liveOf_some hx, h0]
      have hf : GroupLawBut none (s.setGroup g none) := setGroup_groupLaw h hz nofun other
      exact hf.framed ⟨by simp, endGroup_groups g x k s⟩
    · refine kept fun y hy => ?_
      rw [hx] at hy
      cases hy
      omega

theorem freeGroup_some {g : GroupNo} (e : freeGroup s = some g) : s.groups.get g = none := by
  simpa using List.find?_some e

theorem routeFirst_groupLaw (h : GroupLawBut none s) (d : Descriptor) (x : RouteEntry) (e : EntryNo) {rs : List Client}
    (hn : rs.Nodup) : GroupLawBut none (routeFirst d x e rs s) := by
  unfold routeFirst
  split
  · split
    · rename_i g hg
      have h0 := liveOf_none (freeGroup_some hg)
      have hf : GroupLawBut (some g) (s.setGroup g (some ⟨0, false, e⟩)) :=
        setGroup_groupLaw h h0.symm (fun _ _ hne => absurd rfl hne) fun _ _ _ => nofun
      refine closeGroup_groupLaw (sendRequests_first_groupLaw d x (.entry e) hn hf ⟨?_, fun c _ j => ?_⟩) d.key
      · rw [State.setGroup_groups, Table.get_set_same]
        rfl
      · exact h.liveOf_eq_zero.1 h0 j c
    · exact sendRequests_each_groupLaw h _ _ _ _
  · exact sendRequests_each_groupLaw h _ _ _ _

theorem decideTargets_groupLaw (h : GroupLawBut o s) (x : RouteEntry) (k : Key) : GroupLawBut o (decideTargets x k s).1 :=
  h.framed (by simp)

theorem decideTargets_nodup (x : RouteEntry) (k : Key) (s : State) : (decideTargets x k s).2.Nodup :=
  (show clients.Nodup by decide).filter _

theorem routeByEntry_groupLaw (h : GroupLawBut none s) (d : Descriptor) (e : EntryNo) :
    GroupLawBut none (routeByEntry d e s) := by
  unfold routeByEntry
  dsimp only
  split
  · exact sendRequests_each_groupLaw (decideTargets_groupLaw h _ _) _ _ _ _
  · exact routeFirst_groupLaw (decideTargets_groupLaw h _ _) _ _ _ (decideTargets_nodup ..)

theorem routeUnrouted_groupLaw (h : GroupLawBut o s) (d : Descriptor) : GroupLawBut o (routeUnrouted d s) := by
  unfold routeUnrouted
  split
  · split <;> exact h.framed (by simp)
  · exact sendRequests_each_groupLaw (decideTargets_groupLaw h _ _) _ _ _ _

theorem takeHead_groupLaw (h : GroupLawBut none s) : GroupLawBut none (takeHead s) := by
  unfold takeHead
  split
  · rename_i d rest _
    have ht : GroupLawBut none (reportTaken d.key.source (givePlace (s.setIntake rest))) := h.framed (by simp)
    have hr : GroupLawBut none (routeEvent d (reportTaken d.key.source (givePlace (s.setIntake rest)))) := by
      cases e : lookup (reportTaken d.key.source (givePlace (s.setIntake rest))) d.key with
      | some n =>
        rw [routeEvent_hit e]
        exact (routeByEntry_groupLaw ht d n).framed (by simp)
      | none =>
        rw [routeEvent_unrouted e]
        exact (routeUnrouted_groupLaw ht d).framed (by simp)
    exact completeWake_groupLaw hr _
  · exact h

/-! ## The win of a group (R90, R91) -/

theorem withdrawCopy_groupLaw (h : GroupLawBut o s) (d : Client) {j : RecIndex} {r : Record} (hj : copyAt s j = copyIn r) :
    GroupLawBut o (withdrawCopy d j r s) := by
  unfold withdrawCopy
  dsimp only
  split
  · exact freeRecord_groupLaw h hj _
  · have hf : GroupLawBut o (freeRecord j r .other (setAttention d false s)) :=
      freeRecord_groupLaw (h.framed (by simp)) (copyAt_framed hj (by simp)) .other
    have hl : GroupLawBut o (setLastRecalled d (some (s.handleAt j)) (freeRecord j r .other (setAttention d false s))) :=
      hf.framed (by simp)
    have ho := openGate_groupLaw hl d
    split
    · exact ho
    · exact ho.framed (by simp)
  · exact (freeRecord_groupLaw h hj .other).framed (by simp)

theorem withdrawFrom_groupLaw (h : GroupLawBut o s) (g : GroupNo) (i : RecIndex) (d : Client) :
    GroupLawBut o (withdrawFrom g i s d) := by
  unfold withdrawFrom
  split
  · rename_i e
    obtain ⟨-, hr, -, -⟩ := otherCopy_some e
    exact withdrawCopy_groupLaw h d (copyAt_of_record hr)
  · exact h

/-- The winner is not withdrawn. -/
theorem withdrawFrom_copyAt (g : GroupNo) (i : RecIndex) (s : State) (d : Client) :
    copyAt (withdrawFrom g i s d) i = copyAt s i := by
  unfold withdrawFrom
  split
  · rename_i e
    obtain ⟨hne, -, -, -⟩ := otherCopy_some e
    refine copyAt_of_holding ?_
    rw [withdrawCopy_holding, if_neg hne.symm]
  · rfl

theorem decideGroup_groupLaw (h : GroupLawBut o s) {i : RecIndex} {r : Record} (hi : copyAt s i = copyIn r) (d : Disposition) :
    GroupLawBut o (decideGroup i r d s) ∧ copyAt (decideGroup i r d s) i = copyIn r := by
  unfold decideGroup
  split
  · rename_i g _
    split
    · rename_i x hx
      split
      · exact ⟨h, hi⟩
      · have hd : GroupLawBut o (s.setGroup g (some { x with done := true })) :=
          setGroup_groupLaw h (liveOf_some hx).symm (fun y hy hne => by cases hy; exact h.alive g x hx hne) fun _ _ hk => hk
        exact List.foldlRecOn (motive := fun u => GroupLawBut o u ∧ copyAt u i = copyIn r) clients (withdrawFrom g i) ⟨hd, hi⟩
          fun u hu c _ => ⟨withdrawFrom_groupLaw hu.1 g i c, (withdrawFrom_copyAt g i u c).trans hu.2⟩
    · exact ⟨h, hi⟩
  · exact ⟨h, hi⟩
  · exact ⟨h, hi⟩

/-! ## Requests -/

theorem ackPresented_groupLaw (h : GroupLawBut o s) (c : Client) {i : RecIndex} {r : Record} (hi : copyAt s i = copyIn r)
    (d : Disposition) : GroupLawBut o (ackPresented c i r d s) := by
  obtain ⟨hd, hi'⟩ := decideGroup_groupLaw (h.framed (t := setAttention c false s) (by simp)) (copyAt_framed hi (by simp)) d
  have ho := openGate_groupLaw (freeRecord_groupLaw hd hi' d.cause) c
  have he : GroupLawBut o
      (ackEndsHoldOff c (openGate c (freeRecord i r d.cause (decideGroup i r d (setAttention c false s))))) := by
    unfold ackEndsHoldOff
    split
    · exact ctxExamine_groupLaw (ho.framed (by simp)) c
    · exact ho
  unfold ackPresented
  dsimp only
  split
  · exact he
  · exact lowerScore_groupLaw he c

theorem ackSuspended_groupLaw (h : GroupLawBut o s) (c : Client) {i : RecIndex} {r : Record} (hi : copyAt s i = copyIn r)
    (d : Disposition) : GroupLawBut o (ackSuspended c i r d s) := by
  obtain ⟨hd, hi'⟩ := decideGroup_groupLaw h hi d
  exact (freeRecord_groupLaw hd hi' d.cause).framed (by simp [ackSuspended])

theorem ackNamed_groupLaw (h : GroupLawBut o s) (c : Client) (hd : Handle) (d : Disposition) :
    GroupLawBut o (ackNamed c hd d s).1 := by
  unfold ackNamed
  split
  · rename_i e
    exact ackPresented_groupLaw h c (namedRecord_copyAt e) d
  · split
    · rename_i e
      exact ackSuspended_groupLaw h c (namedRecord_copyAt e) d
    · split
      · exact h
      · exact chargeScore_groupLaw h _ _

theorem exchange_groupLaw (h : GroupLawBut o s) (c : Client) (k : ContextName) : GroupLawBut o (exchange c k s).1 := by
  unfold exchange
  split
  · exact h
  · split
    · exact exchangeToService_groupLaw h c .request
    · split
      · exact h
      · exact exchangeToOperate_groupLaw h c

theorem setFilter_groupLaw (h : GroupLawBut o s) (c : Client) (k : ContextName) (classes : FlagSet) (threshold : Priority) :
    GroupLawBut o (setFilter c k classes threshold s) := by
  unfold setFilter
  refine ctxExamine_groupLaw ?_ c
  split
  · exact examine_groupLaw (h.framed (by simp)) c
  · exact h.framed (by simp)

theorem post_groupLaw (h : GroupLawBut o s) (c : Client) (f : PostFields) (created : Micros) :
    GroupLawBut o (post c f created s).1 := by
  unfold post
  split
  · exact h
  · split
    · exact h
    · split
      · exact h
      · rename_i n _ _ i e
        have hm := makeAt_each_groupLaw h (q := postRequest c n f created s) (copyAt_of_free (grantedIndex_free e)) rfl
        exact entered_groupLaw (hm.framed (by simp)) _

theorem withdraw_groupLaw (h : GroupLawBut o s) (c : Client) (n : SlotNo) : GroupLawBut o (withdraw c n s).1 := by
  unfold withdraw
  split
  · exact h
  · exact h
  · split
    · rename_i e
      exact freeRecord_groupLaw h (namedRecord_copyAt e) _
    · exact h

theorem signal_groupLaw (h : GroupLawBut o s) (f : SignalFields) (created : Micros) : GroupLawBut o (signal f created s).1 := by
  unfold signal
  split
  · exact h
  · split
    · rename_i i r e
      exact coalesce_groupLaw (h.framed (by simp)) (copyAt_framed (sameKeyRecord_copyAt e) (by simp)) _ _
    · split
      · rename_i i e
        have hm := makeAt_each_groupLaw h (q := signalRequest f created s) (copyAt_of_free (grantedIndex_free e)) rfl
        exact entered_groupLaw (hm.framed (by simp)) _
      · exact h

theorem heartbeat_groupLaw (h : GroupLawBut o s) (c : Client) : GroupLawBut o (heartbeat c s) := by
  unfold heartbeat
  dsimp only
  split
  · split
    · exact completeRejoin_groupLaw h c
    · exact h.framed (by simp)
  · exact h

theorem rule_groupLaw {c : Client} {rule : Request → State → Answer} (hr : RuleOf c rule) (q : Request)
    (h : GroupLawBut o s) : GroupLawBut o (rule q s).1 := by
  cases hr with
  | ready => exact withFields_keeps h fun _ _ => entered_groupLaw (h.framed (by simp)) c
  | ack => exact withFields_keeps h fun _ _ => whileAttached_keeps h (ackNamed_groupLaw h _ _ _)
  | exchange => exact withFields_keeps h fun _ _ => whileAttached_keeps h (exchange_groupLaw h _ _)
  | contextSet => exact withFields_keeps h fun _ _ => whileAttached_keeps h (setFilter_groupLaw h _ _ _ _)
  | timerSet => exact withFields_keeps h fun _ _ => whileAttached_keeps h (h.framed (by simp))
  | raise =>
    refine withPrivilege_keeps h (withFields_keeps h fun _ _ => whileAttached_keeps h ?_)
    unfold raiseEvent
    split
    · exact h
    · exact h.framed (by simp)
  | post => exact withPrivilege_keeps h (withFields_keeps h fun _ _ => whileAttached_keeps h (post_groupLaw h _ _ _))
  | withdraw => exact withPrivilege_keeps h (withFields_keeps h fun _ _ => whileAttached_keeps h (withdraw_groupLaw h _ _))
  | signal => exact withPrivilege_keeps h (withFields_keeps h fun _ _ => whileAttached_keeps h (signal_groupLaw h _ _))
  | heartbeat => exact withFields_keeps h fun _ _ => heartbeat_groupLaw h c
  | rejoin =>
    refine withFields_keeps h fun _ _ => ?_
    unfold rejoin
    dsimp only
    split
    · exact h.framed (by simp [accept])
    · exact h
  | query => exact withFields_keeps h fun _ _ => h
  | routeWrite =>
    refine configure_keeps h fun _ _ => ?_
    unfold writeEntry
    split
    · exact h
    · exact h.framed (by simp [accept])
  | bankSet => exact configure_keeps h fun _ _ => h.framed (by simp)
  | lineSet => exact configure_keeps h fun _ _ => configureLine_groupLaw h _ _ _
  | profileSet => exact configure_keeps h fun _ _ => h.framed (by simp [accept])
  | clientSet => exact configure_keeps h fun _ _ => h.framed (by simp [accept, setClient, setPrivileges])
  | routeRead => exact withFields_keeps h fun _ _ => whileAttached_keeps h h
  | lineRead => exact withFields_keeps h fun _ _ => whileAttached_keeps h h
  | profileRead => exact withFields_keeps h fun _ _ => whileAttached_keeps h h
  | clientRead => exact withFields_keeps h fun _ _ => whileAttached_keeps h h
  | forceAttach =>
    refine withPrivilege_keeps h (withFields_keeps h fun d _ => whileAttached_keeps h ?_)
    unfold forceAttach
    split
    · exact h
    · exact completeRejoin_groupLaw h d
  | forceDetach =>
    refine withPrivilege_keeps h (withFields_keeps h fun d _ => whileAttached_keeps h ?_)
    unfold forceDetach
    split
    · exact detach_groupLaw h d
    · exact h
  | forceReset =>
    exact withPrivilege_keeps h (withFields_keeps h fun _ _ => whileAttached_keeps h (clientReset_groupLaw h _ _))
  | freeze =>
    exact withPrivilege_keeps h (unlessFrozen_keeps h (withFields_keeps h fun _ _ =>
      whileAttached_keeps h (h.framed (by simp [accept]))))
  | sleep =>
    refine withPrivilege_keeps h (withFields_keeps h fun _ _ => whileAttached_keeps h ?_)
    unfold sleepRequest
    split
    · exact h.framed (by simp [accept])
    · exact h
    · exact h
  | wake =>
    refine withPrivilege_keeps h (withFields_keeps h fun _ _ => whileAttached_keeps h ?_)
    unfold wakeRequest
    split
    · exact examineAll_groupLaw (h.framed (by simp))
    · exact h
    · exact h
  | resetHub =>
    exact withPrivilege_keeps h (withFields_keeps h fun _ _ => whileAttached_keeps h (h.framed (by simp [accept])))
  | noteSet => exact withPrivilege_keeps h (withFields_keeps h fun _ _ => whileAttached_keeps h (h.framed (by simp)))
  | status => exact withFields_keeps h fun _ _ => whileAttached_keeps h h

theorem takeRequest_groupLaw {c : Client} {rule : Request → State → Answer} (hr : RuleOf c rule)
    (wanted : Request → Bool) (h : GroupLawBut o s) : GroupLawBut o (takeRequest c wanted rule s) := by
  rcases takeRequest_cases c wanted rule s with e | ⟨q, rest, -, -, -, e⟩ <;> rw [e]
  · exact h
  · have hu : GroupLawBut o (withoutRequest c rest s) := h.framed (by simp [withoutRequest])
    exact (rule_groupLaw hr q hu).framed (by simp)

/-! ## Every step -/

theorem assertResetInput_groupLaw (h : GroupLawBut o s) (pins : PinLevels) : GroupLawBut o (assertResetInput pins s) := by
  unfold assertResetInput
  dsimp only
  split
  · exact h.framed (by simp)
  · exact hubReset_groupLaw ..

theorem groupLaw_keptByParts : KeptByParts (GroupLawBut none) where
  pending _ _ h := h.framed (by simp)
  time _ _ h := h.framed (by simp)
  settle _ h := h.framed (by simp)
  lower t _ h := lower_groupLaw h t
  expire t _ h := expire_groupLaw h t
  gapFails c _ h := gapFails_groupLaw h c
  receiveByte c b _ h := receiveByte_groupLaw h c b
  frameSent c _ h := frameSent_groupLaw h c
  takeHead _ h := takeHead_groupLaw h
  changeRawLevel l v _ h := changeRawLevel_groupLaw h l v
  powerOn _ _ _ _ := hubReset_groupLaw ..
  assertInput pins _ h := assertResetInput_groupLaw h pins
  releaseInput _ h := h.framed (by simp)
  take _ wanted _ _ hr h := takeRequest_groupLaw hr wanted h

end Operations

/-- Settles O58: each part of which a step is made keeps the law of FIRST groups, whether or not the law of records holds. -/
theorem everyStepKeepsTheGroupLaw : Obligations.EveryStepKeepsTheGroupLaw := fun _ _ _ h e =>
  groupLaw_iff.2 (groupLaw_keptByParts.step (groupLaw_iff.1 h) e)

end Sys2Proof.Laws
end

section
/-! PROOF. The route engine: the target decision (R41 to R43), the lookup and unrouted events (R35, R36, R39, R40), the requests
of a routing and the FIRST group it forms (R44, R46, R48, R50), and the end of a group (R48, R49, R93). -/

namespace Sys2Proof.Laws

open Sys2Proof.Machine Sys2Proof.Safety

/-! ## The target decision (R41 to R43) -/

theorem sound_iff (h : Health) : h.sound = true ↔ h = .healthy ∨ h = .warned := by
  cases h <;> simp [Health.sound]

section Resolve

variable {s : State} {t : Client}

theorem resolveTarget_sound (h : (s.healthOf t).health = .healthy ∨ (s.healthOf t).health = .warned) (fb : Option Client) :
    resolveTarget s fb t = some t := by
  unfold resolveTarget
  rw [if_pos ((sound_iff _).2 h)]

theorem resolveTarget_restricted (h : (s.healthOf t).health = .restricted) (fb : Option Client) : resolveTarget s fb t =
    some ((fb.filter fun f => (s.healthOf f).health.sound && f ≠ t).getD t) := by
  unfold resolveTarget
  rw [h]
  rfl

theorem resolveTarget_unattached (h : (s.healthOf t).health = .detached ∨ (s.healthOf t).health = .rejoining)
    (fb : Option Client) : resolveTarget s fb t = fb.filter fun f => s.attached f && f ≠ t := by
  unfold resolveTarget
  rcases h with h | h <;> rw [h] <;> rfl

end Resolve

/-- The resolution of a target reads the health of the clients alone. -/
theorem resolveTarget_of_health {s v : State} (h : v.health = s.health) (fb : Option Client) (t : Client) :
    resolveTarget v fb t = resolveTarget s fb t := by
  unfold resolveTarget State.attached State.healthOf
  rw [h]

/-- Client t is a target of the entry that has no outcome (R42). -/
abbrev Unresolved (x : RouteEntry) (s : State) (t : Client) : Prop :=
  x.targets.getLsbD t.val = true ∧ resolveTarget s x.fallback t = none

/-- The drop of the decision of target t, if it is one. -/
def accountTarget (x : RouteEntry) (k : Key) (s v : State) (t : Client) : State :=
  if Unresolved x s t then dropFor t k v else v

/-- The outcome of the decision of target t, if it has one. -/
def outcomeFor (x : RouteEntry) (s : State) (t : Client) : Option Client :=
  if x.targets.getLsbD t.val then resolveTarget s x.fallback t else none

theorem outcomeFor_eq_some {x : RouteEntry} {s : State} {t c : Client} :
    outcomeFor x s t = some c ↔ x.targets.getLsbD t.val = true ∧ resolveTarget s x.fallback t = some c := by
  unfold outcomeFor
  split <;> simp_all

theorem accountTarget_health (x : RouteEntry) (k : Key) (s v : State) (t : Client) :
    (accountTarget x k s v t).health = v.health := by
  unfold accountTarget
  split <;> simp

theorem decideTarget_eq {x : RouteEntry} {k : Key} {s : State} {p : State × List Client} (h : p.1.health = s.health)
    (t : Client) : decideTarget x k p t = (accountTarget x k s p.1 t, (outcomeFor x s t).toList ++ p.2) := by
  unfold decideTarget accountTarget outcomeFor
  rw [resolveTarget_of_health h]
  by_cases hb : x.targets.getLsbD t.val = true
  · rw [if_pos hb, if_pos hb]
    rcases Option.eq_none_or_eq_some (resolveTarget s x.fallback t) with hr | ⟨c, hr⟩
    · rw [if_pos (show Unresolved x s t from ⟨hb, hr⟩), hr]
      rfl
    · rw [if_neg fun e : Unresolved x s t => Option.some_ne_none c (hr.symm.trans e.2), hr]
      rfl
  · rw [if_neg hb, if_neg hb, if_neg fun e : Unresolved x s t => hb e.1]
    rfl

/-- The decisions of the targets, one after another, are each made as the state stands before them, since a drop changes no
client's health. -/
theorem foldl_decideTarget {x : RouteEntry} {k : Key} {s : State} (l : List Client) {p : State × List Client}
    (h : p.1.health = s.health) : (l.foldl (decideTarget x k) p).1 = l.foldl (accountTarget x k s) p.1 ∧
      ∀ c, c ∈ (l.foldl (decideTarget x k) p).2 ↔ c ∈ p.2 ∨ ∃ t ∈ l, outcomeFor x s t = some c := by
  induction l generalizing p with
  | nil => simp
  | cons t l ih =>
    rw [List.foldl_cons, decideTarget_eq h]
    obtain ⟨hs, hr⟩ := ih (p := (accountTarget x k s p.1 t, (outcomeFor x s t).toList ++ p.2))
      ((accountTarget_health ..).trans h)
    refine ⟨hs, fun c => ?_⟩
    rw [hr, List.mem_append, Option.mem_toList]
    simp only [List.mem_cons, exists_eq_or_imp]
    tauto

theorem mem_clients (c : Client) : c ∈ clients := by revert c; decide

theorem decideTargets_state (x : RouteEntry) (k : Key) (s : State) :
    (decideTargets x k s).1 = clients.foldl (accountTarget x k s) s := (foldl_decideTarget (p := (s, [])) clients rfl).1

theorem mem_decideTargets (x : RouteEntry) (k : Key) (s : State) (c : Client) :
    c ∈ (decideTargets x k s).2 ↔ ∃ t, outcomeFor x s t = some c := by
  have h := (foldl_decideTarget (x := x) (k := k) (p := (s, [])) clients rfl).2 c
  simp only [List.not_mem_nil, false_or, mem_clients, true_and] at h
  unfold decideTargets
  simp only [List.mem_filter, mem_clients, true_and, List.contains_iff_mem, h]

/-- Each target without an outcome is accounted once (R42, R67). -/
theorem foldl_accountTarget_dropsOf (x : RouteEntry) (k : Key) (s : State) {l : List Client} (hn : l.Nodup) (v : State)
    (t : Client) : (l.foldl (accountTarget x k s) v).dropsOf t = if t ∈ l ∧ Unresolved x s t then
      ⟨min 65535 ((v.dropsOf t).total + 1), min 255 ((v.dropsOf t).sinceReady + 1)⟩ else v.dropsOf t := by
  induction l generalizing v with
  | nil => simp
  | cons c l ih =>
    obtain ⟨hc, hn⟩ := List.nodup_cons.1 hn
    have hacc : (accountTarget x k s v c).dropsOf t = if t = c ∧ Unresolved x s t then
        ⟨min 65535 ((v.dropsOf t).total + 1), min 255 ((v.dropsOf t).sinceReady + 1)⟩ else v.dropsOf t := by
      unfold accountTarget
      by_cases hu : Unresolved x s c
      · rw [if_pos hu, State.dropsOf, dropFor_drops, Table.get_set]
        by_cases ht : t = c
        · rw [if_pos ht, ht, if_pos ⟨rfl, hu⟩]
        · rw [if_neg ht, if_neg fun e => ht e.1]
      · rw [if_neg hu, if_neg fun e : t = c ∧ Unresolved x s t => hu (e.1 ▸ e.2)]
    rw [List.foldl_cons, ih hn, hacc]
    by_cases ht : t = c
    · subst ht
      simp [hc]
    · simp [ht]

/-- Settles O13: a target by its client's health, and the targets one after another. -/
theorem targetsResolveByHealth : Obligations.TargetsResolveByHealth := by
  refine ⟨fun s fb t => ⟨fun h => resolveTarget_sound h fb, fun h => ⟨fun f hf hne hs => ?_, fun hf => ?_⟩,
    fun h => ⟨fun f hf hne ha => ?_, fun hf => ?_⟩⟩, fun x k s => ⟨?_, fun c => ?_, fun t => ?_, ?_, ?_, ?_⟩⟩
  · rw [resolveTarget_restricted h, hf, Option.filter_some, if_pos (by simp [(sound_iff _).2 hs, hne])]
    rfl
  · have hnone : (fb.filter fun f => (s.healthOf f).health.sound && f ≠ t) = none := by
      rw [Option.filter_eq_none_iff]
      intro f hfb hp
      rw [Bool.and_eq_true, sound_iff, decide_eq_true_iff] at hp
      obtain ⟨hs, hne⟩ := hp
      rcases hf f hfb with he | he
      · exact hne he
      · rcases hs with hs | hs <;> simp [hs] at he
    rw [resolveTarget_restricted h, hnone]
    rfl
  · rw [resolveTarget_unattached h, hf, Option.filter_some, if_pos (by simp [ha, hne])]
  · rw [resolveTarget_unattached h, Option.filter_eq_none_iff]
    intro f hfb hp
    rw [Bool.and_eq_true, decide_eq_true_iff] at hp
    obtain ⟨ha, hne⟩ := hp
    rcases hf f hfb with he | he
    · exact hne he
    · rw [ha] at he; cases he
  · exact List.Pairwise.filter _ (by decide)
  · rw [mem_decideTargets]
    exact exists_congr fun t => outcomeFor_eq_some
  · rw [decideTargets_state, foldl_accountTarget_dropsOf x k s (by decide)]
    simp only [mem_clients, true_and]
  · exact decideTargets_state x k s
  · simp
  · simp

/-! ## The lookup, and an unrouted event (R35, R36, R39, R40) -/

theorem lookup_eq_some (s : State) (k : Key) (e : EntryNo) :
    lookup s k = some e ↔ Matches s k e ∧ ∀ e', e' < e → ¬ Matches s k e' := by
  unfold lookup entryNos
  simp only [find_finRange, ← Bool.not_eq_true, hits_iff]

theorem lookup_eq_none (s : State) (k : Key) : lookup s k = none ↔ ∀ e, ¬ Matches s k e := by
  unfold lookup entryNos
  simp only [List.find?_eq_none, List.mem_finRange, true_implies, hits_iff]

theorem supervisorRoute_targets (s : State) (t : Client) :
    (supervisorRoute s).targets.getLsbD t.val = true ↔ t = s.sup.straps.supsel := by
  unfold supervisorRoute
  dsimp only
  generalize s.sup.straps.supsel = c
  revert t c
  decide

/-- Without a fallback a target resolves to itself, or not at all (R41). -/
theorem resolveTarget_none (s : State) (t : Client) : resolveTarget s none t = if s.attached t then some t else none := by
  unfold resolveTarget State.attached
  cases (s.healthOf t).health <;> rfl

theorem routeUnrouted_supervisor {s : State} (h : s.sup.straps.unrouted = .supervisor) (d : Descriptor) :
    routeUnrouted d s = sendRequests d (supervisorRoute s) .unrouted .each (decideTargets (supervisorRoute s) d.key s).2
      (decideTargets (supervisorRoute s) d.key s).1 := by
  unfold routeUnrouted
  rw [h]

theorem outcomeFor_supervisorRoute (s : State) (t c : Client) : outcomeFor (supervisorRoute s) s t = some c ↔
    t = s.sup.straps.supsel ∧ s.attached t = true ∧ t = c := by
  rw [outcomeFor_eq_some, supervisorRoute_targets, show (supervisorRoute s).fallback = none from rfl, resolveTarget_none]
  simp

theorem accountTarget_supervisorRoute (k : Key) (s v : State) (t : Client) : accountTarget (supervisorRoute s) k s v t =
    if t = s.sup.straps.supsel then if s.attached s.sup.straps.supsel = true then v else dropFor t k v else v := by
  unfold accountTarget Unresolved
  rw [show (supervisorRoute s).fallback = none from rfl, resolveTarget_none]
  simp only [supervisorRoute_targets]
  by_cases ht : t = s.sup.straps.supsel
  · subst ht
    cases s.attached s.sup.straps.supsel <;> simp
  · simp [ht]

/-- Of operations made for clients 0 to 3 in turn, one alone does something. -/
theorem foldl_clients_one (f : State → State) (c : Client) (s : State) :
    clients.foldl (fun v t => if t = c then f v else v) s = f s := by
  revert c
  exact eachClient _ rfl rfl rfl rfl

/-- An unrouted event under SUPERVISOR: one request, if the supervising client is attached, or one drop (R40). -/
theorem decideTargets_supervisorRoute (k : Key) (s : State) :
    decideTargets (supervisorRoute s) k s = if s.attached s.sup.straps.supsel = true then (s, [s.sup.straps.supsel])
      else (dropFor s.sup.straps.supsel k s, []) := by
  have hstate := decideTargets_state (supervisorRoute s) k s
  have hmem := mem_decideTargets (supervisorRoute s) k s
  simp only [outcomeFor_supervisorRoute, exists_eq_left] at hmem
  refine Prod.ext ?_ ?_
  · rw [hstate, funext fun v => funext fun t => accountTarget_supervisorRoute k s v t]
    split
    · simp only [ite_self]
      exact List.foldl_fixed' (fun _ => rfl) _
    · rw [← foldl_clients_one (dropFor s.sup.straps.supsel k) s.sup.straps.supsel]
      congr 1
      funext v t
      split <;> simp_all
  · split
    · rename_i ha
      simp only [ha, true_and] at hmem
      refine List.perm_singleton.1 ((List.perm_ext_iff_of_nodup (decideTargets_nodup ..) (List.nodup_singleton _)).2 fun c => ?_)
      rw [hmem, List.mem_singleton, eq_comm]
    · rename_i ha
      exact List.eq_nil_iff_forall_not_mem.2 fun c hc => ha ((hmem c).1 hc).1

theorem routeUnrouted_drop {s : State} (h : s.sup.straps.unrouted = .drop) (d : Descriptor) :
    routeUnrouted d s = if d.key.isNotice then loseNotice s else s.setUnrouted (up16 s.unrouted) := by
  unfold routeUnrouted
  rw [h]

/-- Settles O12: the lookup by its search in ascending order, an unrouted event by the strap. -/
theorem lookupFindsTheFirstMatch : Obligations.LookupFindsTheFirstMatch := by
  refine ⟨fun s k => ⟨lookup_eq_some s k, lookup_eq_none s k⟩,
    fun d s => ⟨fun hd hk => ?_, fun hd hk => ?_, fun hs => ⟨fun ha => ?_, fun ha => ?_⟩⟩⟩
  · rw [routeUnrouted_drop hd, if_neg fun e => hk ((isNotice_iff d.key).1 e)]
    rfl
  · rw [routeUnrouted_drop hd, if_pos ((isNotice_iff d.key).2 hk)]
    rfl
  · rw [routeUnrouted_supervisor hs, decideTargets_supervisorRoute, if_pos ha]
    rfl
  · rw [routeUnrouted_supervisor hs, decideTargets_supervisorRoute, if_neg (Bool.not_eq_true _ ▸ ha)]
    rfl

/-! ## The requests of a routing, and its group (R44, R46, R48, R50) -/

theorem freeGroup_eq {s : State} {g : GroupNo} (hg : s.groups.get g = none)
    (hlow : ∀ g', g' < g → (s.groups.get g').isSome) : freeGroup s = some g := by
  unfold freeGroup groupNos
  rw [find_finRange]
  exact ⟨by rw [hg]; rfl, fun j hj => by rw [← Option.not_isSome, hlow j hj]; rfl⟩

theorem freeGroup_eq_none {s : State} (h : ∀ g, (s.groups.get g).isSome) : freeGroup s = none :=
  List.find?_eq_none.2 fun g _ => by rw [← Option.not_isSome, h g]; decide

/-- How a group ends, by whether it is done and by the class of its event (R49, R93, R13). -/
theorem endGroup_eq (g : GroupNo) (x : FirstGroup) (k : Key) (s : State) :
    (x.done = true → endGroup g x k s = s.setGroup g none) ∧
    (x.done = false → k.cls = 15 → endGroup g x k s = (s.setLostNotices (min 65535 (s.lostNotices + 1))).setGroup g none) ∧
    (x.done = false → k.cls ≠ 15 → endGroup g x k s = (offerNotice .unclaimed x.entry.val s).setGroup g none) := by
  unfold endGroup
  refine ⟨fun hd => ?_, fun hd hk => ?_, fun hd hk => ?_⟩ <;> rw [hd]
  · rfl
  · rw [(isNotice_iff k).2 hk]
    rfl
  · rw [show k.isNotice = false from decide_eq_false hk]
    rfl

/-- Settles O14: the routing by its entry's mode and the groups that are free, the end of a group by its live count. -/
theorem routingSendsOneRequestPerClient : Obligations.RoutingSendsOneRequestPerClient := by
  refine ⟨fun d x h m e c rs s => ⟨rfl, rfl, fun hm => ?_, fun hm => ?_, fun g hl hg hlow => ?_, fun hl hg => ?_, fun hl => ?_⟩,
    fun g x k s hx => ?_, fun g k s => ⟨fun hn => closeGroup_of_free hn k, fun x hx => ?_⟩⟩
  · unfold routeByEntry
    dsimp only
    rw [hm]
  · unfold routeByEntry
    dsimp only
    rw [hm]
  · unfold routeFirst
    rw [if_pos hl, freeGroup_eq hg hlow]
  · unfold routeFirst
    rw [if_pos hl, freeGroup_eq_none hg]
  · unfold routeFirst
    rw [if_neg (by omega)]
  · obtain ⟨hdone, hnotice, hclaim⟩ := endGroup_eq g x k s
    rw [groupLosesCopy_eq hx]
    refine ⟨fun hl => if_neg (by omega), fun hl => ?_, fun hl => ?_, fun hl => ?_⟩ <;> rw [if_pos hl.le]
    exacts [hdone, hnotice, hclaim]
  · obtain ⟨hdone, hnotice, hclaim⟩ := endGroup_eq g x k s
    rw [closeGroup_eq hx]
    refine ⟨fun hl => if_neg hl, fun hl => ?_, fun hl => ?_, fun hl => ?_⟩ <;> rw [if_pos hl]
    exacts [hdone, hnotice, hclaim]

end Sys2Proof.Laws
end

section
/-! PROOF. The requests of the route table: ROUTE_WRITE (R51), BANK_SET (R38) and ROUTE_READ (R52). -/

namespace Sys2Proof.Laws

open Sys2Proof.Machine Sys2Proof.Safety

/-- A check that is made after others. -/
theorem judged_append (c : Client) (q : Request) (u : State) (l m : List (Bool × Status)) (done : State) :
    judged c q u (l ++ m) done = judged c q u l (judged c q u m done) := by
  induction l with
  | nil => rfl
  | cons x l ih => rw [List.cons_append, judged_cons, judged_cons, ih]

theorem outcomeOf_writeEntry (c : Client) (q : Request) (e : EntryNo) (x : RouteEntry) (u : State) :
    outcomeOf c q (writeEntry e x u) =
      judged c q u [(u.banks.get (bankOf e) = .opened, .bankOpen)] (replied c q .ok [] (u.setEntry e x)) := by
  unfold writeEntry
  rw [judged_cons, judged_nil]
  simp only [decide_eq_true_iff]
  split <;> rfl

/-- The entries of a table that meet a test, counted in its data. -/
theorem countP_data {n : Nat} {α : Type} (t : Table n α) (p : α → Bool) :
    t.data.countP p = (Finset.univ.filter fun i => p (t.get i) = true).card := by
  rw [table_data, List.countP_map, List.countP_eq_length_filter, Fin.univ_def]
  simp [Finset.card, Finset.filter, Function.comp_def]

section Rules

variable {s u : State} {c : Client} {a : Arrival} {q : Request}

theorem exec_routeWrite (ht : Takes s c .routeWrite a q u) : exec (.routeWrite c a) s = .next (outcomeOf c q
    (configure c (parseRouteWrite q.payload) u fun p => writeEntry p.1 p.2 u)) :=
  congrArg Host.Outcome.next (serve_of_takes (ruleRouteWrite c) ht)

theorem exec_bankSet (ht : Takes s c .bankSet a q u) : exec (.bankSet c a) s = .next (outcomeOf c q
    (configure c (parseBankSet q.payload) u fun p => (u.setBank p.1 p.2, .ok, bankFields (u.setBank p.1 p.2)))) :=
  congrArg Host.Outcome.next (serve_of_takes (ruleBankSet c) ht)

theorem exec_routeRead (ht : Takes s c .routeRead a q u) : exec (.routeRead c a) s = .next (outcomeOf c q
    (withFields (parseIndex 48 q.payload) u fun e => whileAttached c u (u, .ok, routeReadFields u e))) :=
  congrArg Host.Outcome.next (serve_of_takes (ruleRouteRead c) ht)

end Rules

theorem bankFields_eq (s : State) :
    bankFields s = ([0, 1, 2, 3, 4, 5] : List BankNo).map fun n => byte (s.banks.get n).code := by
  unfold bankFields
  rw [table_data, List.map_map]
  rfl

/-- Settles O48: each request by whether its payload reads, and by the checks of its rule in their order. -/
theorem routeTableRequests : Obligations.RouteTableRequests := by
  refine ⟨fun s u c a q ht => ⟨fun e x hx hq => ?_, fun hq => ?_⟩, fun s u c a q ht => ⟨fun b x hq => ?_, fun hq => ?_⟩,
    fun s u c a q ht => ⟨fun e hq => ?_, fun hq => ?_⟩⟩
  · rw [exec_routeWrite ht, outcomeOf_configure_some c q u ((parseRouteWrite_eq q.payload e x).2 ⟨hx, hq⟩),
      outcomeOf_writeEntry, ← judged_append]
    rfl
  · have hn : parseRouteWrite q.payload = none := Option.eq_none_iff_forall_ne_some.2 fun p hp => by
      obtain ⟨hx, hb⟩ := (parseRouteWrite_eq q.payload p.1 p.2).1 hp
      exact hq p.1 p.2 hx hb
    rw [exec_routeWrite ht, outcomeOf_configure_none c q u hn]
  · rw [exec_bankSet ht, outcomeOf_configure_some c q u ((parseBankSet_eq q.payload b x).2 hq), outcomeOf_mk, bankFields_eq]
    rfl
  · have hn : parseBankSet q.payload = none := Option.eq_none_iff_forall_ne_some.2 fun p hp =>
      hq p.1 p.2 ((parseBankSet_eq q.payload p.1 p.2).1 hp)
    rw [exec_bankSet ht, outcomeOf_configure_none c q u hn]
  · rw [exec_routeRead ht, outcomeOf_read_some c q u ((parseIndex_eq (by omega) q.payload e).2 hq)]
    unfold routeReadFields groupsInUse
    rw [countP_data]
    rfl
  · rw [exec_routeRead ht, outcomeOf_fields_none c q u (parseIndex_ne (by omega) hq)]

end Sys2Proof.Laws
end

section
/-! PROOF. The pool and its reserves (R54, R56, R61), the order of a client's queue (R57 to R59), and what a placement at the front
merges (R70, R71). -/

namespace Sys2Proof.Laws

open Sys2Proof.Machine Sys2Proof.Safety

/-! ## The pool and the reserves -/

/-- A place of the pool is FREE, or one client owns its record. -/
theorem free_or_owned (p : PoolSlot) :
    (if p.held.isNone then 1 else 0) + ((if ownedBy 0 p then 1 else 0) + (if ownedBy 1 p then 1 else 0) +
      (if ownedBy 2 p then 1 else 0) + (if ownedBy 3 p then 1 else 0)) = 1 := by
  unfold ownedBy
  cases p.held with
  | none => rfl
  | some r =>
    have one : ∀ c : Client, (if c = 0 then 1 else 0) + (if c = 1 then 1 else 0) + (if c = 2 then 1 else 0) +
        (if c = 3 then 1 else 0) = 1 := by decide
    simp only [Option.any_some, Option.isNone_some, decide_eq_true_eq]
    exact (Nat.zero_add _).trans (one r.owner)

theorem counts_add_up (l : List PoolSlot) : l.countP (fun p => p.held.isNone) +
    (l.countP (ownedBy 0) + l.countP (ownedBy 1) + l.countP (ownedBy 2) + l.countP (ownedBy 3)) = l.length := by
  induction l with
  | nil => rfl
  | cons p l ih =>
    have := free_or_owned p
    simp only [List.countP_cons, List.length_cons]
    omega

theorem freeCount_pos_iff (s : State) : 1 ≤ freeCount s ↔ ∃ j, s.record j = none := by
  unfold freeCount
  rw [Nat.one_le_iff_ne_zero, ← Nat.pos_iff_ne_zero, List.countP_pos_iff]
  constructor
  · rintro ⟨p, hp, hn⟩
    obtain ⟨k, hk, rfl⟩ := List.mem_iff_getElem.1 hp
    exact ⟨⟨k, s.pool.size ▸ hk⟩, Option.isNone_iff_eq_none.1 hn⟩
  · rintro ⟨j, hj⟩
    exact ⟨s.slot j, List.getElem_mem _, Option.isNone_iff_eq_none.2 hj⟩

/-- A sum over the other clients, as the model lists them. -/
theorem sum_other_clients (c : Client) (f : Client → Nat) :
    ((clients.filter (· ≠ c)).map f).sum = (Finset.univ.erase c).sum f := by
  have hn : (clients.filter (· ≠ c)).Nodup := (show clients.Nodup by decide).filter _
  rw [← List.sum_toFinset f hn]
  refine congrArg (Finset.sum · f) ?_
  revert c
  decide

theorem mayTake_iff (s : State) (c : Client) : mayTake s c = true ↔ (∃ j, s.record j = none) ∧
    (heldCount s c < 4 ∨ 1 + ((Finset.univ.erase c).sum fun d => 4 - heldCount s d) ≤ freeCount s) := by
  unfold mayTake
  rw [Bool.and_eq_true, Bool.or_eq_true, decide_eq_true_iff, decide_eq_true_iff, decide_eq_true_iff, freeCount_pos_iff,
    sum_other_clients, Nat.add_comm 1]
  rfl

theorem lowestFree_eq_some (s : State) (i : RecIndex) :
    lowestFree s = some i ↔ s.record i = none ∧ ∀ j, j < i → s.record j ≠ none := by
  unfold lowestFree recIndexes
  simp only [find_finRange, Option.isNone_iff_eq_none, Option.isNone_eq_false_iff, Option.isSome_iff_ne_none]

/-- Settles O15: the counts by the places of the pool, the grant by R61's condition and the lowest FREE index. -/
theorem poolAndReserve : Obligations.PoolAndReserve := by
  refine ⟨fun s => (counts_add_up s.pool.data).trans s.pool.size, fun s c i => ?_⟩
  unfold grantedIndex
  rw [← mayTake_iff, ← lowestFree_eq_some]
  cases mayTake s c <;> simp

/-! ## The order of a queue -/

theorem setQueue_queue (s : State) (c d : Client) (q : List RecIndex) :
    (s.setQueue c q).queue d = if d = c then q else s.queue d := by
  simp only [State.queue, State.setQueue_queues, Table.get_set]

theorem atLeast_iff (s : State) (p : Priority) (i : RecIndex) :
    atLeast s p i = true ↔ ∃ r, s.record i = some r ∧ p ≤ r.priority := by
  simp only [atLeast, Option.any_eq_true, decide_eq_true_eq]

theorem priority_lt_of_not_atLeast {s : State} {p : Priority} {i : RecIndex} (h : atLeast s p i = false) {r : Record}
    (hr : s.record i = some r) : r.priority < p := by
  by_contra hp
  rw [(atLeast_iff s p i).2 ⟨r, hr, not_lt.1 hp⟩] at h
  cases h

/-- Behind the place of R57 stand records of lower priority only. -/
theorem lower_behind_place (s : State) (p : Priority) (q : List RecIndex) {j : RecIndex}
    (hj : j ∈ q.drop (placeBehind (atLeast s p) q)) {r : Record} (hr : s.record j = some r) : r.priority < p :=
  priority_lt_of_not_atLeast (placeBehind_drop _ q j hj) hr

/-- Just before the place of R57 stands a record of equal or higher priority. -/
theorem higher_before_place (s : State) (p : Priority) (q : List RecIndex) {j : RecIndex}
    (hj : (q.take (placeBehind (atLeast s p) q)).getLast? = some j) : ∃ r, s.record j = some r ∧ p ≤ r.priority :=
  (atLeast_iff s p j).1 (placeBehind_take _ q j hj)

theorem enqueue_queue (s : State) (c d : Client) (p : Priority) (i : RecIndex) : (enqueue s c p i).queue d =
    if d = c then insertAt (placeBehind (atLeast s p) (s.queue c)) i (s.queue c) else s.queue d :=
  setQueue_queue s c d _

theorem enqueueFront_queue (s : State) (c d : Client) (i : RecIndex) :
    (enqueueFront s c i).queue d = if d = c then i :: s.queue c else s.queue d := setQueue_queue s c d _

/-- The place to which a record at `i` whose priority has risen to `p` moves, counted among the others (R59). -/
def risenPlace (s : State) (c : Client) (p : Priority) (i : RecIndex) : Nat :=
  min ((s.queue c).idxOf i) (placeBehind (atLeast s p) ((s.queue c).filter (· ≠ i)))

theorem moveUp_queue (s : State) (c d : Client) (p : Priority) (i : RecIndex) : (moveUp s c p i).queue d =
    if d = c then insertAt (risenPlace s c p i) i ((s.queue c).filter (· ≠ i)) else s.queue d := setQueue_queue s c d _

/-- The queue without a record that stands in it once. -/
theorem filter_of_nodup_split {i : RecIndex} {front behind : List RecIndex} (h : (front ++ i :: behind).Nodup) :
    (front ++ i :: behind).filter (· ≠ i) = front ++ behind ∧ (front ++ i :: behind).idxOf i = front.length := by
  obtain ⟨hi, -⟩ := List.nodup_middle.1 h |> List.nodup_cons.1
  have hf : i ∉ front := fun hm => hi (List.mem_append_left _ hm)
  have hb : i ∉ behind := fun hm => hi (List.mem_append_right _ hm)
  constructor
  · rw [List.filter_append, List.filter_cons_of_neg (by simp)]
    rw [List.filter_eq_self.2, List.filter_eq_self.2]
    · intro j hj
      exact decide_eq_true fun e => hb (e ▸ hj)
    · intro j hj
      exact decide_eq_true fun e => hf (e ▸ hj)
  · rw [List.idxOf_append_of_notMem hf, List.idxOf_cons_self, Nat.add_zero]

/-- When the place of R57 lies behind the first `m` records, a record of equal or higher priority stands at its front. -/
theorem higher_around (s : State) (p : Priority) (q : List RecIndex) {m : Nat} (hm : m ≤ placeBehind (atLeast s p) q) :
    q.take m = [] ∨
      ∃ j r, ((q.take m).getLast? = some j ∨ j ∈ q.drop m) ∧ s.record j = some r ∧ p ≤ r.priority := by
  have hle := placeBehind_le (atLeast s p) q
  rcases Nat.eq_zero_or_pos (placeBehind (atLeast s p) q) with h0 | hpos
  · exact .inl (by rw [show m = 0 by omega, List.take_zero])
  · obtain ⟨n, hn⟩ := Nat.exists_eq_succ_of_ne_zero hpos.ne'
    have hlt : n < q.length := by omega
    have hlast : (q.take (n + 1)).getLast? = some q[n] := by
      rw [List.take_add_one, List.getElem?_eq_getElem hlt, Option.toList_some, List.getLast?_concat]
    obtain ⟨r, hr, hp⟩ := higher_before_place s p q (by rw [hn]; exact hlast)
    refine .inr ⟨q[n], r, ?_, hr, hp⟩
    rcases Nat.lt_or_ge n m with hnm | hmn
    · have : m = n + 1 := by omega
      exact .inl (this ▸ hlast)
    · exact .inr (List.mem_drop_iff_getElem.2 ⟨n - m, by omega, by congr 1; omega⟩)

/-- A record whose priority has risen moves forward to the place of R57, or stays (R59). -/
theorem moveUp_order {s : State} {c : Client} {i : RecIndex} {front behind : List RecIndex} (p : Priority)
    (hn : (s.queue c).Nodup) (hq : s.queue c = front ++ i :: behind) :
    ∃ pre post, front ++ behind = pre ++ post ∧ (moveUp s c p i).queue c = pre ++ i :: post ∧
      pre.length ≤ front.length ∧
      (∀ j, pre.getLast? = some j → pre.length < front.length → ∃ r, s.record j = some r ∧ p ≤ r.priority) ∧
      (pre.length < front.length → ∀ j ∈ post, ∀ r, s.record j = some r → r.priority < p) ∧
      (pre.length = front.length → pre = [] ∨
        ∃ j r, (pre.getLast? = some j ∨ j ∈ post) ∧ s.record j = some r ∧ p ≤ r.priority) := by
  obtain ⟨hothers, hplace⟩ := filter_of_nodup_split (hq ▸ hn)
  have hm : risenPlace s c p i = min front.length (placeBehind (atLeast s p) (front ++ behind)) := by
    rw [risenPlace, hq, hothers, hplace]
  have hlen : ((front ++ behind).take (risenPlace s c p i)).length = risenPlace s c p i :=
    List.length_take_of_le (by rw [hm, List.length_append]; omega)
  have hforward : risenPlace s c p i < front.length →
      risenPlace s c p i = placeBehind (atLeast s p) (front ++ behind) := by omega
  refine ⟨(front ++ behind).take (risenPlace s c p i), (front ++ behind).drop (risenPlace s c p i),
    (List.take_append_drop _ _).symm, ?_, ?_⟩
  · rw [moveUp_queue, if_pos rfl, hq, hothers]
    rfl
  · rw [hlen]
    refine ⟨by omega, fun j hj hlt => ?_, fun hlt j hj r hr => ?_, fun _ => higher_around s p _ (by omega)⟩
    · rw [hforward hlt] at hj
      exact higher_before_place s p _ hj
    · rw [hforward hlt] at hj
      exact lower_behind_place s p _ hj hr

theorem placeAtFront_of_alone {i : RecIndex} {r : Record} {s : State}
    (h : r.mode ≠ .each ∨ sameKeyRecord (enqueueFront (s.setRecord i (some r)) r.owner i) r.owner r.key (some i) = none) :
    placeAtFront i r s = enqueueFront (s.setRecord i (some r)) r.owner i := by
  unfold placeAtFront
  dsimp only
  by_cases hm : r.mode = .each
  · rw [if_pos hm, h.resolve_left fun hn => hn hm]
  · rw [if_neg hm]

theorem placeAtFront_of_merge {i j : RecIndex} {r o : Record} {s : State} (hm : r.mode = .each)
    (h : sameKeyRecord (enqueueFront (s.setRecord i (some r)) r.owner i) r.owner r.key (some i) = some (j, o)) :
    placeAtFront i r s = mergeFront i r j o (enqueueFront (s.setRecord i (some r)) r.owner i) := by
  unfold placeAtFront
  dsimp only
  rw [if_pos hm, h]

/-- Settles O16: the three orders by the place of R57, and the placement at the front by whether another record has its key. -/
theorem queueOrder : Obligations.QueueOrder := by
  refine ⟨fun s c p i => ⟨?_, ?_, fun hn front behind hq => moveUp_order p hn hq, fun d hd => ?_⟩, fun i r s v hv => ?_⟩
  · refine ⟨_, _, (List.take_append_drop _ _).symm, ?_, fun j hj r hr => lower_behind_place s p _ hj hr,
      fun j hj => higher_before_place s p _ hj⟩
    rw [enqueue_queue, if_pos rfl]
    rfl
  · rw [enqueueFront_queue, if_pos rfl]
  · rw [enqueue_queue, enqueueFront_queue, moveUp_queue, if_neg hd, if_neg hd, if_neg hd]
    exact ⟨rfl, rfl, rfl⟩
  · have hv : v = enqueueFront (s.setRecord i (some r)) r.owner i := hv
    have hg : (v.slot i).gen = (s.slot i).gen := by rw [hv]; simp [State.slot, State.setRecord]
    refine ⟨fun h => hv ▸ placeAtFront_of_alone (hv ▸ h), fun j o hm h => ?_⟩
    obtain ⟨-, hne, -, hs, ho, hk⟩ := sameKeyRecord_some h
    refine ⟨⟨fun e => hne (e ▸ rfl), hs, ho, hk⟩, ?_⟩
    rw [placeAtFront_of_merge hm (hv ▸ h), ← hv, ← hg]
    rfl

end Sys2Proof.Laws
end

section
/-! PROOF. A routing request (R60): coalescing (R59, R62), the making in a free record (R63), displacement (R65) and the drop (R64). -/

namespace Sys2Proof.Laws

open Sys2Proof.Machine Sys2Proof.Safety

variable {s : State} {q : StoreRequest}

/-! ## The ways of a request -/

theorem routingRequest_coalesces {i : RecIndex} {r : Record} (hm : q.mode = .each)
    (h : sameKeyRecord s q.owner q.key none = some (i, r)) : routingRequest q s = coalesce i r q.priority q.urgent s := by
  unfold routingRequest
  rw [if_pos hm, h]

theorem routingRequest_of_new (h : q.mode ≠ .each ∨ sameKeyRecord s q.owner q.key none = none) :
    routingRequest q s = makeOrDrop q s := by
  unfold routingRequest
  by_cases hm : q.mode = .each
  · rw [if_pos hm, h.resolve_left fun hn => hn hm]
  · rw [if_neg hm]

theorem makeOrDrop_makes {i : RecIndex} (h : grantedIndex s q.owner = some i) :
    makeOrDrop q s = entered q.owner (makeAt i q s) := by
  unfold makeOrDrop
  rw [h]

theorem makeOrDrop_drops (h : grantedIndex s q.owner = none)
    (hd : q.urgent = false ∨ displacementCandidate s q.owner = none) : makeOrDrop q s = dropFor q.owner q.key s := by
  unfold makeOrDrop
  rw [h]
  cases hu : q.urgent with
  | false => rfl
  | true => rw [if_pos rfl, hd.resolve_left (hu ▸ Bool.noConfusion)]

theorem makeOrDrop_displaces {i : RecIndex} {r : Record} (h : grantedIndex s q.owner = none) (hu : q.urgent = true)
    (hd : displacementCandidate s q.owner = some (i, r)) : makeOrDrop q s = entered q.owner (displace i r q s) := by
  unfold makeOrDrop
  rw [h, if_pos hu, hd]

/-! ## Coalescing and displacement -/

theorem rises_iff (r : Record) (p : Priority) (u : Bool) :
    rises r p u = true ↔ r.priority < p ∨ (u = true ∧ r.urgent = false) := by
  simp only [rises, Bool.or_eq_true, Bool.and_eq_true, decide_eq_true_eq, Bool.not_eq_true']

theorem coalesce_eq (i : RecIndex) (r : Record) (p : Priority) (u : Bool) (s : State) : coalesce i r p u s =
    if r.priority < p ∨ (u = true ∧ r.urgent = false) then entered r.owner (foldInto i r 1 p u s)
    else foldInto i r 1 p u s := by
  unfold coalesce
  dsimp only
  simp only [rises_iff]

/-- A record that R65 lets an urgent request displace. -/
def Displaceable (r : Record) : Prop :=
  r.state = .queued ∧ r.urgent = false ∧ r.mode = .each ∧ r.key.source.toNat < 37

theorem displaceable_iff {i : RecIndex} {r : Record} (h : s.record i = some r) :
    displaceable s i = true ↔ Displaceable r := by
  simp only [displaceable, h, Option.any_some, Bool.and_eq_true, decide_eq_true_eq, Bool.not_eq_true', and_assoc, Displaceable]

/-- The candidate is displaceable, and none stands behind it (R65). -/
theorem displacementCandidate_last {c : Client} {i : RecIndex} {r : Record} (h : displacementCandidate s c = some (i, r)) :
    s.record i = some r ∧ Displaceable r ∧ ∃ pre post, s.queue c = pre ++ i :: post ∧
      ∀ j ∈ post, ∀ o, s.record j = some o → ¬ Displaceable o := by
  unfold displacementCandidate at h
  simp only [Option.bind_eq_some_iff, Option.map_eq_some_iff, Prod.mk.injEq] at h
  obtain ⟨j, hj, x, hx, rfl, rfl⟩ := h
  obtain ⟨hd, behind, front, hq, hlater⟩ := List.find?_eq_some_iff_append.1 hj
  refine ⟨hx, (displaceable_iff hx).1 hd, front.reverse, behind.reverse, ?_, fun k hk o ho hdo => ?_⟩
  · rw [← List.reverse_reverse (s.queue c), hq]
    simp
  · have hk := hlater k (List.mem_reverse.1 hk)
    rw [(displaceable_iff ho).2 hdo] at hk
    cases hk

/-- Settles O18: the request by its four ways, coalescing by its rises, and the displaced record by the search from the back. -/
theorem requestCoalescesMakesDisplacesOrDrops : Obligations.RequestCoalescesMakesDisplacesOrDrops := by
  refine ⟨fun q s => ⟨fun i r h => ?_, fun h i r hi hr => ?_, fun h => ⟨fun i hg => ?_, fun hg => ⟨fun hd => ?_, ?_⟩⟩⟩,
    fun i r p u s v w hv hw => ?_, fun s c i r h => ?_, fun q s => ?_⟩
  · obtain ⟨hi, -, hr, hs, hm, hk⟩ := sameKeyRecord_some h
    exact ⟨⟨hi, hr, hs, hm, hk⟩, fun hm => routingRequest_coalesces hm h⟩
  · exact sameKeyRecord_none h i r hi nofun hr
  · rw [routingRequest_of_new h, makeOrDrop_makes hg]
    rfl
  · rw [routingRequest_of_new h, makeOrDrop_drops hg hd]
  · intro i r hu hd
    rw [routingRequest_of_new h, makeOrDrop_displaces hg hu hd]
    rfl
  · have hf : foldInto i r 1 p u s = w := by rw [hw, hv]; rfl
    rw [coalesce_eq, hf]
    rfl
  · obtain ⟨hr, ⟨hq, hu, hm, hk⟩, hlast⟩ := displacementCandidate_last h
    exact ⟨hr, hq, hu, hm, hk, hlast⟩
  · simp [Untouched]

end Sys2Proof.Laws
end

section
/-! PROOF. What the laws of queues and posts read of a state (R57, R81, R97, R98, R137, R146): the owner, state, mode and key of each
record, and a few items of each client. A client may stand, within an operation, as none stands between two steps; the laws are
stated for any such standing of the clients. -/

namespace Sys2Proof.Laws

open Sys2Proof.Machine Sys2Proof.Safety Function

/-! ## What the laws read of a record -/

/-- The items of a record that the laws read. -/
structure Face where
  owner : Client
  state : RecState
  mode : RecMode
  key : Key

def faceOf (r : Record) : Face := ⟨r.owner, r.state, r.mode, r.key⟩

/-- Whose record it is, and in which state. -/
def Face.role (f : Face) : Client × RecState := (f.owner, f.state)

/-- The owner and the key of a QUEUED EACH record. -/
def Face.each (f : Face) : Option (Client × Key) := if f.state = .queued ∧ f.mode = .each then some (f.owner, f.key) else none

def Face.name (f : Face) : Client × Key := (f.owner, f.key)

def faceAt (s : State) (i : RecIndex) : Option Face := (s.record i).map faceOf

def roleAt (s : State) (i : RecIndex) : Option (Client × RecState) := (faceAt s i).map Face.role

def eachAt (s : State) (i : RecIndex) : Option (Client × Key) := (faceAt s i).bind Face.each

def nameAt (s : State) (i : RecIndex) : Option (Client × Key) := (faceAt s i).map Face.name

section Views

variable {s t : State} {i : RecIndex} {c : Client}

theorem faceAt_of_record {r : Record} (h : s.record i = some r) : faceAt s i = some (faceOf r) := by simp [faceAt, h]

theorem faceAt_of_free (h : s.record i = none) : faceAt s i = none := by simp [faceAt, h]

theorem roleAt_of_record {r : Record} (h : s.record i = some r) : roleAt s i = some (r.owner, r.state) := by
  simp [roleAt, faceAt_of_record h, Face.role, faceOf]

theorem roleAt_of_free (h : s.record i = none) : roleAt s i = none := by simp [roleAt, faceAt_of_free h]

theorem nameAt_of_record {r : Record} (h : s.record i = some r) : nameAt s i = some (r.owner, r.key) := by
  simp [nameAt, faceAt_of_record h, Face.name, faceOf]

theorem nameAt_of_free (h : s.record i = none) : nameAt s i = none := by simp [nameAt, faceAt_of_free h]

theorem roleAt_eq_some {st : RecState} :
    roleAt s i = some (c, st) ↔ ∃ r, s.record i = some r ∧ r.owner = c ∧ r.state = st := by
  simp [roleAt, faceAt, faceOf, Face.role]

theorem nameAt_eq_some {k : Key} : nameAt s i = some (c, k) ↔ ∃ r, s.record i = some r ∧ r.owner = c ∧ r.key = k := by
  simp [nameAt, faceAt, faceOf, Face.name]

theorem eachAt_eq_some {k : Key} : eachAt s i = some (c, k) ↔
    ∃ r, s.record i = some r ∧ (r.state = .queued ∧ r.mode = .each) ∧ r.owner = c ∧ r.key = k := by
  simp only [eachAt, faceAt, Option.bind_eq_some_iff, Option.map_eq_some_iff, exists_exists_and_eq_and, faceOf, Face.each,
    Option.ite_none_right_eq_some, Option.some.injEq, Prod.mk.injEq]

/-- A QUEUED EACH record is its owner's QUEUED record. -/
theorem roleAt_of_eachAt {k : Key} (h : eachAt s i = some (c, k)) : roleAt s i = some (c, .queued) := by
  obtain ⟨r, hr, ⟨hq, -⟩, ho, -⟩ := eachAt_eq_some.1 h
  exact roleAt_eq_some.2 ⟨r, hr, ho, hq⟩

theorem record_of_pool (h : t.pool = s.pool) (i : RecIndex) : t.record i = s.record i := by
  simp only [State.record, State.slot, h]

theorem record_setRecord (s : State) (i : RecIndex) (v : Option Record) (j : RecIndex) :
    (s.setRecord i v).record j = if j = i then v else s.record j := by
  simp only [State.record, State.slot, State.setRecord, State.setSlot, Table.get_set]
  split <;> rfl

theorem faceAt_of_pool (h : t.pool = s.pool) : faceAt t = faceAt s := by
  funext j
  simp only [faceAt, State.record, State.slot, h]

theorem gen_of_pool (h : t.pool = s.pool) (j : RecIndex) : (t.slot j).gen = (s.slot j).gen := by
  simp only [State.slot, h]

/-- One index of the pool is written. -/
theorem faceAt_of_set {v : PoolSlot} (h : t.pool = s.pool.set i v) : faceAt t = update (faceAt s) i (v.held.map faceOf) := by
  funext j
  simp only [faceAt, State.record, State.slot, h, Table.get_set]
  by_cases hj : j = i
  · rw [if_pos hj, hj, update_self]
  · rw [if_neg hj, update_of_ne hj]
    rfl

theorem gen_of_set {v : PoolSlot} (h : t.pool = s.pool.set i v) (hv : v.gen = (s.slot i).gen) (j : RecIndex) :
    (t.slot j).gen = (s.slot j).gen := by
  simp only [State.slot, h, Table.get_set]
  split
  · rename_i hj
    rw [hv, hj]
  · rfl

theorem faceAt_setRecord (s : State) (i : RecIndex) (r : Record) :
    faceAt (s.setRecord i (some r)) = update (faceAt s) i (some (faceOf r)) :=
  faceAt_of_set (v := ⟨(s.slot i).gen, some r⟩) rfl

theorem faceAt_setRecord_none (s : State) (i : RecIndex) : faceAt (s.setRecord i none) = update (faceAt s) i none :=
  faceAt_of_set (v := ⟨(s.slot i).gen, none⟩) rfl

theorem gen_setRecord (s : State) (i : RecIndex) (v : Option Record) (j : RecIndex) :
    ((s.setRecord i v).slot j).gen = (s.slot j).gen :=
  gen_of_set (i := i) (v := ⟨(s.slot i).gen, v⟩) rfl rfl j

/-- A record that changes in none of the items the laws read. -/
theorem faceAt_setRecord_same {r : Record} (h : faceAt s i = some (faceOf r)) : faceAt (s.setRecord i (some r)) = faceAt s := by
  rw [faceAt_setRecord, ← h, update_eq_self]

theorem roleAt_of_faceAt (h : faceAt t = faceAt s) : roleAt t = roleAt s := by
  funext j
  rw [roleAt, roleAt, h]

theorem eachAt_of_faceAt (h : faceAt t = faceAt s) : eachAt t = eachAt s := by
  funext j
  rw [eachAt, eachAt, h]

theorem nameAt_of_faceAt (h : faceAt t = faceAt s) : nameAt t = nameAt s := by
  funext j
  rw [nameAt, nameAt, h]

variable {v : Option Face}

theorem roleAt_update (h : faceAt t = update (faceAt s) i v) : roleAt t = update (roleAt s) i (v.map Face.role) := by
  funext j
  by_cases hj : j = i
  · rw [roleAt, h, hj, update_self, update_self]
  · rw [roleAt, h, update_of_ne hj, update_of_ne hj]
    rfl

theorem eachAt_update (h : faceAt t = update (faceAt s) i v) : eachAt t = update (eachAt s) i (v.bind Face.each) := by
  funext j
  by_cases hj : j = i
  · rw [eachAt, h, hj, update_self, update_self]
  · rw [eachAt, h, update_of_ne hj, update_of_ne hj]
    rfl

theorem nameAt_update (h : faceAt t = update (faceAt s) i v) : nameAt t = update (nameAt s) i (v.map Face.name) := by
  funext j
  by_cases hj : j = i
  · rw [nameAt, h, hj, update_self, update_self]
  · rw [nameAt, h, update_of_ne hj, update_of_ne hj]
    rfl

end Views

/-- An index that holds `p` neither before nor after it is written. -/
theorem update_eq_some_iff {α : Type} {f : RecIndex → Option α} {i : RecIndex} {v : Option α} {p : α} (hf : f i ≠ some p)
    (hv : v ≠ some p) (j : RecIndex) : update f i v j = some p ↔ f j = some p := by
  by_cases hj : j = i
  · rw [hj, update_self]
    exact ⟨fun e => absurd e hv, fun e => absurd e hf⟩
  · rw [update_of_ne hj]

/-! ## What the laws read of a client -/

/-- The items of a client that the laws read. -/
structure Seen where
  ready : Bool
  gateOpen : Bool
  suspended : Option Handle
  active : ContextName
  attached : Bool

def seen (s : State) (c : Client) : Seen where
  ready := (s.presentationOf c).ready
  gateOpen := (s.presentationOf c).gateOpen
  suspended := (s.contextsOf c).suspended
  active := (s.contextsOf c).active
  attached := s.attached c

theorem seen_of_fields {s t : State} (hp : t.presentation = s.presentation) (hx : t.contexts = s.contexts)
    (hh : t.health = s.health) (c : Client) : seen t c = seen s c := by
  simp only [seen, State.presentationOf, State.contextsOf, State.attached, State.healthOf, hp, hx, hh]

theorem seen_setPresentation (s : State) (c d : Client) (v : Presentation) : seen (s.setPresentation c v) d =
    if d = c then { seen s c with ready := v.ready, gateOpen := v.gateOpen } else seen s d := by
  by_cases hd : d = c
  · subst hd
    simp [seen, State.attached, State.presentationOf, State.contextsOf, State.healthOf]
  · simp [seen, State.attached, State.presentationOf, State.contextsOf, State.healthOf, hd, Table.get_set]

theorem seen_setContexts (s : State) (c d : Client) (v : ClientContexts) : seen (s.setContexts c v) d =
    if d = c then { seen s c with suspended := v.suspended, active := v.active } else seen s d := by
  by_cases hd : d = c
  · subst hd
    simp [seen, State.attached, State.presentationOf, State.contextsOf, State.healthOf]
  · simp [seen, State.attached, State.presentationOf, State.contextsOf, State.healthOf, hd, Table.get_set]

theorem seen_setHealth (s : State) (c d : Client) (v : ClientHealth) : seen (s.setHealth c v) d =
    if d = c then { seen s c with attached := v.health.attached } else seen s d := by
  by_cases hd : d = c
  · subst hd
    simp [seen, State.attached, State.presentationOf, State.contextsOf, State.healthOf]
  · simp [seen, State.attached, State.presentationOf, State.contextsOf, State.healthOf, hd, Table.get_set]

/-- Client c holds no record in state `st`. -/
def Lacks (s : State) (c : Client) (st : RecState) : Prop := ∀ i, roleAt s i ≠ some (c, st)

/-- The gate is closed exactly while a record is PRESENTED (R81). -/
def GateLaw (s : State) (c : Client) : Prop := (seen s c).gateOpen = false ↔ ∃ i, roleAt s i = some (c, .presented)

/-- OPERATE's suspended handle names the SUSPENDED record (R97). -/
def HandleNames (s : State) (c : Client) : Prop := ∀ h,
  (seen s c).suspended = some h ↔ h.gen = (s.slot h.index).gen ∧ roleAt s h.index = some (c, .suspended)

/-- OPERATE's suspended handle is none while OPERATE is active (R98). -/
def HandleIdle (s : State) (c : Client) : Prop := (seen s c).active = .operate → (seen s c).suspended = none

/-- How a client stands within an operation. -/
inductive Standing where
  /-- As between two steps. -/
  | settled
  /-- Its PRESENTED record has ended, and its gate has still to open (R86, R91). -/
  | gateOwed
  /-- OPERATE is active again, and its SUSPENDED record has still to be resumed (R105). -/
  | returning
  /-- Its SUSPENDED record has ended or is QUEUED again, and OPERATE's suspended handle has still to become none (R87, R91, R105). -/
  | handleOwed
  /-- Its client reset has cleared READY, opened the gate and returned CTX to defaults; its records have still to be returned
  (R127 steps 3 to 6). -/
  | resetting
  /-- It is no longer attached, and its records have still to be disposed of (R137). -/
  | leaving
  deriving DecidableEq

/-- What holds of client c's gate and suspended handle as it stands. -/
def Stands (s : State) (c : Client) : Standing → Prop
  | .settled => GateLaw s c ∧ HandleNames s c ∧ HandleIdle s c
  | .gateOwed => ((seen s c).gateOpen = false ∧ Lacks s c .presented) ∧ HandleNames s c ∧ HandleIdle s c
  | .returning => GateLaw s c ∧ HandleNames s c
  | .handleOwed => GateLaw s c ∧ Lacks s c .suspended
  | .resetting => ((seen s c).ready = false ∧ (seen s c).gateOpen = true) ∧ (seen s c).suspended = none
  | .leaving => (seen s c).attached = false

section Standing

variable {s t : State} {c : Client}

theorem GateLaw.alike (h : GateLaw s c) (hs : (seen t c).gateOpen = (seen s c).gateOpen)
    (hr : ∀ i, roleAt t i = some (c, .presented) ↔ roleAt s i = some (c, .presented)) : GateLaw t c := by
  unfold GateLaw
  rw [hs, exists_congr hr]
  exact h

theorem HandleNames.alike (h : HandleNames s c) (hs : (seen t c).suspended = (seen s c).suspended)
    (hr : ∀ i, roleAt t i = some (c, .suspended) ↔ roleAt s i = some (c, .suspended))
    (hg : ∀ i, roleAt s i = some (c, .suspended) → (t.slot i).gen = (s.slot i).gen) : HandleNames t c := by
  intro x
  rw [hs, h, hr]
  exact and_congr_left fun e => by rw [hg _ e]

theorem HandleIdle.alike (h : HandleIdle s c) (hs : (seen t c).suspended = (seen s c).suspended)
    (ha : (seen t c).active = (seen s c).active) : HandleIdle t c := by
  unfold HandleIdle
  rw [hs, ha]
  exact h

/-- Without a SUSPENDED record the handle is none. -/
theorem HandleNames.none (h : HandleNames s c) (hl : Lacks s c .suspended) : (seen s c).suspended = Option.none := by
  by_contra hne
  obtain ⟨x, hx⟩ := Option.ne_none_iff_exists'.1 hne
  exact hl _ ((h x).1 hx).2

theorem HandleNames.of_none (hs : (seen s c).suspended = Option.none) (hl : Lacks s c .suspended) : HandleNames s c :=
  fun x => by
    rw [hs]
    exact iff_of_false nofun fun e => hl _ e.2

theorem GateLaw.of_open (hs : (seen s c).gateOpen = true) (hl : Lacks s c .presented) : GateLaw s c := by
  unfold GateLaw
  rw [hs]
  exact iff_of_false nofun fun ⟨i, hi⟩ => hl i hi

theorem GateLaw.lacks (h : GateLaw s c) (hs : (seen s c).gateOpen = true) : Lacks s c .presented := fun i hi => by
  rw [h.2 ⟨i, hi⟩] at hs
  cases hs

theorem Lacks.alike {st : RecState} (h : Lacks s c st) (hr : ∀ i, roleAt t i = some (c, st) ↔ roleAt s i = some (c, st)) :
    Lacks t c st := fun i e => h i ((hr i).1 e)

/-- A client stands as before while its own items and the records it has PRESENTED or SUSPENDED are as before. -/
theorem Stands.alike {x : Standing} (h : Stands s c x) (hs : seen t c = seen s c)
    (hr : ∀ st, st ≠ .queued → ∀ i, roleAt t i = some (c, st) ↔ roleAt s i = some (c, st))
    (hg : ∀ i, roleAt s i = some (c, .suspended) → (t.slot i).gen = (s.slot i).gen) : Stands t c x := by
  have hpres := hr .presented nofun
  have hsusp := hr .suspended nofun
  have names : HandleNames s c → HandleNames t c := fun h => h.alike (by rw [hs]) hsusp hg
  have idle : HandleIdle s c → HandleIdle t c := fun h => h.alike (by rw [hs]) (by rw [hs])
  have gate : GateLaw s c → GateLaw t c := fun h => h.alike (by rw [hs]) hpres
  cases x with
  | settled =>
    obtain ⟨hgate, hnames, hidle⟩ := h
    exact ⟨gate hgate, names hnames, idle hidle⟩
  | gateOwed =>
    obtain ⟨⟨hopen, hno⟩, hnames, hidle⟩ := h
    exact ⟨⟨by rw [hs]; exact hopen, hno.alike hpres⟩, names hnames, idle hidle⟩
  | returning => exact ⟨gate h.1, names h.2⟩
  | handleOwed => exact ⟨gate h.1, h.2.alike hsusp⟩
  | resetting => rw [Stands, hs]; exact h
  | leaving => rw [Stands, hs]; exact h

end Standing

/-! ## The laws, for any standing of the clients -/

/-- The law of records and queues, each client as it stands. -/
structure RoleLaw (k : Client → Standing) (s : State) : Prop where
  nodup : ∀ c, (s.queue c).Nodup
  listed : ∀ c i, i ∈ s.queue c ↔ roleAt s i = some (c, .queued)
  single : ∀ i j c st, st ≠ .queued → roleAt s i = some (c, st) → roleAt s j = some (c, st) → i = j
  home : ∀ i c st, roleAt s i = some (c, st) → k c ≠ .leaving → (seen s c).attached = true
  stands : ∀ c, Stands s c (k c)

/-- A record that a queue lists is its client's, and QUEUED. -/
theorem RoleLaw.listed_record {k : Client → Standing} {s : State} (h : RoleLaw k s) {c : Client} {i : RecIndex} {r : Record}
    (hi : i ∈ s.queue c) (hr : s.record i = some r) : r.owner = c ∧ r.state = .queued := by
  have := (h.listed c i).1 hi
  rw [roleAt_of_record hr] at this
  exact Prod.mk.inj (Option.some.inj this)

/-- The key of a post from sender p in slot n (R2). -/
def isKeyOfPost (k : Key) : Prop := ∃ p n, k = postKey p n

/-- The target and the handle that a taken post slot holds (R146). -/
def taken : PostSlot → Option (Client × Handle)
  | .empty => none
  | .waiting t h => some (t, h)
  | .orphaned t h => some (t, h)

def takenBy (s : State) (p : Client) (n : SlotNo) : Option (Client × Handle) := taken ((s.postsOf p).slots.get n)

/-- No two QUEUED EACH records of one owner have one key (R57). -/
def EachOnce (s : State) : Prop := ∀ i j p, eachAt s i = some p → eachAt s j = some p → i = j

/-- A taken slot names the record of its key, and is taken while there is one (R146). -/
def SlotsName (s : State) : Prop := ∀ p n q h,
  takenBy s p n = some (q, h) ↔ h.gen = (s.slot h.index).gen ∧ nameAt s h.index = some (q, postKey p n)

structure KeyLaw (s : State) : Prop where
  once : EachOnce s
  slots : SlotsName s

/-- The law of records and queues, and, when `full`, the laws of keys and post slots. -/
structure StoreLaw (full : Prop) (k : Client → Standing) (s : State) : Prop where
  roles : RoleLaw k s
  keys : full → KeyLaw s

/-- Every client stands as between two steps. -/
def calm : Client → Standing := fun _ => .settled

/-- Client c stands so, and every other as between two steps. -/
def but (c : Client) (x : Standing) : Client → Standing := update calm c x

@[simp] theorem calm_apply (c : Client) : calm c = .settled := rfl

@[simp] theorem but_self (c : Client) (x : Standing) : but c x c = x := update_self ..

theorem but_settled (c : Client) : but c .settled = calm := update_eq_self c calm

/-! ## The laws of Safety -/

theorem roleLaw_calm_iff (s : State) : RoleLaw calm s ↔ RecordLaw s := by
  have presented : ∀ c, (∃ i r, s.record i = some r ∧ r.owner = c ∧ r.state = .presented) ↔
      ∃ i, roleAt s i = some (c, .presented) := fun c => exists_congr fun i => roleAt_eq_some.symm
  constructor
  · rintro ⟨hnodup, hlisted, hsingle, hhome, hstands⟩
    refine ⟨fun c => ⟨hnodup c, fun i => (hlisted c i).trans roleAt_eq_some⟩, fun i j ri rj hi hj ho hs hq => ?_,
      fun c => ((hstands c).1).trans (presented c).symm, fun c h => ?_, fun c => (hstands c).2.2, fun i r hr => ?_⟩
    · exact hsingle i j ri.owner ri.state hq (roleAt_of_record hi) (by rw [roleAt_of_record hj, ho, hs])
    · rw [← roleAt_eq_some]
      exact (hstands c).2.1 h
    · exact hhome i r.owner r.state (roleAt_of_record hr) nofun
  · rintro ⟨hqueue, hsingle, hgate, hhandle, hactive, hhome⟩
    refine ⟨fun c => (hqueue c).1, fun c i => ((hqueue c).2 i).trans roleAt_eq_some.symm, ?_, ?_, fun c =>
      ⟨(hgate c).trans (presented c), fun h => ?_, hactive c⟩⟩
    · intro i j c st hq hi hj
      obtain ⟨ri, hi, hoi, hsi⟩ := roleAt_eq_some.1 hi
      obtain ⟨rj, hj, hoj, hsj⟩ := roleAt_eq_some.1 hj
      exact hsingle i j ri rj hi hj (hoi.trans hoj.symm) (hsi.trans hsj.symm) (hsi ▸ hq)
    · intro i c st hi _
      obtain ⟨r, hr, ho, -⟩ := roleAt_eq_some.1 hi
      exact ho ▸ hhome i r hr
    · rw [roleAt_eq_some]
      exact hhandle c h

theorem slotsName_iff (s : State) : SlotsName s ↔ PostLaw s := by
  have held : ∀ p n q h, takenBy s p n = some (q, h) ↔
      ((s.postsOf p).slots.get n = .waiting q h ∨ (s.postsOf p).slots.get n = .orphaned q h) := by
    intro p n q h
    unfold takenBy
    cases (s.postsOf p).slots.get n <;> simp [taken]
  simp only [SlotsName, PostLaw, held, nameAt_eq_some]
  rfl

theorem queueLaw_postLaw_iff (s : State) : StoreLaw True calm s ↔ QueueLaw s ∧ PostLaw s := by
  constructor
  · rintro ⟨hroles, hkeys⟩
    obtain ⟨honce, hslots⟩ := hkeys trivial
    refine ⟨⟨(roleLaw_calm_iff s).1 hroles, fun c i j ri rj hi hj hri hrj hmi hmj hk => ?_⟩, (slotsName_iff s).1 hslots⟩
    obtain ⟨xi, hxi, hoi, hsi⟩ := roleAt_eq_some.1 ((hroles.listed c i).1 hi)
    obtain ⟨xj, hxj, hoj, hsj⟩ := roleAt_eq_some.1 ((hroles.listed c j).1 hj)
    cases hri.symm.trans hxi
    cases hrj.symm.trans hxj
    exact honce i j (c, ri.key) (eachAt_eq_some.2 ⟨ri, hri, ⟨hsi, hmi⟩, hoi, rfl⟩)
      (eachAt_eq_some.2 ⟨rj, hrj, ⟨hsj, hmj⟩, hoj, hk.symm⟩)
  · rintro ⟨⟨hrecords, honce⟩, hposts⟩
    have hroles := (roleLaw_calm_iff s).2 hrecords
    refine ⟨hroles, fun _ => ⟨fun i j p hi hj => ?_, (slotsName_iff s).2 hposts⟩⟩
    have hqi := (hroles.listed p.1 i).2 (roleAt_of_eachAt hi)
    have hqj := (hroles.listed p.1 j).2 (roleAt_of_eachAt hj)
    obtain ⟨ri, hri, ⟨-, hmi⟩, -, hki⟩ := eachAt_eq_some.1 hi
    obtain ⟨rj, hrj, ⟨-, hmj⟩, -, hkj⟩ := eachAt_eq_some.1 hj
    exact honce p.1 i j ri rj hqi hqj hri hrj hmi hmj (hki.trans hkj.symm)

end Sys2Proof.Laws
end

section
/-! PROOF. How the laws of queues and posts follow the records: an operation that writes nothing they read keeps them, and each of the
others writes one index of the pool. -/

namespace Sys2Proof.Laws

open Sys2Proof.Machine Sys2Proof.Safety Function

variable {full : Prop} {k : Client → Standing} {s t : State}

/-! ## Nothing is written that the laws read -/

/-- Nothing the law of records reads differs, but for the order of the queues and the items of client `o`. -/
structure Still (o : Option Client) (s t : State) : Prop where
  faces : faceAt t = faceAt s
  gens : ∀ i, (t.slot i).gen = (s.slot i).gen
  queues : ∀ c, (t.queue c).Perm (s.queue c)
  clients : ∀ c, some c ≠ o → seen t c = seen s c

/-- Nothing the laws read differs, but for the order of the queues and the items of client `o`. -/
structure Unmoved (o : Option Client) (s t : State) : Prop extends Still o s t where
  slots : ∀ p n, takenBy t p n = takenBy s p n

theorem takenBy_of_posts (h : t.posts = s.posts) (p : Client) (n : SlotNo) : takenBy t p n = takenBy s p n := by
  simp only [takenBy, State.postsOf, h]

theorem takenBy_setPendingFlags (c : Client) (f : FlagSet) (s : State) (p : Client) (n : SlotNo) :
    takenBy (setPendingFlags c f s) p n = takenBy s p n := by
  unfold takenBy setPendingFlags
  by_cases hp : p = c
  · subst hp
    simp [State.postsOf]
  · simp [State.postsOf, hp, Table.get_set]

/-- The records, the queues and the slots are as they were. -/
theorem Unmoved.of_store {o : Option Client} (hpool : t.pool = s.pool) (hqueues : t.queues = s.queues)
    (hslots : ∀ p n, takenBy t p n = takenBy s p n) (hseen : ∀ c, some c ≠ o → seen t c = seen s c) : Unmoved o s t where
  faces := faceAt_of_pool hpool
  gens := gen_of_pool hpool
  queues c := by simp only [State.queue, hqueues]; exact .rfl
  slots := hslots
  clients := hseen

theorem Unmoved.setPendingFlags (c : Client) (f : FlagSet) (s : State) : Unmoved none s (setPendingFlags c f s) :=
  .of_store (by simp) (by simp) (takenBy_setPendingFlags c f s) fun d _ => seen_of_fields (by simp) (by simp) (by simp) d

theorem Unmoved.setPresentation (s : State) (c : Client) (v : Presentation) : Unmoved (some c) s (s.setPresentation c v) :=
  .of_store rfl rfl (fun _ _ => rfl) fun d hd => by
    rw [seen_setPresentation, if_neg fun e : d = c => hd (e ▸ rfl)]

theorem Unmoved.setContexts (s : State) (c : Client) (v : ClientContexts) : Unmoved (some c) s (s.setContexts c v) :=
  .of_store rfl rfl (fun _ _ => rfl) fun d hd => by
    rw [seen_setContexts, if_neg fun e : d = c => hd (e ▸ rfl)]

theorem Unmoved.setHealth (s : State) (c : Client) (v : ClientHealth) : Unmoved (some c) s (s.setHealth c v) :=
  .of_store rfl rfl (fun _ _ => rfl) fun d hd => by
    rw [seen_setHealth, if_neg fun e : d = c => hd (e ▸ rfl)]

/-- The one client whose items were written has them as before. -/
theorem Unmoved.same_client {c : Client} (h : Unmoved (some c) s t) (hc : seen t c = seen s c) : Unmoved none s t where
  faces := h.faces
  gens := h.gens
  queues := h.queues
  slots := h.slots
  clients d _ := by
    by_cases hd : d = c
    · rw [hd, hc]
    · exact h.clients d fun e => hd (Option.some.inj e)

theorem Unmoved.trans {o : Option Client} {u : State} (h : Unmoved o s t) (h' : Unmoved o t u) : Unmoved o s u where
  faces := h'.faces.trans h.faces
  gens i := (h'.gens i).trans (h.gens i)
  queues c := (h'.queues c).trans (h.queues c)
  slots p n := (h'.slots p n).trans (h.slots p n)
  clients c hc := (h'.clients c hc).trans (h.clients c hc)

theorem Unmoved.weaken {o : Option Client} (h : Unmoved none s t) : Unmoved o s t :=
  { h with clients := fun c _ => h.clients c nofun }

/-- The six fields of State that the laws read are as they were. -/
theorem Unmoved.of_fields {o : Option Client} (h : t.pool = s.pool ∧ t.queues = s.queues ∧ t.presentation = s.presentation ∧
    t.contexts = s.contexts ∧ t.health = s.health ∧ t.posts = s.posts) : Unmoved o s t := by
  obtain ⟨hpool, hqueues, hpres, hcon, hhealth, hposts⟩ := h
  exact .of_store hpool hqueues (takenBy_of_posts hposts) fun c _ => seen_of_fields hpres hcon hhealth c

theorem Still.roles {o : Option Client} (h : Still o s t) : roleAt t = roleAt s := roleAt_of_faceAt h.faces

theorem KeyLaw.same {o : Option Client} (h : KeyLaw s) (e : Unmoved o s t) : KeyLaw t := by
  have heach := eachAt_of_faceAt e.faces
  have hname := nameAt_of_faceAt e.faces
  refine ⟨fun i j p hi hj => h.once i j p (heach ▸ hi) (heach ▸ hj), fun p n q x => ?_⟩
  rw [e.slots, e.gens, hname]
  exact h.slots p n q x

/-- One client comes to stand otherwise, and no record moves. -/
theorem RoleLaw.restand (h : RoleLaw k s) {c : Client} {x : Standing} (e : Still (some c) s t) (hx : Stands t c x)
    (hhome : x ≠ .leaving → ∀ i st, roleAt s i = some (c, st) → (seen t c).attached = true) : RoleLaw (update k c x) t := by
  have hr := e.roles
  have other : ∀ d, d ≠ c → seen t d = seen s d := fun d hd => e.clients d fun he => hd (Option.some.inj he)
  refine ⟨fun d => (e.queues d).nodup_iff.2 (h.nodup d), fun d i => ?_, fun i j d st hst hi hj => ?_, fun i d st hi hd => ?_,
    fun d => ?_⟩
  · rw [(e.queues d).mem_iff, h.listed, hr]
  · rw [hr] at hi hj
    exact h.single i j d st hst hi hj
  · rw [hr] at hi
    by_cases hdc : d = c
    · subst hdc
      rw [update_self] at hd
      exact hhome hd i st hi
    · rw [update_of_ne hdc] at hd
      rw [other d hdc]
      exact h.home i d st hi hd
  · by_cases hdc : d = c
    · rw [hdc, update_self]
      exact hx
    · rw [update_of_ne hdc]
      exact (h.stands d).alike (other d hdc) (fun st _ i => by rw [hr]) fun i _ => e.gens i

theorem RoleLaw.same (h : RoleLaw k s) (e : Still none s t) : RoleLaw k t := by
  have hr := e.roles
  have hs : ∀ c, seen t c = seen s c := fun c => e.clients c nofun
  have := h.restand (c := 0) (x := k 0) { e with clients := fun c _ => hs c }
    ((h.stands 0).alike (hs 0) (fun st _ i => by rw [hr]) fun i _ => e.gens i) fun hx i st hi => hs 0 ▸ h.home i 0 st hi hx
  rwa [update_eq_self] at this

theorem StoreLaw.restand (h : StoreLaw full k s) {c : Client} {x : Standing} (e : Unmoved (some c) s t) (hx : Stands t c x)
    (hhome : x ≠ .leaving → ∀ i st, roleAt s i = some (c, st) → (seen t c).attached = true) :
    StoreLaw full (update k c x) t := ⟨h.roles.restand e.toStill hx hhome, fun hf => (h.keys hf).same e⟩

theorem StoreLaw.same (h : StoreLaw full k s) (e : Unmoved none s t) : StoreLaw full k t :=
  ⟨h.roles.same e.toStill, fun hf => (h.keys hf).same e⟩

theorem StoreLaw.framed (h : StoreLaw full k s) (e : t.pool = s.pool ∧ t.queues = s.queues ∧
    t.presentation = s.presentation ∧ t.contexts = s.contexts ∧ t.health = s.health ∧ t.posts = s.posts) :
    StoreLaw full k t := h.same (.of_fields e)

/-- A record is written that differs in nothing the laws read. -/
theorem Unmoved.setRecord_same {o : Option Client} {i : RecIndex} {r : Record} (hi : faceAt s i = some (faceOf r)) :
    Unmoved o s (s.setRecord i (some r)) where
  faces := faceAt_setRecord_same hi
  gens := gen_setRecord s i _
  queues _ := .rfl
  slots _ _ := rfl
  clients _ _ := rfl

/-! ## One index of the pool is written -/

/-- The queues list the records again once the role at `i` is `w`. -/
structure Relists (i : RecIndex) (w : Option (Client × RecState)) (s t : State) : Prop where
  nodup : ∀ c, (t.queue c).Nodup
  others : ∀ c j, j ≠ i → (j ∈ t.queue c ↔ j ∈ s.queue c)
  self : ∀ c, i ∈ t.queue c ↔ w = some (c, .queued)

/-- A record leaves its queue, if it stood in one. -/
theorem Relists.left (h : RoleLaw k s) {i : RecIndex} {c : Client} {st : RecState} {w : Option (Client × RecState)}
    (hi : roleAt s i = some (c, st)) (hw : ∀ d, w ≠ some (d, .queued))
    (hq : ∀ d, t.queue d = if d = c ∧ st = .queued then (s.queue d).filter (· ≠ i) else s.queue d) : Relists i w s t := by
  refine ⟨fun d => ?_, fun d j hj => ?_, fun d => iff_of_false ?_ (hw d)⟩
  · rw [hq]
    split
    · exact (h.nodup d).filter _
    · exact h.nodup d
  · rw [hq]
    split
    · simp [hj]
    · rfl
  · rw [hq]
    split
    · simp
    · rename_i hd
      rw [h.listed, hi]
      intro e
      cases e
      exact hd ⟨rfl, rfl⟩

/-- A record enters a queue in which none of its index stands. -/
theorem Relists.entered (h : RoleLaw k s) {i : RecIndex} {c : Client} (hi : roleAt s i = none)
    (hq : ∀ d, (t.queue d).Perm (if d = c then i :: s.queue d else s.queue d)) : Relists i (some (c, .queued)) s t := by
  have hout : ∀ d, i ∉ s.queue d := fun d => by
    rw [h.listed, hi]
    nofun
  refine ⟨fun d => ?_, fun d j hj => ?_, fun d => ?_⟩
  · rw [(hq d).nodup_iff]
    split
    · exact List.nodup_cons.2 ⟨hout d, h.nodup d⟩
    · exact h.nodup d
  · rw [(hq d).mem_iff]
    split
    · simp [hj]
    · rfl
  · rw [(hq d).mem_iff]
    split
    · rename_i hd
      simp [hd]
    · rename_i hd
      exact iff_of_false (hout d) fun e => hd (by cases e; rfl)

/-- The role at one index changes. -/
theorem RoleLaw.changed (h : RoleLaw k s) {k' : Client → Standing} {i : RecIndex} {w : Option (Client × RecState)}
    (hr : roleAt t = update (roleAt s) i w) (hq : Relists i w s t) (hseen : ∀ c, (seen t c).attached = (seen s c).attached)
    (hsingle : ∀ c st, w = some (c, st) → st ≠ .queued → ∀ j, j ≠ i → roleAt s j ≠ some (c, st))
    (hhome : ∀ c st, w = some (c, st) → k' c ≠ .leaving → (seen s c).attached = true)
    (hk : ∀ c, k c = .leaving → k' c = .leaving) (hstands : ∀ c, Stands t c (k' c)) : RoleLaw k' t := by
  refine ⟨hq.nodup, fun c j => ?_, fun a b c st hst ha hb => ?_, fun j c st hj hc => ?_, hstands⟩
  · by_cases hj : j = i
    · rw [hj, hq.self, hr, update_self]
    · rw [hq.others c j hj, h.listed, hr, update_of_ne hj]
  · rw [hr] at ha hb
    by_cases hai : a = i
    · by_cases hbi : b = i
      · rw [hai, hbi]
      · rw [hai, update_self] at ha
        rw [update_of_ne hbi] at hb
        exact absurd hb (hsingle c st ha hst b hbi)
    · rw [update_of_ne hai] at ha
      by_cases hbi : b = i
      · rw [hbi, update_self] at hb
        exact absurd ha (hsingle c st hb hst a hai)
      · rw [update_of_ne hbi] at hb
        exact h.single a b c st hst ha hb
  · rw [hseen]
    rw [hr] at hj
    by_cases hji : j = i
    · rw [hji, update_self] at hj
      exact hhome c st hj hc
    · rw [update_of_ne hji] at hj
      exact h.home j c st hj fun e => hc (hk c e)

/-- How a client stands once its record in this state is gone. -/
inductive Standing.Without : RecState → Standing → Standing → Prop where
  | queued (x : Standing) : Without .queued x x
  | presented : Without .presented .settled .gateOwed
  | suspended : Without .suspended .settled .handleOwed
  | resumed : Without .suspended .returning .handleOwed
  | resetting (st : RecState) : Without st .resetting .resetting
  | leaving (st : RecState) : Without st .leaving .leaving

/-- A client's record at `i` is gone. -/
theorem Stands.without {c : Client} {st : RecState} {x y : Standing} {i : RecIndex} (h : Stands s c x)
    (hy : Standing.Without st x y) (hi : roleAt s i = some (c, st))
    (hone : st ≠ .queued → ∀ j, roleAt s j = some (c, st) → j = i) (hr : roleAt t = update (roleAt s) i none)
    (hseen : seen t c = seen s c) (hg : ∀ j, (t.slot j).gen = (s.slot j).gen) : Stands t c y := by
  have others : ∀ st', st' ≠ st → ∀ j, roleAt t j = some (c, st') ↔ roleAt s j = some (c, st') := fun st' hne j => by
    rw [hr]
    exact update_eq_some_iff (by rw [hi]; simpa using hne.symm) (by nofun) j
  have gone : st ≠ .queued → Lacks t c st := fun hst j hj => by
    rw [hr] at hj
    by_cases hji : j = i
    · rw [hji, update_self] at hj
      cases hj
    · rw [update_of_ne hji] at hj
      exact hji (hone hst j hj)
  cases hy with
  | queued => exact h.alike hseen others fun j _ => hg j
  | presented =>
    obtain ⟨hgate, hnames, hidle⟩ := h
    refine ⟨⟨?_, gone nofun⟩, hnames.alike (by rw [hseen]) (others .suspended nofun) fun j _ => hg j,
      hidle.alike (by rw [hseen]) (by rw [hseen])⟩
    rw [hseen]
    exact hgate.2 ⟨i, hi⟩
  | suspended => exact ⟨h.1.alike (by rw [hseen]) (others .presented nofun), gone nofun⟩
  | resumed => exact ⟨h.1.alike (by rw [hseen]) (others .presented nofun), gone nofun⟩
  | resetting => rw [Stands, hseen]; exact h
  | leaving => rw [Stands, hseen]; exact h

/-- A record is gone from the pool, and from its owner's queue. -/
theorem RoleLaw.removed (h : RoleLaw k s) {i : RecIndex} {c : Client} {st : RecState} {y : Standing}
    (hi : roleAt s i = some (c, st)) (hy : Standing.Without st (k c) y) (hr : roleAt t = update (roleAt s) i none)
    (hg : ∀ j, (t.slot j).gen = (s.slot j).gen) (hseen : ∀ d, seen t d = seen s d)
    (hq : ∀ d, t.queue d = if d = c ∧ st = .queued then (s.queue d).filter (· ≠ i) else s.queue d) :
    RoleLaw (update k c y) t := by
  refine h.changed hr (.left h hi nofun hq) (fun d => by rw [hseen]) nofun nofun (fun d hd => ?_) fun d => ?_
  · by_cases hdc : d = c
    · subst hdc
      rw [update_self]
      rw [hd] at hy
      cases hy <;> rfl
    · rw [update_of_ne hdc, hd]
  · by_cases hdc : d = c
    · subst hdc
      rw [update_self]
      exact (h.stands d).without hy hi (fun hst j hj => h.single j i d st hst hj hi) hr (hseen d) hg
    · rw [update_of_ne hdc]
      refine (h.stands d).alike (hseen d) (fun st' _ => ?_) fun j _ => hg j
      rw [hr]
      exact update_eq_some_iff (by rw [hi]; simp [Ne.symm hdc]) (by nofun)

/-- A QUEUED record comes to stand at an index that held none. -/
theorem RoleLaw.added (h : RoleLaw k s) {i : RecIndex} {c : Client} (hi : roleAt s i = none)
    (hr : roleAt t = update (roleAt s) i (some (c, .queued))) (hg : ∀ j, j ≠ i → (t.slot j).gen = (s.slot j).gen)
    (hseen : ∀ d, seen t d = seen s d) (hc : (seen s c).attached = true)
    (hq : ∀ d, (t.queue d).Perm (if d = c then i :: s.queue d else s.queue d)) : RoleLaw k t := by
  refine h.changed hr (.entered h hi hq) (fun d => by rw [hseen]) (fun d st e hst => ?_) (fun d st e _ => ?_) (fun _ hd => hd)
    fun d => (h.stands d).alike (hseen d) (fun st hst => ?_) fun j hj => hg j ?_
  · cases e
    exact absurd rfl hst
  · cases e
    exact hc
  · rw [hr]
    exact update_eq_some_iff (by rw [hi]; nofun) fun e => hst (by cases e; rfl)
  · rintro rfl
    rw [hi] at hj
    cases hj

/-! ## Keys and post slots -/

/-- A QUEUED EACH record of a new key, or none, comes to stand at one index. -/
theorem EachOnce.changed (h : EachOnce s) {i : RecIndex} {v : Option (Client × Key)} (he : eachAt t = update (eachAt s) i v)
    (hnew : ∀ p, v = some p → ∀ j, j ≠ i → eachAt s j ≠ some p) : EachOnce t := by
  intro a b p ha hb
  rw [he] at ha hb
  by_cases hai : a = i
  · by_cases hbi : b = i
    · rw [hai, hbi]
    · rw [hai, update_self] at ha
      rw [update_of_ne hbi] at hb
      exact absurd hb (hnew p ha b hbi)
  · rw [update_of_ne hai] at ha
    by_cases hbi : b = i
    · rw [hbi, update_self] at hb
      exact absurd ha (hnew p hb a hai)
    · rw [update_of_ne hbi] at hb
      exact h a b p ha hb

/-- A record of no post comes to stand at an index that held no record of a post. -/
theorem SlotsName.changed (h : SlotsName s) {i : RecIndex} {c : Client} {key : Key}
    (hi : ∀ q p n, nameAt s i ≠ some (q, postKey p n))
    (hn : nameAt t = update (nameAt s) i (some (c, key))) (hkey : ¬ isKeyOfPost key)
    (hg : ∀ j, j ≠ i → (t.slot j).gen = (s.slot j).gen) (hs : ∀ p n, takenBy t p n = takenBy s p n) : SlotsName t := by
  intro p n q x
  rw [hs, h p n q x, hn]
  have hv : some (c, key) ≠ some (q, postKey p n) := fun e => hkey ⟨p, n, by cases e; rfl⟩
  rw [update_eq_some_iff (hi q p n) hv]
  refine and_congr_left fun e => ?_
  rw [hg]
  intro hx
  exact hi q p n (hx ▸ e)

theorem postKey_reads (p : Client) (n : SlotNo) :
    (postKey p n).isPost = true ∧ (postKey p n).postSender = p ∧ (postKey p n).postSlot = n := by
  revert p n
  decide

theorem postKey_inj {p p' : Client} {n n' : SlotNo} (h : postKey p n = postKey p' n') : p = p' ∧ n = n' := by
  obtain ⟨-, hp, hn⟩ := postKey_reads p n
  obtain ⟨-, hp', hn'⟩ := postKey_reads p' n'
  exact ⟨hp.symm.trans ((congrArg Key.postSender h).trans hp'), hn.symm.trans ((congrArg Key.postSlot h).trans hn')⟩

theorem isPost_of_isKeyOfPost {key : Key} (h : isKeyOfPost key) : key.isPost = true := by
  obtain ⟨p, n, rfl⟩ := h
  exact (postKey_reads p n).1

/-- The events of the sources that enter the intake queue are no posts (R2). -/
theorem not_isKeyOfPost_of_source {key : Key} (h : key.source.toNat ≤ 36) : ¬ isKeyOfPost key := fun hp => by
  have := ((isPost_iff key).1 (isPost_of_isKeyOfPost hp)).1
  omega

theorem takenBy_setPostSlot (s : State) (p p' : Client) (n n' : SlotNo) (v : PostSlot) :
    takenBy (setPostSlot p n v s) p' n' = if p' = p ∧ n' = n then taken v else takenBy s p' n' := by
  unfold takenBy setPostSlot
  by_cases hp : p' = p
  · subst hp
    by_cases hn : n' = n
    · subst hn
      simp [State.postsOf]
    · simp [State.postsOf, hn, Table.get_set]
  · simp [State.postsOf, hp, Table.get_set]

/-- A free's report empties the slot of a post's key that holds the record's handle, and no other (R149). -/
theorem takenBy_settlePost (key : Key) (h : Handle) (cause : FreeCause) (s : State) (p : Client) (n : SlotNo) :
    takenBy (settlePost key h cause s) p n =
      if p = key.postSender ∧ n = key.postSlot then (takenBy s p n).filter (fun x => x.2 ≠ h) else takenBy s p n := by
  have emptied : ∀ t : State, t.posts = (setPostSlot key.postSender key.postSlot .empty s).posts →
      takenBy t p n = if p = key.postSender ∧ n = key.postSlot then none else takenBy s p n := fun t ht => by
    rw [takenBy_of_posts ht, takenBy_setPostSlot]
    rfl
  have self : ∀ v, (s.postsOf key.postSender).slots.get key.postSlot = v →
      takenBy s key.postSender key.postSlot = taken v := fun v e => by rw [takenBy, e]
  have kept : (∀ x, takenBy s key.postSender key.postSlot = some x → x.2 ≠ h) → takenBy s p n =
      if p = key.postSender ∧ n = key.postSlot then (takenBy s p n).filter (fun x => x.2 ≠ h) else takenBy s p n := by
    intro hne
    split
    · rename_i e
      obtain ⟨rfl, rfl⟩ := e
      cases hx : takenBy s key.postSender key.postSlot with
      | none => rfl
      | some x => rw [Option.filter_some, if_pos (decide_eq_true (hne x hx))]
    · rfl
  have cleared : ∀ q, takenBy s key.postSender key.postSlot = some (q, h) →
      (if p = key.postSender ∧ n = key.postSlot then none else takenBy s p n) =
      if p = key.postSender ∧ n = key.postSlot then (takenBy s p n).filter (fun x => x.2 ≠ h) else takenBy s p n := by
    intro q hq
    split
    · rename_i e
      obtain ⟨rfl, rfl⟩ := e
      rw [hq]
      exact (Option.filter_some_neg (by simp)).symm
    · rfl
  unfold settlePost
  split
  · rename_i e
    exact kept fun x hx => by rw [self _ e] at hx; cases hx
  · rename_i q h' e
    split
    · rename_i hh
      refine Eq.trans ?_ (cleared q (hh ▸ self _ e))
      dsimp only
      split
      · exact emptied _ rfl
      · exact emptied _ (by simp)
    · rename_i hh
      exact kept fun x hx => by rw [self _ e] at hx; cases hx; exact hh
  · rename_i q h' e
    split
    · rename_i hh
      exact (emptied _ rfl).trans (cleared q (hh ▸ self _ e))
    · rename_i hh
      exact kept fun x hx => by rw [self _ e] at hx; cases hx; exact hh

end Sys2Proof.Laws
end

section
/-! PROOF. The operations on records, and the laws of queues and posts: an examination (R75 to R78), a free (R68, R69), a making (R63),
a fold (R62), a placement at the front (R58, R70) and a transfer (R72). -/

namespace Sys2Proof.Laws

open Sys2Proof.Machine Sys2Proof.Safety Function

variable {full : Prop} {k : Client → Standing} {s : State}

/-- When a search for the record of a key finds none, no QUEUED EACH record of that owner has the key (R62, R70). -/
theorem eachAt_of_alone (h : RoleLaw k s) {c : Client} {key : Key} {skip : Option RecIndex}
    (hn : sameKeyRecord s c key skip = none) {j : RecIndex} (hj : some j ≠ skip) : eachAt s j ≠ some (c, key) := by
  intro e
  obtain ⟨o, ho, ⟨hq, hm⟩, -, hk⟩ := eachAt_eq_some.1 e
  exact sameKeyRecord_none hn j o ((h.listed c j).2 (roleAt_of_eachAt e)) hj ho ⟨hq, hm, hk⟩

/-! ## Examinations -/

theorem present_pool (c : Client) (i : RecIndex) (r : Record) (s : State) :
    (present c i r s).pool = s.pool.set i ⟨(s.slot i).gen, some (asPresented s c r)⟩ := by
  unfold present
  dsimp only
  split <;> simp [State.setRecord]

theorem present_queue (c : Client) (i : RecIndex) (r : Record) (s : State) (d : Client) :
    (present c i r s).queue d = if d = c then (s.queue d).filter (· ≠ i) else s.queue d := by
  have hq : (present c i r s).queues = s.queues.set c ((s.queue c).filter (· ≠ i)) := by
    unfold present dequeue
    dsimp only
    split <;> simp [State.setRecord, State.queue]
  rw [State.queue, hq, Table.get_set]
  by_cases hd : d = c
  · rw [if_pos hd, if_pos hd, hd]
  · rw [if_neg hd, if_neg hd]

theorem present_seen (c : Client) (i : RecIndex) (r : Record) (s : State) (d : Client) :
    seen (present c i r s) d = if d = c then { seen s c with gateOpen := false } else seen s d := by
  have hp : (present c i r s).presentation = s.presentation.set c { s.presentationOf c with gateOpen := false } := by
    unfold present setGate
    dsimp only
    split <;> simp [State.setRecord, State.presentationOf]
  exact (seen_of_fields (s := s.setPresentation c _) hp (by simp) (by simp) d).trans (seen_setPresentation s c d _)

theorem takenBy_present (c : Client) (i : RecIndex) (r : Record) (s : State) (p : Client) (n : SlotNo) :
    takenBy (present c i r s) p n = takenBy s p n := by
  unfold present
  dsimp only
  split
  · exact takenBy_setPendingFlags c 0 _ p n
  · rfl

/-- An examination presents a record of the client's queue, whose gate is open, or does nothing (R75). -/
theorem examine_cases (c : Client) (s : State) : examine c s = s ∨ ∃ i r, i ∈ s.queue c ∧ s.record i = some r ∧
    ((seen s c).ready = true ∧ (seen s c).gateOpen = true ∧ (seen s c).attached = true) ∧
    examine c s = present c i r s := by
  unfold examine
  split
  · rename_i hm
    simp only [mayPresent, Bool.and_eq_true] at hm
    obtain ⟨⟨⟨⟨hready, hatt⟩, hgate⟩, -⟩, -⟩ := hm
    split
    · rename_i i hi
      split
      · exact .inr ⟨i, _, List.mem_of_find?_eq_some hi, by assumption, ⟨hready, hgate, hatt⟩, rfl⟩
      · exact .inl rfl
    · exact .inl rfl
  · exact .inl rfl

theorem present_faceAt {c : Client} {i : RecIndex} {r : Record} :
    faceAt (present c i r s) = update (faceAt s) i (some { faceOf r with state := .presented }) :=
  faceAt_of_set (present_pool c i r s)

theorem present_keyLaw (h : KeyLaw s) {c : Client} {i : RecIndex} {r : Record} (hr : s.record i = some r) :
    KeyLaw (present c i r s) := by
  have hname : nameAt (present c i r s) = nameAt s := by
    rw [nameAt_update present_faceAt]
    exact (congrArg _ (nameAt_of_record hr).symm).trans (update_eq_self i _)
  refine ⟨h.once.changed (eachAt_update present_faceAt) fun p hp => ?_, fun p n q x => ?_⟩
  · simp [Face.each] at hp
  · rw [takenBy_present, gen_of_set (present_pool c i r s) rfl, hname]
    exact h.slots p n q x

/-- A client that may be presented to owes no gate, and its gate and handle are as they should be. -/
theorem Stands.presentable {c : Client} {x : Standing} (h : Stands s c x) (hready : (seen s c).ready = true)
    (hgate : (seen s c).gateOpen = true) (hatt : (seen s c).attached = true) :
    GateLaw s c ∧ (x = .settled ∨ x = .returning ∨ x = .handleOwed) := by
  cases x with
  | settled => exact ⟨h.1, .inl rfl⟩
  | gateOwed => cases hgate.symm.trans h.1.1
  | returning => exact ⟨h.1, .inr (.inl rfl)⟩
  | handleOwed => exact ⟨h.1, .inr (.inr rfl)⟩
  | resetting => cases hready.symm.trans h.1.1
  | leaving => cases hatt.symm.trans h

theorem present_roleLaw (h : RoleLaw k s) {c : Client} {i : RecIndex} {r : Record} (hi : i ∈ s.queue c)
    (hready : (seen s c).ready = true) (hgate : (seen s c).gateOpen = true) (hatt : (seen s c).attached = true)
    (hr : s.record i = some r) : RoleLaw k (present c i r s) := by
  have hrole := (h.listed c i).1 hi
  have hroles : roleAt (present c i r s) = update (roleAt s) i (some (c, .presented)) := by
    rw [roleAt_update present_faceAt, ← (h.listed_record hi hr).1]
    rfl
  have hg := gen_of_set (present_pool c i r s) rfl
  have others : ∀ d st, st ≠ .queued → (d, st) ≠ (c, .presented) → ∀ j,
      roleAt (present c i r s) j = some (d, st) ↔ roleAt s j = some (d, st) := fun d st hst hne j => by
    rw [hroles]
    refine update_eq_some_iff (fun e => hst ?_) (fun e => hne (Option.some.inj e).symm) j
    rw [hrole] at e
    cases e
    rfl
  obtain ⟨hlaw, hx⟩ := (h.stands c).presentable hready hgate hatt
  have hshut : GateLaw (present c i r s) c := by
    unfold GateLaw
    rw [present_seen, if_pos rfl, hroles]
    exact iff_of_true rfl ⟨i, update_self ..⟩
  have hself : seen (present c i r s) c = { seen s c with gateOpen := false } := by rw [present_seen, if_pos rfl]
  have names : HandleNames s c → HandleNames (present c i r s) c := fun hn =>
    hn.alike (by rw [hself]) (others c _ nofun nofun) fun j _ => hg j
  refine h.changed hroles (.left h hrole (by simp) fun d => ?_) (fun d => ?_) ?_ ?_ (fun _ hd => hd) fun d => ?_
  · rw [present_queue]
    simp
  · by_cases hd : d = c
    · rw [hd, hself]
    · rw [present_seen, if_neg hd]
  · rintro d st e - j - hj
    cases e
    exact hlaw.lacks hgate j hj
  · rintro d st e -
    cases e
    exact hatt
  · by_cases hd : d = c
    · rw [hd]
      have hstands := h.stands c
      rcases hx with hx | hx | hx <;> rw [hx] at hstands ⊢
      · exact ⟨hshut, names hstands.2.1, hstands.2.2.alike (by rw [hself]) (by rw [hself])⟩
      · exact ⟨hshut, names hstands.2⟩
      · exact ⟨hshut, hstands.2.alike (others c _ nofun nofun)⟩
    · refine (h.stands d).alike ?_ (fun st hst => others d st hst fun e => hd (congrArg Prod.fst e)) fun j _ => hg j
      rw [present_seen, if_neg hd]

theorem examine_law (h : StoreLaw full k s) (c : Client) : StoreLaw full k (examine c s) := by
  rcases examine_cases c s with e | ⟨i, r, hi, hr, ⟨hready, hgate, hatt⟩, e⟩ <;> rw [e]
  · exact h
  · exact ⟨present_roleLaw h.roles hi hready hgate hatt hr, fun hf => present_keyLaw (h.keys hf) hr⟩

/-- What every examination keeps, the examinations at a wake keep (R95, R181). -/
theorem completeWake_keeps_of {P : State → Prop} (hx : ∀ c u, P u → P (examine c u)) (h : P s) (m : HubMode) :
    P (completeWake m s) := by
  unfold completeWake
  split
  · exact List.foldlRecOn _ _ h fun u hu c _ => hx c u hu
  · exact h

theorem completeWake_law (h : StoreLaw full k s) (m : HubMode) : StoreLaw full k (completeWake m s) :=
  completeWake_keeps_of (P := StoreLaw full k) (fun c _ hu => examine_law hu c) h m

theorem examineAll_law (h : StoreLaw full k s) : StoreLaw full k (examineAll s) :=
  List.foldlRecOn _ _ h fun _ hu c _ => examine_law hu c

theorem wakeHub_law (h : StoreLaw full k s) : StoreLaw full k (wakeHub s) := completeWake_law (h.framed (by simp)) _

/-- An examination leaves every record that is not QUEUED. -/
theorem examine_record (h : RoleLaw k s) (c : Client) {i : RecIndex} {r : Record} (hr : s.record i = some r)
    (hq : r.state ≠ .queued) : (examine c s).record i = some r := by
  rcases examine_cases c s with e | ⟨j, x, hj, hx, -, e⟩ <;> rw [e]
  · exact hr
  · have hne : i ≠ j := by
      rintro rfl
      exact hq (h.listed_record hj hr).2
    rw [State.record, State.slot, present_pool, Table.get_set_ne _ hne]
    exact hr

theorem completeWake_record (h : StoreLaw full k s) (m : HubMode) {i : RecIndex} {r : Record} (hr : s.record i = some r)
    (hq : r.state ≠ .queued) : (completeWake m s).record i = some r :=
  (completeWake_keeps_of (P := fun u => StoreLaw full k u ∧ u.record i = some r)
    (fun c _ hu => ⟨examine_law hu.1 c, examine_record hu.1.roles c hu.2 hq⟩) ⟨h, hr⟩ m).2

/-! ## A free -/

theorem freeUntested_moves (i : RecIndex) (r : Record) (cause : FreeCause) (s : State) :
    (freeUntested i r cause s).pool = s.pool.set i ⟨(s.slot i).gen, none⟩ ∧
    (freeUntested i r cause s).queues = (release i r s).queues ∧
    (freeUntested i r cause s).presentation = s.presentation := by
  obtain ⟨hpool, hqueues, hpres⟩ := freeWithin_moves i r cause s
  unfold freeWithin at hpool hqueues hpres
  exact ⟨by simpa using hpool, by simpa using hqueues, by simpa using hpres⟩

theorem freeUntested_queue (i : RecIndex) (r : Record) (cause : FreeCause) (s : State) (d : Client) :
    (freeUntested i r cause s).queue d =
      if d = r.owner ∧ r.state = .queued then (s.queue d).filter (· ≠ i) else s.queue d := by
  rw [State.queue, (freeUntested_moves i r cause s).2.1]
  exact release_queue i r s d

theorem freeUntested_seen (i : RecIndex) (r : Record) (cause : FreeCause) (s : State) (d : Client) :
    seen (freeUntested i r cause s) d = seen s d :=
  seen_of_fields (freeUntested_moves i r cause s).2.2 (by simp) (by simp) d

theorem freeUntested_faceAt (i : RecIndex) (r : Record) (cause : FreeCause) (s : State) :
    faceAt (freeUntested i r cause s) = update (faceAt s) i none := faceAt_of_set (freeUntested_moves i r cause s).1

theorem freeUntested_gen (i : RecIndex) (r : Record) (cause : FreeCause) (s : State) (j : RecIndex) :
    ((freeUntested i r cause s).slot j).gen = (s.slot j).gen := gen_of_set (freeUntested_moves i r cause s).1 rfl j

theorem takenBy_freeUntested (i : RecIndex) (r : Record) (cause : FreeCause) (s : State) (p : Client) (n : SlotNo) :
    takenBy (freeUntested i r cause s) p n =
      if r.key.isPost = true ∧ p = r.key.postSender ∧ n = r.key.postSlot then
        (takenBy s p n).filter (fun x => x.2 ≠ s.handleAt i) else takenBy s p n := by
  have hposts : ∀ u : State, u.posts = s.posts → takenBy (reportPost r (s.handleAt i) cause u) p n =
      if r.key.isPost = true ∧ p = r.key.postSender ∧ n = r.key.postSlot then
        (takenBy s p n).filter (fun x => x.2 ≠ s.handleAt i) else takenBy s p n := fun u hu => by
    unfold reportPost
    by_cases hk : r.key.isPost = true
    · rw [if_pos hk, takenBy_settlePost, takenBy_of_posts hu]
      simp only [hk, true_and]
    · rw [if_neg hk, if_neg fun e => hk e.1, takenBy_of_posts hu]
  rw [← hposts (reportCopy r (release i r s)) (by simp)]
  exact takenBy_of_posts (by unfold freeUntested; simp) p n

theorem freeUntested_slotsName (h : SlotsName s) {i : RecIndex} {r : Record} (hr : s.record i = some r) (cause : FreeCause) :
    SlotsName (freeUntested i r cause s) := by
  intro p n q x
  rw [freeUntested_gen, nameAt_update (freeUntested_faceAt i r cause s), takenBy_freeUntested]
  by_cases hx : x.index = i
  · rw [hx, update_self]
    refine iff_of_false (fun e => ?_) fun e => nomatch e.2
    have ht : takenBy s p n = some (q, x) := by
      split at e
      · exact (Option.filter_eq_some_iff.1 e).1
      · exact e
    obtain ⟨hgen, hname⟩ := (h p n q x).1 ht
    have hkey : r.key = postKey p n := by
      rw [hx, nameAt_of_record hr] at hname
      exact (Prod.mk.inj (Option.some.inj hname)).2
    have hhandle : x = s.handleAt i := by
      subst hx
      exact congrArg (Handle.mk x.index) hgen
    obtain ⟨hpost, hsender, hslot⟩ := postKey_reads p n
    rw [hkey, hpost, hsender, hslot, if_pos ⟨rfl, rfl, rfl⟩, ht, hhandle] at e
    simpa using Option.filter_eq_some_iff.1 e
  · rw [update_of_ne hx, ← h p n q x]
    split
    · rw [Option.filter_eq_some_iff]
      refine and_iff_left (decide_eq_true fun e => hx ?_)
      rw [show x = s.handleAt i from e]
      rfl
    · rfl

theorem freeUntested_roleLaw (h : RoleLaw k s) {i : RecIndex} {r : Record} {y : Standing} (hr : s.record i = some r)
    (hy : Standing.Without r.state (k r.owner) y) (cause : FreeCause) :
    RoleLaw (update k r.owner y) (freeUntested i r cause s) :=
  h.removed (roleAt_of_record hr) hy (roleAt_update (freeUntested_faceAt i r cause s)) (freeUntested_gen i r cause s)
    (freeUntested_seen i r cause s) (freeUntested_queue i r cause s)

/-- A free ends one of two QUEUED EACH records of a key, or a record that is the only one. -/
theorem freeUntested_keyLaw {i : RecIndex} {r : Record} (hr : s.record i = some r) (cause : FreeCause)
    (honce : ∀ a b p, a ≠ i → b ≠ i → eachAt s a = some p → eachAt s b = some p → a = b) (hslots : SlotsName s) :
    KeyLaw (freeUntested i r cause s) := by
  refine ⟨fun a b p ha hb => ?_, freeUntested_slotsName hslots hr cause⟩
  rw [eachAt_update (freeUntested_faceAt i r cause s)] at ha hb
  have hai : a ≠ i := by
    rintro rfl
    rw [update_self] at ha
    cases ha
  have hbi : b ≠ i := by
    rintro rfl
    rw [update_self] at hb
    cases hb
  rw [update_of_ne hai] at ha
  rw [update_of_ne hbi] at hb
  exact honce a b p hai hbi ha hb

/-- A free ends a record, and its owner then stands as one without it. -/
theorem freeUntested_law (h : StoreLaw full k s) {i : RecIndex} {r : Record} {y : Standing} (hr : s.record i = some r)
    (hy : Standing.Without r.state (k r.owner) y) (cause : FreeCause) :
    StoreLaw full (update k r.owner y) (freeUntested i r cause s) :=
  ⟨freeUntested_roleLaw h.roles hr hy cause, fun hf => freeUntested_keyLaw hr cause
    (fun a b p _ _ ha hb => (h.keys hf).once a b p ha hb) (h.keys hf).slots⟩

theorem freeWithin_law (h : StoreLaw full k s) {i : RecIndex} {r : Record} {y : Standing} (hr : s.record i = some r)
    (hy : Standing.Without r.state (k r.owner) y) (cause : FreeCause) :
    StoreLaw full (update k r.owner y) (freeWithin i r cause s) :=
  (freeUntested_law h hr hy cause).framed (by simp [freeWithin])

theorem freeRecord_law (h : StoreLaw full k s) {i : RecIndex} {r : Record} {y : Standing} (hr : s.record i = some r)
    (hy : Standing.Without r.state (k r.owner) y) (cause : FreeCause) :
    StoreLaw full (update k r.owner y) (freeRecord i r cause s) := completeWake_law (freeWithin_law h hr hy cause) _

/-- The end of a QUEUED record leaves every client as it stands. -/
theorem freeRecord_queued_law (h : StoreLaw full k s) {i : RecIndex} {r : Record} (hr : s.record i = some r)
    (hq : r.state = .queued) (cause : FreeCause) : StoreLaw full k (freeRecord i r cause s) := by
  have := freeRecord_law h (y := k r.owner) hr (hq ▸ .queued _) cause
  rwa [update_eq_self] at this

/-- A free leaves every other record that is not QUEUED. -/
theorem freeRecord_record (h : StoreLaw full k s) {i j : RecIndex} {r x : Record} {y : Standing} (hr : s.record i = some r)
    (hy : Standing.Without r.state (k r.owner) y) (cause : FreeCause) (hj : j ≠ i) (hx : s.record j = some x)
    (hq : x.state ≠ .queued) : (freeRecord i r cause s).record j = some x := by
  refine completeWake_record (freeWithin_law h hr hy cause) s.mode ?_ hq
  rw [State.record, freeWithin_slot, if_neg hj]
  exact hx

/-! ## A making -/

theorem insertAt_perm (n : Nat) (i : RecIndex) (q : List RecIndex) : (insertAt n i q).Perm (i :: q) := by
  unfold insertAt
  refine List.perm_middle.trans ?_
  rw [List.take_append_drop]

/-- A record enters one queue, wherever its place. -/
theorem enqueue_queue_perm (s : State) (c : Client) (p : Priority) (i : RecIndex) (d : Client) :
    ((enqueue s c p i).queue d).Perm (if d = c then i :: s.queue d else s.queue d) := by
  rw [enqueue_queue]
  split
  · rename_i hd
    rw [hd]
    exact insertAt_perm _ i _
  · exact .rfl

theorem makeAt_queue_perm (i : RecIndex) (q : StoreRequest) (s : State) (d : Client) :
    ((makeAt i q s).queue d).Perm (if d = q.owner then i :: s.queue d else s.queue d) := by
  have hq : (makeAt i q s).queues =
      (enqueue (s.setSlot i ⟨(s.slot i).gen + 1, some (recordOf q)⟩) q.owner q.priority i).queues := by
    unfold makeAt
    simp
  rw [State.queue, hq]
  exact enqueue_queue_perm _ q.owner q.priority i d

theorem makeAt_seen (i : RecIndex) (q : StoreRequest) (s : State) (d : Client) : seen (makeAt i q s) d = seen s d :=
  seen_of_fields (by simp) (by simp) (by simp) d

theorem makeAt_faceAt (i : RecIndex) (q : StoreRequest) (s : State) :
    faceAt (makeAt i q s) = update (faceAt s) i (some (faceOf (recordOf q))) := faceAt_of_set (makeAt_pool i q s)

theorem makeAt_gen_of_ne (q : StoreRequest) (s : State) {i j : RecIndex} (hj : j ≠ i) :
    ((makeAt i q s).slot j).gen = (s.slot j).gen := by
  rw [State.slot, makeAt_pool, Table.get_set_ne _ hj]

theorem makeAt_roleLaw (h : RoleLaw k s) {i : RecIndex} {q : StoreRequest} (hi : s.record i = none)
    (ha : s.attached q.owner = true) : RoleLaw k (makeAt i q s) :=
  h.added (roleAt_of_free hi) (roleAt_update (makeAt_faceAt i q s)) (fun _ hj => makeAt_gen_of_ne q s hj) (makeAt_seen i q s)
    ha (makeAt_queue_perm i q s)

/-- No QUEUED EACH record has the owner and the key of a request for an EACH record. -/
def Fresh (q : StoreRequest) (s : State) : Prop := q.mode = .each → ∀ j, eachAt s j ≠ some (q.owner, q.key)

theorem makeAt_once (h : EachOnce s) {i : RecIndex} {q : StoreRequest} (hq : Fresh q s) : EachOnce (makeAt i q s) := by
  refine h.changed (eachAt_update (makeAt_faceAt i q s)) fun p hp j _ hj => ?_
  simp only [Option.bind_some, Face.each, faceOf, recordOf, Option.ite_none_right_eq_some, Option.some.injEq] at hp
  obtain ⟨⟨-, hm⟩, rfl⟩ := hp
  exact hq hm j hj

/-- A record of no post is made at a FREE index for an attached client. -/
theorem makeAt_law (h : StoreLaw full k s) {i : RecIndex} {q : StoreRequest} (hi : s.record i = none)
    (ha : s.attached q.owner = true) (hq : full → Fresh q s ∧ ¬ isKeyOfPost q.key) : StoreLaw full k (makeAt i q s) :=
  ⟨makeAt_roleLaw h.roles hi ha, fun hf => ⟨makeAt_once (h.keys hf).once (hq hf).1,
    (h.keys hf).slots.changed (fun _ _ _ => by rw [nameAt_of_free hi]; nofun) (nameAt_update (makeAt_faceAt i q s)) (hq hf).2
      (fun _ hj => makeAt_gen_of_ne q s hj) (takenBy_of_posts (by simp))⟩⟩

/-! ## A record that takes in others -/

/-- The record `r` once it has taken in `count` more events of this priority and urgent mark. -/
def folded (r : Record) (count : Nat) (p : Priority) (u : Bool) : Record :=
  { r with count := satAdd 255 r.count count, priority := max r.priority p, urgent := r.urgent || u }

theorem foldInto_eq (i : RecIndex) (r : Record) (count : Nat) (p : Priority) (u : Bool) (s : State) :
    foldInto i r count p u s = if r.priority < p then moveUp (s.setRecord i (some (folded r count p u))) r.owner p i
      else s.setRecord i (some (folded r count p u)) := rfl

theorem mergeFront_eq (i : RecIndex) (r : Record) (j : RecIndex) (o : Record) (s : State) : mergeFront i r j o s =
    freeRecord j o .other (s.setRecord i (some (folded r o.count o.priority o.urgent))) := rfl

theorem foldInto_queue_perm (h : RoleLaw k s) {i : RecIndex} {r : Record} (hr : s.record i = some r) (hq : r.state = .queued)
    (count : Nat) (p : Priority) (u : Bool) (d : Client) : ((foldInto i r count p u s).queue d).Perm (s.queue d) := by
  rw [foldInto_eq]
  split
  · rw [moveUp_queue]
    split
    · rename_i hd
      subst hd
      refine (insertAt_perm _ i _).trans ?_
      have hi : i ∈ s.queue r.owner := by
        rw [h.listed, roleAt_of_record hr, hq]
      have hf : (s.queue r.owner).filter (· ≠ i) = (s.queue r.owner).erase i := by
        rw [(h.nodup r.owner).erase_eq_filter]
        simp [bne, beq_eq_decide]
      show (i :: (s.queue r.owner).filter (· ≠ i)).Perm (s.queue r.owner)
      rw [hf]
      exact (List.perm_cons_erase hi).symm
    · exact .rfl
  · exact .rfl

theorem foldInto_faceAt {i : RecIndex} {r : Record} (hr : s.record i = some r) (count : Nat) (p : Priority) (u : Bool) :
    faceAt (foldInto i r count p u s) = faceAt s := by
  have h : faceAt (s.setRecord i (some (folded r count p u))) = faceAt s :=
    faceAt_setRecord_same (show faceAt s i = some (faceOf r) from faceAt_of_record hr)
  rw [foldInto_eq]
  split
  · exact (faceAt_of_pool (by simp)).trans h
  · exact h

/-- A QUEUED record takes in more events and keeps its owner, its key and its queue (R59, R62). -/
theorem foldInto_law (h : StoreLaw full k s) {i : RecIndex} {r : Record} (hr : s.record i = some r) (hq : r.state = .queued)
    (count : Nat) (p : Priority) (u : Bool) : StoreLaw full k (foldInto i r count p u s) := h.same
  { faces := foldInto_faceAt hr count p u
    gens := fun j => by
      rw [foldInto_eq]
      split <;> exact gen_setRecord s i _ j
    queues := foldInto_queue_perm h.roles hr hq count p u
    slots := takenBy_of_posts (by simp)
    clients := fun c _ => seen_of_fields (by simp) (by simp) (by simp) c }

/-! ## A placement at the front -/

/-- The record `r` at `i`, at the front of its owner's queue, before it merges. -/
def atFront (i : RecIndex) (r : Record) (s : State) : State := enqueueFront (s.setRecord i (some r)) r.owner i

/-- The same record, owned by the same client, is QUEUED. -/
structure Requeued (r x : Record) : Prop where
  was : r.state ≠ .queued
  now : x.state = .queued
  owner : x.owner = r.owner
  key : x.key = r.key

theorem atFront_faceAt (i : RecIndex) (x : Record) (s : State) :
    faceAt (atFront i x s) = update (faceAt s) i (some (faceOf x)) := faceAt_setRecord s i x

theorem atFront_self (i : RecIndex) (x : Record) (s : State) : faceAt (atFront i x s) i = some (faceOf x) := by
  rw [atFront_faceAt, update_self]

theorem atFront_gen (i : RecIndex) (x : Record) (s : State) (j : RecIndex) :
    ((atFront i x s).slot j).gen = (s.slot j).gen := gen_setRecord s i _ j

theorem atFront_roleLaw (h : RoleLaw k s) {i : RecIndex} {r x : Record} {y : Standing} (hr : s.record i = some r)
    (hx : Requeued r x) (hy : Standing.Without r.state (k r.owner) y) (ha : (seen s r.owner).attached = true) :
    RoleLaw (update k r.owner y) (atFront i x s) := by
  have hgone : RoleLaw (update k r.owner y) (s.setRecord i none) :=
    h.removed (roleAt_of_record hr) hy (roleAt_update (faceAt_setRecord_none s i))
      (gen_setRecord s i none) (fun _ => rfl) fun d => by rw [if_neg fun e => hx.was e.2]; rfl
  refine hgone.added (i := i) (c := r.owner) ?_ ?_ (fun j _ => ?_) (fun _ => rfl) ha fun d => ?_
  · rw [roleAt_update (faceAt_setRecord_none s i), update_self]
    rfl
  · rw [roleAt_update (atFront_faceAt i x s), roleAt_update (faceAt_setRecord_none s i), update_idem]
    refine congrArg _ ?_
    rw [← hx.owner, ← hx.now]
    rfl
  · rw [atFront_gen, gen_setRecord]
  · rw [atFront, enqueueFront_queue, hx.owner]
    split
    · rename_i hd
      rw [hd]
      exact .rfl
    · exact .rfl

theorem atFront_slotsName (h : SlotsName s) {i : RecIndex} {r x : Record} (hr : s.record i = some r) (hx : Requeued r x) :
    SlotsName (atFront i x s) := by
  have hname : nameAt (atFront i x s) = nameAt s := by
    rw [nameAt_update (atFront_faceAt i x s)]
    refine (congrArg _ ?_).trans (update_eq_self i _)
    rw [nameAt_of_record hr, ← hx.owner, ← hx.key]
    rfl
  intro p n q z
  rw [atFront_gen, hname]
  exact h p n q z

theorem atFront_law (h : StoreLaw full k s) {i : RecIndex} {r x : Record} {y : Standing} (hr : s.record i = some r)
    (hx : Requeued r x) (hy : Standing.Without r.state (k r.owner) y) (ha : (seen s r.owner).attached = true)
    (hn : x.mode ≠ .each ∨ sameKeyRecord (atFront i x s) x.owner x.key (some i) = none) :
    StoreLaw full (update k r.owner y) (atFront i x s) := by
  refine ⟨atFront_roleLaw h.roles hr hx hy ha, fun hf => ⟨(h.keys hf).once.changed (eachAt_update (atFront_faceAt i x s)) ?_,
    atFront_slotsName (h.keys hf).slots hr hx⟩⟩
  intro p hp j hj
  simp only [Option.bind_some, Face.each, faceOf, Option.ite_none_right_eq_some, Option.some.injEq] at hp
  obtain ⟨⟨-, hm⟩, rfl⟩ := hp
  have hother : eachAt (atFront i x s) j = eachAt s j := by
    rw [eachAt_update (atFront_faceAt i x s), update_of_ne hj]
  rw [← hother]
  exact eachAt_of_alone (atFront_roleLaw h.roles hr hx hy ha) (hn.resolve_left fun e => e hm) fun e =>
    hj (Option.some.inj e)

/-- The record `x`, placed at the front, once it has taken in `o`, which has still to be freed (R70). -/
def merged (i : RecIndex) (x o : Record) (s : State) : State :=
  (atFront i x s).setRecord i (some (folded x o.count o.priority o.urgent))

theorem merged_faceAt (i : RecIndex) (x o : Record) (s : State) : faceAt (merged i x o s) = faceAt (atFront i x s) :=
  faceAt_setRecord_same (r := folded x o.count o.priority o.urgent) (atFront_self i x s)

theorem merged_roleLaw {i : RecIndex} {x : Record} (o : Record) (h : RoleLaw k (atFront i x s)) :
    RoleLaw k (merged i x o s) :=
  h.same (Unmoved.setRecord_same (r := folded x o.count o.priority o.urgent) (atFront_self i x s)).toStill

theorem merged_record {i j : RecIndex} {x o : Record} (hj : j ≠ i) : (merged i x o s).record j = (atFront i x s).record j := by
  rw [merged, record_setRecord, if_neg hj]

/-- Of the records of the key that was placed, `j` holds the only other one. -/
theorem atFront_once_but (h : EachOnce s) {i j : RecIndex} {x : Record} (hj : eachAt s j = some (x.owner, x.key))
    {a b : RecIndex} {p : Client × Key} (haj : a ≠ j) (hbj : b ≠ j) (ha : eachAt (atFront i x s) a = some p)
    (hb : eachAt (atFront i x s) b = some p) : a = b := by
  have placed : ∀ q, (some (faceOf x)).bind Face.each = some q → q = (x.owner, x.key) := fun q hq => by
    simp only [Option.bind_some, Face.each, faceOf, Option.ite_none_right_eq_some, Option.some.injEq] at hq
    exact hq.2.symm
  have other : ∀ d q, d ≠ j → (some (faceOf x)).bind Face.each = some q → eachAt s d ≠ some q := fun d q hd hq e => by
    rw [placed q hq] at e
    exact hd (h d j _ e hj)
  rw [eachAt_update (atFront_faceAt i x s)] at ha hb
  by_cases hai : a = i
  · by_cases hbi : b = i
    · rw [hai, hbi]
    · rw [hai, update_self] at ha
      rw [update_of_ne hbi] at hb
      exact absurd hb (other b p hbj ha)
  · rw [update_of_ne hai] at ha
    by_cases hbi : b = i
    · rw [hbi, update_self] at hb
      exact absurd ha (other a p haj hb)
    · rw [update_of_ne hbi] at hb
      exact h a b p ha hb

/-- A record that was placed takes in the other of its key, which is freed: of the two of that key the one at the front stays. -/
theorem mergeFront_law (h : StoreLaw full k s) {i j : RecIndex} {r x o : Record} {y : Standing} (hr : s.record i = some r)
    (hx : Requeued r x) (hy : Standing.Without r.state (k r.owner) y) (ha : (seen s r.owner).attached = true)
    (e : sameKeyRecord (atFront i x s) x.owner x.key (some i) = some (j, o)) :
    StoreLaw full (update k r.owner y) (mergeFront i x j o (atFront i x s)) := by
  obtain ⟨hmem, hne, ho, hqo, hmo, hko⟩ := sameKeyRecord_some e
  have hji : j ≠ i := fun e => hne (e ▸ rfl)
  have hroles := atFront_roleLaw h.roles hr hx hy ha
  have howner := (hroles.listed_record hmem ho).1
  have hj : eachAt s j = some (x.owner, x.key) := by
    have hs : s.record j = some o := by
      rw [← ho, atFront, enqueueFront]
      exact ((record_setRecord s i _ j).trans (if_neg hji)).symm
    exact eachAt_eq_some.2 ⟨o, hs, ⟨hqo, hmo⟩, howner, hko⟩
  have hfree : StoreLaw full (update k r.owner y) (freeUntested j o .other (merged i x o s)) := by
    have hface := merged_faceAt i x o s
    have ho' : (merged i x o s).record j = some o := (merged_record hji).trans ho
    refine ⟨?_, fun hf => freeUntested_keyLaw ho' .other (fun a b p haj hbj hpa hpb => ?_) fun p n q z => ?_⟩
    · have := freeUntested_roleLaw (merged_roleLaw o hroles) (y := update k r.owner y o.owner) ho' (hqo ▸ .queued _) .other
      rwa [update_eq_self] at this
    · rw [eachAt_of_faceAt hface] at hpa hpb
      exact atFront_once_but (h.keys hf).once hj haj hbj hpa hpb
    · rw [merged, gen_setRecord, ← merged, nameAt_of_faceAt hface]
      exact atFront_slotsName (h.keys hf).slots hr hx p n q z
  rw [mergeFront_eq]
  exact completeWake_law (hfree.framed (by simp [freeWithin, merged])) _

/-- A record goes to the front of its owner's queue, and merges with the other of its key (R58, R70). -/
theorem placeAtFront_law (h : StoreLaw full k s) {i : RecIndex} {r x : Record} {y : Standing} (hr : s.record i = some r)
    (hx : Requeued r x) (hy : Standing.Without r.state (k r.owner) y) (ha : (seen s r.owner).attached = true) :
    StoreLaw full (update k r.owner y) (placeAtFront i x s) := by
  by_cases hm : x.mode = .each
  · cases e : sameKeyRecord (atFront i x s) x.owner x.key (some i) with
    | none =>
      rw [placeAtFront_of_alone (.inr e)]
      exact atFront_law h hr hx hy ha (.inr e)
    | some p =>
      rw [placeAtFront_of_merge hm e]
      exact mergeFront_law h hr hx hy ha e
  · rw [placeAtFront_of_alone (.inl hm)]
    exact atFront_law h hr hx hy ha (.inl hm)

end Sys2Proof.Laws
end

section
/-! PROOF. Suspension and resumption (R103 to R105), what a record's entry leads to (R59), transfer and detach (R72, R137, R138), and
the client reset (R127): within each of them one client stands otherwise, and as it should at its end. -/

namespace Sys2Proof.Laws

open Sys2Proof.Machine Sys2Proof.Safety Function

variable {full : Prop} {k : Client → Standing} {s t : State}

theorem update_but (c : Client) (x y : Standing) : update (but c x) c y = but c y := update_idem ..

theorem update_but_settled (c : Client) (x : Standing) : update (but c x) c .settled = calm := by
  rw [update_but, but_settled]

/-- The owner of a record is attached, if it is not leaving. -/
theorem RoleLaw.attached (h : RoleLaw k s) {i : RecIndex} {r : Record} (hr : s.record i = some r)
    (hk : k r.owner ≠ .leaving) : (seen s r.owner).attached = true := h.home i r.owner r.state (roleAt_of_record hr) hk

/-- One client comes to stand otherwise; it is attached as before. -/
theorem StoreLaw.reseat {c : Client} {x y : Standing} (h : StoreLaw full (but c x) s) (e : Unmoved (some c) s t)
    (hy : Stands t c y) (hx : x ≠ .leaving) (ha : (seen t c).attached = (seen s c).attached) :
    StoreLaw full (but c y) t := by
  have := h.restand e hy fun _ i st hi => ha ▸ h.roles.home i c st hi (by rwa [but_self])
  rwa [update_but] at this

theorem StoreLaw.of_calm (h : StoreLaw full calm s) (c : Client) : StoreLaw full (but c .settled) s := by
  rwa [but_settled]

theorem StoreLaw.to_calm {c : Client} (h : StoreLaw full (but c .settled) s) : StoreLaw full calm s := by
  rwa [but_settled] at h

/-! ## The gate opens, and the handle becomes none -/

theorem setGate_law {c : Client} (h : StoreLaw full (but c .gateOwed) s) : StoreLaw full calm (setGate c true s) := by
  have hs := h.roles.stands c
  rw [but_self] at hs
  obtain ⟨⟨-, hlacks⟩, hnames, hidle⟩ := hs
  have he : Unmoved (some c) s (setGate c true s) := .setPresentation s c _
  have hseen : seen (setGate c true s) c = { seen s c with gateOpen := true } := by
    unfold setGate
    rw [seen_setPresentation, if_pos rfl]
    rfl
  have hset : Stands (setGate c true s) c .settled := ⟨.of_open (by rw [hseen]) hlacks,
    hnames.alike (by rw [hseen]) (fun _ => .rfl) fun _ _ => rfl, hidle.alike (by rw [hseen]) (by rw [hseen])⟩
  exact (h.reseat he hset nofun (by rw [hseen])).to_calm

theorem openGate_law {c : Client} (h : StoreLaw full (but c .gateOwed) s) : StoreLaw full calm (openGate c s) :=
  examine_law (setGate_law h) c

theorem openGate_record {c : Client} (h : StoreLaw full (but c .gateOwed) s) {i : RecIndex} {r : Record}
    (hr : s.record i = some r) (hq : r.state ≠ .queued) : (openGate c s).record i = some r :=
  examine_record (setGate_law h).roles c hr hq

theorem clearSuspended_law {c : Client} (h : StoreLaw full (but c .handleOwed) s) : StoreLaw full calm (clearSuspended c s) := by
  have hs := h.roles.stands c
  rw [but_self] at hs
  obtain ⟨hgate, hlacks⟩ := hs
  have he : Unmoved (some c) s (clearSuspended c s) := .setContexts s c _
  have hseen : seen (clearSuspended c s) c = { seen s c with suspended := none } := by
    unfold clearSuspended
    rw [seen_setContexts, if_pos rfl]
    rfl
  have hset : Stands (clearSuspended c s) c .settled := ⟨hgate.alike (by rw [hseen]) fun _ => .rfl,
    .of_none (by rw [hseen]) hlacks, fun _ => by rw [hseen]⟩
  exact (h.reseat he hset nofun (by rw [hseen])).to_calm

/-! ## The exchange to SERVICE (R103, R104) -/

/-- Client c's PRESENTED record is suspended, SERVICE is active, and the gate is open. -/
def suspendedFor (c : Client) (cause : ContextCause) (i : RecIndex) (r : Record) (s : State) : State :=
  setGate c true (placeHubFrame c (.context .service cause (some (s.handleAt i)))
    (enterService c (some (s.handleAt i)) (suspend c i r s)))

theorem suspendedFor_pool (c : Client) (cause : ContextCause) (i : RecIndex) (r : Record) (s : State) :
    (suspendedFor c cause i r s).pool = s.pool.set i ⟨(s.slot i).gen, some { r with state := .suspended }⟩ := by
  unfold suspendedFor suspend setAttention
  simp [State.setRecord, State.slot]

theorem suspendedFor_seen (c : Client) (cause : ContextCause) (i : RecIndex) (r : Record) (s : State) (d : Client) :
    seen (suspendedFor c cause i r s) d = if d = c then
      { seen s c with gateOpen := true, suspended := some (s.handleAt i), active := .service } else seen s d := by
  have h : ∀ e, seen (suspend c i r s) e = seen s e := seen_of_fields (by simp) (by simp) (by simp)
  have h' : ∀ e, seen (placeHubFrame c (.context .service cause (some (s.handleAt i)))
      (enterService c (some (s.handleAt i)) (suspend c i r s))) e =
      seen (enterService c (some (s.handleAt i)) (suspend c i r s)) e := seen_of_fields (by simp) (by simp) (by simp)
  unfold suspendedFor setGate
  rw [seen_setPresentation, h', h']
  unfold enterService
  rw [seen_setContexts, seen_setContexts, h, h]
  by_cases hd : d = c
  · rw [if_pos hd, if_pos hd, if_pos rfl]
    rfl
  · rw [if_neg hd, if_neg hd, if_neg hd]

theorem suspendedFor_faceAt (c : Client) (cause : ContextCause) (i : RecIndex) (r : Record) (s : State) :
    faceAt (suspendedFor c cause i r s) = update (faceAt s) i (some { faceOf r with state := .suspended }) :=
  faceAt_of_set (suspendedFor_pool c cause i r s)

theorem suspendedFor_gen (c : Client) (cause : ContextCause) (i : RecIndex) (r : Record) (s : State) (j : RecIndex) :
    ((suspendedFor c cause i r s).slot j).gen = (s.slot j).gen := gen_of_set (suspendedFor_pool c cause i r s) rfl j

/-- A client in OPERATE has no SUSPENDED record. -/
theorem HandleNames.lacks_of_idle {c : Client} (h : HandleNames s c) (hidle : HandleIdle s c)
    (ha : (seen s c).active = .operate) : Lacks s c .suspended := fun j hj => by
  have := (h ⟨j, (s.slot j).gen⟩).2 ⟨rfl, hj⟩
  rw [hidle ha] at this
  cases this

section Suspended

variable {c : Client} {cause : ContextCause} {i : RecIndex} {r : Record}

/-- After its record is suspended the client stands as between two steps: its gate open, and the handle naming the record. -/
theorem suspendedFor_stands (hroles : roleAt (suspendedFor c cause i r s) = update (roleAt s) i (some (c, .suspended)))
    (hpres : ∀ j, roleAt s j = some (c, .presented) → j = i) (hsusp : Lacks s c .suspended) :
    Stands (suspendedFor c cause i r s) c .settled := by
  have hself : seen (suspendedFor c cause i r s) c =
      { seen s c with gateOpen := true, suspended := some (s.handleAt i), active := .service } := by
    rw [suspendedFor_seen, if_pos rfl]
  refine ⟨.of_open (by rw [hself]) fun j hj => ?_, fun x => ?_, fun e => by rw [hself] at e; cases e⟩
  · rw [hroles] at hj
    by_cases hji : j = i
    · rw [hji, update_self] at hj
      cases hj
    · rw [update_of_ne hji] at hj
      exact hji (hpres j hj)
  · rw [hself, suspendedFor_gen, hroles]
    constructor
    · intro e
      cases e
      exact ⟨rfl, update_self ..⟩
    · rintro ⟨hgen, hx⟩
      by_cases hxi : x.index = i
      · subst hxi
        exact congrArg some (congrArg (Handle.mk x.index) hgen.symm)
      · rw [update_of_ne hxi] at hx
        exact absurd hx (hsusp _)

theorem suspendedFor_roleLaw (h : RoleLaw k s) (hk : k c = .settled) (ha : (seen s c).active = .operate)
    (hr : s.record i = some r) (ho : r.owner = c) (hp : r.state = .presented) :
    RoleLaw k (suspendedFor c cause i r s) := by
  have hqueues : (suspendedFor c cause i r s).queues = s.queues := by simp [suspendedFor]
  have hrole : roleAt s i = some (c, .presented) := by rw [roleAt_of_record hr, ho, hp]
  have hroles : roleAt (suspendedFor c cause i r s) = update (roleAt s) i (some (c, .suspended)) := by
    rw [roleAt_update (suspendedFor_faceAt ..), ← ho]
    rfl
  have hstands := h.stands c
  rw [hk] at hstands
  obtain ⟨-, hnames, hidle⟩ := hstands
  have hsusp := hnames.lacks_of_idle hidle ha
  refine h.changed hroles (.left h hrole (by simp) fun d => ?_) (fun d => ?_) ?_ ?_ (fun _ hd => hd) fun d => ?_
  · rw [State.queue, hqueues]
    simp [State.queue]
  · rw [suspendedFor_seen]
    split
    · rename_i hd
      rw [hd]
    · rfl
  · rintro d st e - j - hj
    cases e
    exact hsusp j hj
  · rintro d st e -
    cases e
    exact ho ▸ h.attached hr (by rw [ho, hk]; nofun)
  · by_cases hd : d = c
    · rw [hd, hk]
      exact suspendedFor_stands hroles (fun j hj => h.single j i c .presented nofun hj hrole) hsusp
    · refine (h.stands d).alike (by rw [suspendedFor_seen, if_neg hd]) (fun st _ j => ?_) fun j _ => suspendedFor_gen ..
      rw [hroles]
      refine update_eq_some_iff ?_ ?_ j
      · rw [hrole]
        exact fun e => hd (by cases e; rfl)
      · exact fun e => hd (by cases e; rfl)

theorem suspendedFor_keyLaw (h : KeyLaw s) (hr : s.record i = some r) : KeyLaw (suspendedFor c cause i r s) := by
  have hname : nameAt (suspendedFor c cause i r s) = nameAt s := by
    rw [nameAt_update (suspendedFor_faceAt ..)]
    exact (congrArg _ (nameAt_of_record hr).symm).trans (update_eq_self i _)
  have hposts : (suspendedFor c cause i r s).posts = s.posts := by simp [suspendedFor]
  refine ⟨h.once.changed (eachAt_update (suspendedFor_faceAt ..)) fun p hp => ?_, fun p n q x => ?_⟩
  · simp [Face.each] at hp
  · rw [takenBy_of_posts hposts, suspendedFor_gen, hname]
    exact h.slots p n q x

theorem suspendedFor_law (h : StoreLaw full k s) (hk : k c = .settled) (ha : (seen s c).active = .operate)
    (hr : s.record i = some r) (ho : r.owner = c) (hp : r.state = .presented) : StoreLaw full k (suspendedFor c cause i r s) :=
  ⟨suspendedFor_roleLaw h.roles hk ha hr ho hp, fun hf => suspendedFor_keyLaw (h.keys hf) hr⟩

end Suspended

theorem exchangeToService_law (h : StoreLaw full calm s) {c : Client} (ha : (seen s c).active = .operate)
    (cause : ContextCause) : StoreLaw full calm (exchangeToService c cause s) := by
  unfold exchangeToService
  split
  · rename_i i r e
    obtain ⟨-, hr, ho, hp⟩ := heldIn_some e
    exact examine_law (suspendedFor_law h rfl ha hr ho hp) c
  · obtain ⟨hgate, hnames, hidle⟩ := h.roles.stands c
    have he : Unmoved (some c) s (enterService c none s) := .setContexts s c _
    have hseen : seen (enterService c none s) c = { seen s c with suspended := none, active := .service } := by
      unfold enterService
      rw [seen_setContexts, if_pos rfl]
    have hset : Stands (enterService c none s) c .settled := by
      refine ⟨hgate.alike (by rw [hseen]) fun _ => .rfl, hnames.alike ?_ (fun _ => .rfl) fun _ _ => rfl, fun e => ?_⟩
      · rw [hseen]
        exact (hidle ha).symm
      · rw [hseen] at e
        cases e
    have hx := ((h.of_calm c).reseat he hset nofun (by rw [hseen])).to_calm
    exact examine_law (hx.framed (by simp)) c

theorem ctxExamine_law (h : StoreLaw full calm s) (c : Client) : StoreLaw full calm (ctxExamine c s) := by
  unfold ctxExamine
  split
  · rename_i hc
    obtain ⟨-, -, hactive, -⟩ := (forcedCondition_iff s c).1 hc
    exact exchangeToService_law h hactive .forced
  · exact h

/-- What a record's entry into a queue leads to (R59, R109). -/
theorem entered_law (h : StoreLaw full calm s) (c : Client) : StoreLaw full calm (entered c s) :=
  examine_law (ctxExamine_law h c) c

theorem coalesce_law (h : StoreLaw full calm s) {i : RecIndex} {r : Record} (hr : s.record i = some r)
    (hq : r.state = .queued) (p : Priority) (u : Bool) : StoreLaw full calm (coalesce i r p u s) := by
  rw [coalesce_eq]
  split
  · exact entered_law (foldInto_law h hr hq 1 p u) _
  · exact foldInto_law h hr hq 1 p u

/-! ## The exchange to OPERATE (R105) -/

theorem heldIn_none_iff {c : Client} {st : RecState} : heldIn s c st = none ↔ Lacks s c st := by
  constructor
  · intro h i hi
    obtain ⟨r, hr, ho, hs⟩ := roleAt_eq_some.1 hi
    have hsome : (recordIn s c st).isSome := by
      unfold recordIn
      rw [List.find?_isSome]
      exact ⟨i, List.mem_finRange i, by simp [hr, ho, hs]⟩
    obtain ⟨j, hj⟩ := Option.isSome_iff_exists.1 hsome
    have hp := List.find?_some hj
    obtain ⟨x, hx, -⟩ := (Option.any_eq_true _ _).1 hp
    rw [heldIn_of hj hx] at h
    cases h
  · intro h
    by_contra hne
    obtain ⟨⟨i, r⟩, e⟩ := Option.ne_none_iff_exists'.1 hne
    obtain ⟨-, hr, ho, hs⟩ := heldIn_some e
    exact h i (by rw [roleAt_of_record hr, ho, hs])

/-- OPERATE is active, with hold-off started: the SUSPENDED record has still to be resumed. -/
theorem enterOperate_law (h : StoreLaw full calm s) (c : Client) :
    StoreLaw full (but c .returning) (startHoldOff c (enterOperate c s)) := by
  have he : Unmoved (some c) s (startHoldOff c (enterOperate c s)) := by
    unfold startHoldOff
    dsimp only
    split
    · exact .setContexts s c _
    · exact Unmoved.trans (.setContexts s c _) (.setContexts _ c _)
  have hseen : seen (startHoldOff c (enterOperate c s)) c = { seen s c with active := .operate } := by
    have hx : seen (enterOperate c s) c = { seen s c with active := .operate } := by
      unfold enterOperate
      rw [seen_setContexts, if_pos rfl]
      rfl
    unfold startHoldOff
    dsimp only
    split
    · exact hx
    · rw [seen_setContexts, if_pos rfl, hx]
      simp [seen, enterOperate, State.contextsOf]
  obtain ⟨hgate, hnames, -⟩ := h.roles.stands c
  have hr := he.roles
  exact (h.of_calm c).reseat he ⟨hgate.alike (by rw [hseen]) (fun i => by rw [hr]),
    hnames.alike (by rw [hseen]) (fun i => by rw [hr]) fun i _ => he.gens i⟩ nofun (by rw [hseen])

theorem resume_law {c : Client} (h : StoreLaw full (but c .returning) s) : StoreLaw full calm (resume c s) := by
  unfold resume
  split
  · rename_i i r e
    obtain ⟨-, hr, ho, hs⟩ := heldIn_some e
    have hk : update (but c .returning) r.owner .handleOwed = but c .handleOwed := by rw [ho, update_but]
    have hf : Unmoved none s (returnFlags c r s) := by
      unfold returnFlags
      split
      · exact .setPendingFlags c _ s
      · exact .of_fields (by simp)
    have hp := placeAtFront_law (h.same hf) (i := i) (r := r) (x := { r with state := .queued, resumed := true, flags := 0 })
      (y := .handleOwed) ?_ ⟨by rw [hs]; nofun, rfl, rfl, rfl⟩ ?_ ?_
    · rw [hk] at hp
      exact clearSuspended_law hp
    · exact (record_of_pool (by simp) i).trans hr
    · rw [ho, but_self, hs]
      exact .resumed
    · exact (h.same hf).roles.home i r.owner r.state (by rw [hf.roles]; exact roleAt_of_record hr) (by rw [ho, but_self]; nofun)
  · rename_i e
    have hs := h.roles.stands c
    rw [but_self] at hs
    have hset : Stands s c .settled := ⟨hs.1, hs.2, fun _ => hs.2.none (heldIn_none_iff.1 e)⟩
    exact (h.reseat (.of_fields (by simp)) hset nofun rfl).to_calm

theorem exchangeToOperate_law (h : StoreLaw full calm s) (c : Client) : StoreLaw full calm (exchangeToOperate c s) := by
  have hr := resume_law (enterOperate_law h c)
  exact ctxExamine_law (examine_law (hr.framed (by simp)) c) c

/-! ## Transfer (R72) -/

/-- The record `r` at `i`, handed to f and entered in its queue. -/
def handed (i : RecIndex) (r : Record) (f : Client) (s : State) : State :=
  let u := reportPresented r (s.handleAt i) s
  let u := if r.state = .queued then dequeue u r.owner i else u
  enqueue (u.setRecord i (some { r with owner := f, state := .queued, esc := none })) f r.priority i

theorem transfer_of_alone {i : RecIndex} {r : Record} {f : Client}
    (h : r.mode ≠ .each ∨ sameKeyRecord s f r.key none = none) : transfer i r f s = handed i r f s := by
  unfold transfer
  by_cases hm : r.mode = .each
  · rw [if_pos hm, h.resolve_left fun hn => hn hm]
    rfl
  · rw [if_neg hm]
    rfl

theorem transfer_of_merge {i j : RecIndex} {r o : Record} {f : Client} (hm : r.mode = .each)
    (h : sameKeyRecord s f r.key none = some (j, o)) :
    transfer i r f s = freeWithin i r .other (foldInto j o r.count r.priority r.urgent s) := by
  unfold transfer
  rw [if_pos hm, h]

theorem handed_fields (i : RecIndex) (r : Record) (f : Client) (s : State) :
    (handed i r f s).pool =
      s.pool.set i ⟨(s.slot i).gen, some { r with owner := f, state := .queued, esc := none }⟩ ∧
    (handed i r f s).presentation = s.presentation ∧ (handed i r f s).contexts = s.contexts ∧
    (handed i r f s).health = s.health ∧ (handed i r f s).posts = s.posts := by
  unfold handed
  dsimp only
  split <;> simp [State.setRecord, State.slot]

theorem handed_queue_perm (i : RecIndex) (r : Record) (f : Client) (s : State) (d : Client) :
    ((handed i r f s).queue d).Perm (if d = f then i :: (release i r s).queue d else (release i r s).queue d) := by
  unfold handed
  dsimp only
  refine (enqueue_queue_perm _ f r.priority i d).trans ?_
  have hd : ((if r.state = .queued then dequeue (reportPresented r (s.handleAt i) s) r.owner i
      else reportPresented r (s.handleAt i) s).setRecord i
      (some { r with owner := f, state := .queued, esc := none })).queue d = (release i r s).queue d := by
    have hp : (reportPresented r (s.handleAt i) s).queues = s.queues := by simp
    rw [release_queue]
    show (if r.state = .queued then dequeue (reportPresented r (s.handleAt i) s) r.owner i
      else reportPresented r (s.handleAt i) s).queue d = _
    by_cases hs : r.state = .queued
    · rw [if_pos hs, dequeue, setQueue_queue, State.queue, State.queue, hp]
      by_cases hd : d = r.owner
      · rw [if_pos hd, if_pos ⟨hd, hs⟩, hd]
      · rw [if_neg hd, if_neg fun e => hd e.1]
    · rw [if_neg hs, if_neg fun e => hs e.2, State.queue, hp]
  rw [hd]

end Sys2Proof.Laws
end

section
/-! PROOF. Transfer and detach (R72, R137, R138), and changes of a score (R134): while a client leaves, its records are disposed of
one by one, and when none is left it stands as between two steps. -/

namespace Sys2Proof.Laws

open Sys2Proof.Machine Sys2Proof.Safety Function

variable {full : Prop} {k : Client → Standing} {s t : State} {c : Client}

/-! ## Transfer -/

/-- A client that leaves stays so, whichever of its records is gone. -/
theorem Standing.Without.of_leaving {x : Standing} (h : x = .leaving) (st : RecState) : Without st x x := h ▸ .leaving st

theorem foldInto_record_of_ne {i j : RecIndex} (hj : j ≠ i) (r : Record) (count : Nat) (p : Priority) (u : Bool) (s : State) :
    (foldInto i r count p u s).record j = s.record j := by
  have hx : ∀ v, (s.setRecord i v).record j = s.record j := fun v => congrArg PoolSlot.held (Table.get_set_ne _ hj _)
  rw [foldInto_eq]
  split
  · have hpool : ∀ v : State, (moveUp v r.owner p i).pool = v.pool := fun v => by simp
    rw [State.record, State.slot, hpool]
    exact hx _
  · exact hx _

theorem handed_faceAt (i : RecIndex) (r : Record) (f : Client) (s : State) : faceAt (handed i r f s) =
    update (faceAt s) i (some { faceOf r with owner := f, state := .queued }) := faceAt_of_set (handed_fields i r f s).1

theorem handed_seen (i : RecIndex) (r : Record) (f : Client) (s : State) (d : Client) : seen (handed i r f s) d = seen s d := by
  obtain ⟨-, hpres, hctx, hhealth, -⟩ := handed_fields i r f s
  exact seen_of_fields hpres hctx hhealth d

theorem handed_roleLaw (h : RoleLaw k s) {i : RecIndex} {r : Record} {f : Client} (hr : s.record i = some r)
    (hk : k r.owner = .leaving) (hf : (seen s f).attached = true) : RoleLaw k (handed i r f s) := by
  have hfree : faceAt (release i r s) = update (faceAt s) i none := faceAt_of_set (release_pool i r s)
  have hgone : RoleLaw (update k r.owner (k r.owner)) (release i r s) :=
    h.removed (roleAt_of_record hr) (.of_leaving hk _) (roleAt_update hfree)
      (gen_of_set (release_pool i r s) rfl) (seen_of_fields (by simp) (by simp) (by simp)) (release_queue i r s)
  have hsame : ∀ d, seen (release i r s) d = seen s d := seen_of_fields (by simp) (by simp) (by simp)
  have hnew := hgone.added (t := handed i r f s) (i := i) (c := f) ?_ ?_ (fun j _ => ?_) (fun d => ?_) ?_ (handed_queue_perm i r f s)
  · rwa [update_eq_self] at hnew
  · rw [roleAt_update hfree, update_self]
    rfl
  · rw [roleAt_update (handed_faceAt i r f s), roleAt_update hfree, update_idem]
    rfl
  · rw [gen_of_set (release_pool i r s) rfl]
    exact gen_of_set (handed_fields i r f s).1 rfl j
  · rw [handed_seen, hsame]
  · rw [hsame]
    exact hf

theorem handed_keyLaw (hroles : RoleLaw k s) (h : KeyLaw s) {i : RecIndex} {r : Record} {f : Client}
    (hr : s.record i = some r) (hp : ¬ isKeyOfPost r.key) (hn : r.mode ≠ .each ∨ sameKeyRecord s f r.key none = none) :
    KeyLaw (handed i r f s) := by
  obtain ⟨hpool, -, -, -, hposts⟩ := handed_fields i r f s
  refine ⟨h.once.changed (eachAt_update (handed_faceAt i r f s)) fun p he j hj e => ?_,
    h.slots.changed (fun q p n e => hp ?_) (nameAt_update (handed_faceAt i r f s)) hp
      (fun j _ => gen_of_set hpool rfl j) (takenBy_of_posts hposts)⟩
  · simp only [Option.bind_some, Face.each, faceOf, true_and, Option.ite_none_right_eq_some, Option.some.injEq] at he
    obtain ⟨hm, rfl⟩ := he
    exact eachAt_of_alone hroles (hn.resolve_left fun x => x hm) nofun e
  · rw [nameAt_of_record hr] at e
    exact ⟨p, n, (Prod.mk.inj (Option.some.inj e)).2⟩

/-- How the disposal of the record at `i` leaves things while client c leaves: that record is not c's any more, and none other has
changed its owner or state. -/
structure DisposedOf (full : Prop) (c : Client) (i : RecIndex) (s t : State) : Prop where
  law : StoreLaw full (but c .leaving) t
  role : ∃ w, roleAt t = update (roleAt s) i w ∧ ∀ st, w ≠ some (c, st)

theorem freeWithin_faceAt (i : RecIndex) (r : Record) (cause : FreeCause) (s : State) :
    faceAt (freeWithin i r cause s) = update (faceAt s) i none := faceAt_of_set (freeWithin_moves i r cause s).1

/-- The record of a client that leaves ends. -/
theorem freeWithin_disposes (h : StoreLaw full (but c .leaving) s) {i : RecIndex} {r : Record} (hr : s.record i = some r)
    (ho : r.owner = c) (cause : FreeCause) : DisposedOf full c i s (freeWithin i r cause s) := by
  refine ⟨?_, none, roleAt_update (freeWithin_faceAt i r cause s), nofun⟩
  have hl : but c .leaving r.owner = .leaving := by rw [ho, but_self]
  have := freeWithin_law h hr (.of_leaving hl _) cause
  rwa [update_eq_self] at this

theorem dropRecord_disposes (h : StoreLaw full (but c .leaving) s) {i : RecIndex} {r : Record} (hr : s.record i = some r)
    (ho : r.owner = c) : DisposedOf full c i s (dropRecord c i r s) := by
  have hpool : (dropFor c r.key s).pool = s.pool := by simp
  have hr' : (dropFor c r.key s).record i = some r := (record_of_pool hpool i).trans hr
  obtain ⟨hlaw, w, hw, hne⟩ := freeWithin_disposes (h.framed (t := dropFor c r.key s) (by simp)) hr' ho .drop
  exact ⟨hlaw, w, by rw [← roleAt_of_faceAt (faceAt_of_pool hpool)]; exact hw, hne⟩

/-- The record of a client that leaves goes to another that is attached (R72). -/
theorem transfer_disposes (h : StoreLaw full (but c .leaving) s) {i : RecIndex} {r : Record} {f : Client}
    (hr : s.record i = some r) (ho : r.owner = c) (hf : (seen s f).attached = true) (hfc : f ≠ c)
    (hp : ¬ isKeyOfPost r.key) : DisposedOf full c i s (transfer i r f s) := by
  have handedOver : (r.mode ≠ .each ∨ sameKeyRecord s f r.key none = none) → DisposedOf full c i s (transfer i r f s) := by
    intro hn
    rw [transfer_of_alone hn]
    refine ⟨⟨handed_roleLaw h.roles hr (by rw [ho, but_self]) hf, fun hfull => handed_keyLaw h.roles (h.keys hfull) hr hp hn⟩,
      some (f, .queued), roleAt_update (handed_faceAt i r f s), fun st e => hfc ?_⟩
    exact (Prod.mk.inj (Option.some.inj e)).1
  by_cases hm : r.mode = .each
  · cases e : sameKeyRecord s f r.key none with
    | none => exact handedOver (.inr e)
    | some p =>
      obtain ⟨hmem, -, hj, hq, -, -⟩ := sameKeyRecord_some e
      rw [transfer_of_merge hm e]
      have hface := foldInto_faceAt hj r.count r.priority r.urgent
      have hji : i ≠ p.1 := by
        rintro rfl
        rw [hr] at hj
        cases hj
        exact hfc ((h.roles.listed_record hmem hr).1.symm.trans ho)
      have hr' : (foldInto p.1 p.2 r.count r.priority r.urgent s).record i = some r := by
        rw [foldInto_record_of_ne hji]
        exact hr
      obtain ⟨hlaw, w, hw, hne⟩ := freeWithin_disposes (foldInto_law h hj hq r.count r.priority r.urgent) hr' ho .other
      exact ⟨hlaw, w, by rw [← roleAt_of_faceAt hface]; exact hw, hne⟩
  · exact handedOver (.inl hm)

/-! ## Detach -/

theorem fallbackFor_some {r : Record} {f : Client} (h : fallbackFor s c r = some f) : s.attached f = true ∧ f ≠ c := by
  simpa using (Option.filter_eq_some_iff.1 h).2

theorem disposeAt_disposes {p : State × List Client} (h : StoreLaw full (but c .leaving) p.1) {i : RecIndex}
    (ho : ∀ r, p.1.record i = some r → r.owner = c) : DisposedOf full c i p.1 (disposeAt c p i).1 := by
  unfold disposeAt
  split
  · rename_i r hr
    have hc := ho r hr
    unfold disposeRecord
    split
    · exact freeWithin_disposes h hr hc .other
    · split
      · exact dropRecord_disposes h hr hc
      · rename_i hpost
        have hp : ¬ isKeyOfPost r.key := fun e => hpost (isPost_of_isKeyOfPost e)
        split
        · exact dropRecord_disposes h hr hc
        · rename_i f hf
          obtain ⟨hatt, hne⟩ := fallbackFor_some hf
          split
          · exact transfer_disposes h hr hc hatt hne hp
          · split
            · exact freeWithin_disposes h hr hc .other
            · exact transfer_disposes h hr hc hatt hne hp
  · rename_i hr
    refine ⟨h, none, ?_, nofun⟩
    rw [← roleAt_of_free hr, update_eq_self]

/-- The indexes of `q` hold no other client's record, and every record of client c stands at one of them. -/
structure LeftAt (q : List RecIndex) (c : Client) (s : State) : Prop where
  own : ∀ i ∈ q, ∀ d st, roleAt s i = some (d, st) → d = c
  all : ∀ i st, roleAt s i = some (c, st) → i ∈ q

theorem DisposedOf.leftAt {i : RecIndex} {q : List RecIndex} (h : DisposedOf full c i s t) (hq : LeftAt (i :: q) c s)
    (hi : i ∉ q) : LeftAt q c t := by
  obtain ⟨w, hw, hne⟩ := h.role
  refine ⟨fun j hj d st e => ?_, fun j st e => ?_⟩
  · rw [hw, update_of_ne fun x : j = i => hi (x ▸ hj)] at e
    exact hq.own j (List.mem_cons_of_mem i hj) d st e
  · rw [hw] at e
    by_cases hji : j = i
    · rw [hji, update_self] at e
      exact absurd e (hne st)
    · rw [update_of_ne hji] at e
      exact (List.mem_cons.1 (hq.all j st e)).resolve_left hji

theorem disposeFold_law {q : List RecIndex} (hnd : q.Nodup) : ∀ p : State × List Client, StoreLaw full (but c .leaving) p.1 →
    LeftAt q c p.1 → StoreLaw full (but c .leaving) (q.foldl (disposeAt c) p).1 ∧ LeftAt [] c (q.foldl (disposeAt c) p).1 := by
  induction q with
  | nil => exact fun p h hq => ⟨h, hq⟩
  | cons i q ih =>
    intro p h hq
    obtain ⟨hi, hnd⟩ := List.nodup_cons.1 hnd
    have hd := disposeAt_disposes (i := i) h fun r hr => hq.own i (List.mem_cons_self ..) r.owner r.state (roleAt_of_record hr)
    exact ih hnd _ hd.law (hd.leftAt hq hi)

theorem recordIn_roleAt {st : RecState} {i : RecIndex} (h : recordIn s c st = some i) : roleAt s i = some (c, st) := by
  unfold recordIn at h
  have hany := List.find?_some h
  obtain ⟨r, hr, hp⟩ := (Option.any_eq_true _ _).1 hany
  simp only [Bool.and_eq_true, decide_eq_true_iff] at hp
  exact roleAt_eq_some.2 ⟨r, hr, hp⟩

theorem recordIn_none_lacks {st : RecState} (h : recordIn s c st = none) : Lacks s c st := heldIn_none_iff.1 (heldIn_none h)

/-- The list of R137 step 3 is the list of the client's records. -/
theorem mem_recordsInOrder (h : RoleLaw k s) (i : RecIndex) : i ∈ recordsInOrder s c ↔ ∃ st, roleAt s i = some (c, st) := by
  have held : ∀ st, st ≠ .queued → (i ∈ (recordIn s c st).toList ↔ roleAt s i = some (c, st)) := fun st hst => by
    rw [Option.mem_toList]
    refine ⟨recordIn_roleAt, fun e => ?_⟩
    cases hx : recordIn s c st with
    | none => exact absurd e (recordIn_none_lacks hx i)
    | some j => rw [h.single i j c st hst e (recordIn_roleAt hx)]
  rw [recordsInOrder, List.mem_append, List.mem_append, presentedOf, suspendedOf, held .presented nofun, held .suspended nofun, h.listed]
  constructor
  · rintro ((e | e) | e) <;> exact ⟨_, e⟩
  · rintro ⟨st, e⟩
    cases st with
    | queued => exact .inr e
    | presented => exact .inl (.inl e)
    | suspended => exact .inl (.inr e)

theorem nodup_recordsInOrder (h : RoleLaw k s) : (recordsInOrder s c).Nodup := by
  have one : ∀ o : Option RecIndex, o.toList.Nodup := fun o => by cases o <;> simp
  have pres : ∀ i ∈ (presentedOf s c).toList, roleAt s i = some (c, .presented) := fun i hi =>
    recordIn_roleAt (Option.mem_toList.1 hi)
  have susp : ∀ i ∈ (suspendedOf s c).toList, roleAt s i = some (c, .suspended) := fun i hi =>
    recordIn_roleAt (Option.mem_toList.1 hi)
  refine List.nodup_append.2 ⟨List.nodup_append.2 ⟨one _, one _, fun i hi j hj e => ?_⟩, h.nodup c, fun i hi j hj e => ?_⟩
  · subst e
    cases (pres i hi).symm.trans (susp i hj)
  · subst e
    have hq := (h.listed c i).1 hj
    rcases List.mem_append.1 hi with hi | hi
    · cases (pres i hi).symm.trans hq
    · cases (susp i hi).symm.trans hq

theorem disposeAll_law (h : StoreLaw full (but c .leaving) s) :
    StoreLaw full (but c .leaving) (disposeAll c s).1 ∧ ∀ st, Lacks (disposeAll c s).1 c st := by
  have hs : StoreLaw full (but c .leaving) (setAttention c false s) := h.framed (by simp)
  have hm := mem_recordsInOrder (c := c) hs.roles
  obtain ⟨hlaw, hleft⟩ := disposeFold_law (nodup_recordsInOrder hs.roles) (setAttention c false s, []) hs
    ⟨fun i hi d st e => by
      obtain ⟨st', e'⟩ := (hm i).1 hi
      exact (Prod.mk.inj (Option.some.inj (e.symm.trans e'))).1, fun i st e => (hm i).2 ⟨st, e⟩⟩
  exact ⟨hlaw, fun st i e => List.not_mem_nil (hleft.all i st e)⟩

/-- A client without records stands as between two steps once its gate is open and its handle none. -/
theorem clearDetached_law (h : StoreLaw full (but c .leaving) s) (hl : ∀ st, Lacks s c st) :
    StoreLaw full calm (clearDetached c s) := by
  have he : Unmoved (some c) s (clearDetached c s) :=
    (Unmoved.trans (.setPresentation s c _) (.setContexts _ c _)).trans (Unmoved.setPendingFlags c 0 _).weaken
  have hseen : seen (clearDetached c s) c = { seen s c with gateOpen := true, suspended := none } := by
    have hx : seen (setGate c true s) c = { seen s c with gateOpen := true } := by
      unfold setGate
      rw [seen_setPresentation, if_pos rfl]
      rfl
    unfold clearDetached
    rw [(Unmoved.setPendingFlags c 0 _).clients c nofun, clearSuspended, seen_setContexts, if_pos rfl, hx]
    rfl
  have hl' : ∀ st, Lacks (clearDetached c s) c st := fun st i e => hl st i (by rwa [← he.roles])
  have := h.restand (x := .settled) he ⟨.of_open (by rw [hseen]) (hl' _), .of_none (by rw [hseen]) (hl' _),
    fun _ => by rw [hseen]⟩ fun _ i st e => absurd e (hl st i)
  rwa [update_but_settled] at this

theorem finishDetach_law (h : StoreLaw full (but c .leaving) s) : StoreLaw full calm (finishDetach c s) := by
  obtain ⟨hd, hl⟩ := disposeAll_law h
  exact completeWake_law
    (List.foldlRecOn _ _ (examine_law (clearDetached_law hd hl) c) fun _ hu d _ => entered_law hu d) _

/-- The client is detached, and its records have still to be disposed of. -/
theorem beginDetach_law (h : StoreLaw full calm s) (c : Client) : StoreLaw full (but c .leaving) (beginDetach c s) := by
  have hx : StoreLaw full (but c .leaving) (s.setHealth c ⟨255, .detached, 0, 0⟩) :=
    h.restand (.setHealth s c _) (by rw [Stands, seen_setHealth, if_pos rfl]; rfl) fun e => absurd rfl e
  exact hx.framed (by simp [beginDetach])

theorem detach_law (h : StoreLaw full calm s) (c : Client) : StoreLaw full calm (detach c s) :=
  finishDetach_law (beginDetach_law h c)

/-! ## Scores -/

theorem healthOfScore_attached (n : Nat) : (healthOfScore n).attached = true := by
  unfold healthOfScore
  split
  · rfl
  · split <;> rfl

/-- A client's health is written, and it is attached as before. -/
theorem setHealth_law (h : StoreLaw full k s) {v : ClientHealth} (hv : v.health.attached = s.attached c) :
    StoreLaw full k (s.setHealth c v) := by
  refine h.same ((Unmoved.setHealth s c v).same_client ?_)
  rw [seen_setHealth, if_pos rfl, hv]
  rfl

/-- An attached client's score is written, with the notice of a change of its health. -/
def scored (c : Client) (n : Nat) (s : State) : State :=
  offerNotice .health (clientDetail c (healthOfScore n).code)
    (s.setHealth c { s.healthOf c with score := n, health := healthOfScore n })

/-- A score change of an attached client writes its health; the notice and the examination follow a change (R134). -/
theorem applyScore_cases (c : Client) (n : Nat) (s : State) :
    applyScore c n s = s.setHealth c { s.healthOf c with score := n, health := healthOfScore n } ∨
    applyScore c n s = scored c n s ∨ applyScore c n s = examine c (scored c n s) := by
  unfold applyScore
  dsimp only
  split
  · exact .inl rfl
  · split
    · exact .inr (.inr rfl)
    · exact .inr (.inl rfl)

theorem scored_law (h : StoreLaw full k s) (ha : s.attached c = true) (n : Nat) : StoreLaw full k (scored c n s) := by
  have hx : StoreLaw full k (s.setHealth c { s.healthOf c with score := n, health := healthOfScore n }) :=
    setHealth_law h ((healthOfScore_attached n).trans ha.symm)
  exact hx.framed (by simp [scored])

theorem applyScore_law (h : StoreLaw full k s) (ha : s.attached c = true) (n : Nat) : StoreLaw full k (applyScore c n s) := by
  rcases applyScore_cases c n s with e | e | e <;> rw [e]
  · exact setHealth_law h ((healthOfScore_attached n).trans ha.symm)
  · exact scored_law h ha n
  · exact examine_law (scored_law h ha n) c

/-- A score change leaves every record that is not QUEUED. -/
theorem applyScore_record (h : StoreLaw full k s) (ha : s.attached c = true) (n : Nat) {i : RecIndex} {r : Record}
    (hr : s.record i = some r) (hq : r.state ≠ .queued) : (applyScore c n s).record i = some r := by
  have hs : (scored c n s).record i = some r := (record_of_pool (by simp [scored]) i).trans hr
  rcases applyScore_cases c n s with e | e | e <;> rw [e]
  · exact hr
  · exact hs
  · exact examine_record (scored_law h ha n).roles c hs hq

theorem lowerScore_law (h : StoreLaw full k s) (c : Client) : StoreLaw full k (lowerScore c s) := by
  unfold lowerScore
  split
  · exact applyScore_law h (by assumption) _
  · exact h

/-- How client c stands after a score increase: it leaves when the increase begins a detach. -/
def afterRaise (c : Client) (detaches : Bool) : Client → Standing := if detaches then but c .leaving else calm

theorem raiseScore_law (h : StoreLaw full calm s) (c : Client) (n : Nat) :
    StoreLaw full (afterRaise c (raiseScore c n s).2) (raiseScore c n s).1 := by
  unfold raiseScore
  split
  · split
    · exact applyScore_law h (by assumption) _
    · exact beginDetach_law h c
  · exact h

theorem raiseScore_record (h : StoreLaw full k s) (c : Client) (n : Nat) {i : RecIndex} {r : Record}
    (hr : s.record i = some r) (hq : r.state ≠ .queued) : (raiseScore c n s).1.record i = some r := by
  unfold raiseScore
  split
  · split
    · exact applyScore_record h (by assumption) _ hr hq
    · exact (record_of_pool (by simp) i).trans hr
  · exact hr

theorem chargeScore_law (h : StoreLaw full calm s) (c : Client) (n : Nat) : StoreLaw full calm (chargeScore c n s) := by
  have hr := raiseScore_law h c n
  unfold chargeScore
  dsimp only
  split
  · rename_i hd
    rw [afterRaise, if_pos hd] at hr
    exact finishDetach_law hr
  · rename_i hd
    rw [afterRaise, if_neg hd] at hr
    exact hr

theorem completeRejoin_law (h : StoreLaw full calm s) (c : Client) : StoreLaw full calm (completeRejoin c s) := by
  have hseen : seen (s.setHealth c ⟨0, .healthy, 0, 0⟩) c = { seen s c with attached := true } := by
    rw [seen_setHealth, if_pos rfl]
    rfl
  obtain ⟨hgate, hnames, hidle⟩ := h.roles.stands c
  have hx := h.restand (x := .settled) (.setHealth s c ⟨0, .healthy, 0, 0⟩) ⟨hgate.alike (by rw [hseen]) fun _ => .rfl,
    hnames.alike (by rw [hseen]) (fun _ => .rfl) fun _ _ => rfl, hidle.alike (by rw [hseen]) (by rw [hseen])⟩
    fun _ _ _ _ => by rw [hseen]
  exact entered_law (((update_eq_self c calm) ▸ hx).framed (by simp)) c

end Sys2Proof.Laws
end

section
/-! PROOF. The client reset (R127): its steps return the client's records while its gate stands open and it is not READY, so that none
is presented again, and at their end it stands as between two steps. -/

namespace Sys2Proof.Laws

open Sys2Proof.Machine Sys2Proof.Safety Function

variable {full : Prop} {k : Client → Standing} {s t : State} {c : Client}

/-! ## Steps 1 to 4 -/

/-- Client c after steps 1 to 4 of its reset. -/
def withDefaults (c : Client) (s : State) : State := contextsToDefaults c (clearReady c (flushLink c (startPulse c s)))

theorem contextsToDefaults_unmoved (c : Client) (s : State) : Unmoved (some c) s (contextsToDefaults c s) := by
  unfold contextsToDefaults
  dsimp only
  have hx := Unmoved.setContexts s c { contextsAtReset with holdOffTime := (s.contextsOf c).holdOffTime }
  split
  · exact hx.trans (.of_fields (by simp))
  · exact hx.trans (.of_fields (by simp))

theorem contextsToDefaults_seen (c : Client) (s : State) :
    seen (contextsToDefaults c s) c = { seen s c with suspended := none, active := .operate } := by
  have hx : seen (s.setContexts c { contextsAtReset with holdOffTime := (s.contextsOf c).holdOffTime }) c =
      { seen s c with suspended := none, active := .operate } := by
    rw [seen_setContexts, if_pos rfl]
    rfl
  rw [← hx]
  unfold contextsToDefaults
  dsimp only
  split
  · exact seen_of_fields (by simp) (by simp) (by simp) c
  · exact seen_of_fields (by simp) (by simp) (by simp) c

theorem withDefaults_law (h : StoreLaw full calm s) (c : Client) : StoreLaw full (but c .resetting) (withDefaults c s) := by
  have hlinks : StoreLaw full calm (flushLink c (startPulse c s)) := h.framed (by simp)
  have hready : seen (clearReady c (flushLink c (startPulse c s))) c =
      { seen (flushLink c (startPulse c s)) c with ready := false, gateOpen := true } := by
    unfold clearReady
    rw [seen_setPresentation, if_pos rfl]
    rfl
  have he : Unmoved (some c) (flushLink c (startPulse c s)) (withDefaults c s) :=
    Unmoved.trans (.setPresentation _ c presentationAtReset) (contextsToDefaults_unmoved c _)
  have hseen : seen (withDefaults c s) c = { seen (flushLink c (startPulse c s)) c with
      ready := false, gateOpen := true, suspended := none, active := .operate } := by
    unfold withDefaults
    rw [contextsToDefaults_seen, hready]
  exact (hlinks.of_calm c).reseat he ⟨⟨by rw [hseen], by rw [hseen]⟩, by rw [hseen]⟩ nofun (by rw [hseen])

/-! ## What the later steps leave -/

/-- Each record of client c in `t` that is not QUEUED is as in `s`. -/
def Steady (c : Client) (s t : State) : Prop :=
  ∀ i r, t.record i = some r → r.owner = c → r.state ≠ .queued → s.record i = some r

/-- Client c has no record at `i`, or a QUEUED one. -/
def Gone (c : Client) (i : RecIndex) (s : State) : Prop := ∀ r, s.record i = some r → r.owner = c → r.state = .queued

/-- Every record of client c in this state is a signal record. -/
def OnlySignals (s : State) (c : Client) (st : RecState) : Prop :=
  ∀ i r, s.record i = some r → r.owner = c → r.state = st → r.key.isSignal = true

section Steady

theorem Steady.refl (c : Client) (s : State) : Steady c s s := fun _ _ hr _ _ => hr

theorem Steady.trans {u : State} (h : Steady c s t) (h' : Steady c t u) : Steady c s u :=
  fun i r hr ho hq => h i r (h' i r hr ho hq) ho hq

theorem Steady.of_pool (c : Client) (h : t.pool = s.pool) : Steady c s t := fun i _ hr _ _ =>
  (record_of_pool h i).symm.trans hr

theorem Gone.steady {i : RecIndex} (h : Gone c i s) (e : Steady c s t) : Gone c i t := fun r hr ho => by
  by_contra hq
  exact hq (h r (e i r hr ho hq) ho)

theorem OnlySignals.steady {st : RecState} (h : OnlySignals s c st) (hst : st ≠ .queued) (e : Steady c s t) :
    OnlySignals t c st := fun i r hr ho hs => h i r (e i r hr ho (hs ▸ hst)) ho hs

variable {i : RecIndex} {v : Option Record}

theorem Gone.setRecord (hv : ∀ r, v = some r → r.state = .queued) (c : Client) (s : State) : Gone c i (s.setRecord i v) :=
  fun r hr _ => hv r (by rwa [record_setRecord, if_pos rfl] at hr)

theorem Steady.setRecord (hv : ∀ r, v = some r → r.state = .queued) (c : Client) (s : State) :
    Steady c s (s.setRecord i v) := fun j r hr _ hq => by
  rw [record_setRecord] at hr
  split at hr
  · exact absurd (hv r hr) hq
  · exact hr

end Steady

/-- A client that is being reset is presented nothing. -/
theorem examine_steady (h : StoreLaw full (but c .resetting) s) (d : Client) : Steady c s (examine d s) := by
  rcases examine_cases d s with e | ⟨j, x, hj, hx, ⟨hready, -, -⟩, e⟩ <;> rw [e]
  · exact .refl c s
  · intro i r hr ho _
    by_cases hij : i = j
    · subst hij
      rw [State.record, State.slot, present_pool, Table.get_set, if_pos rfl] at hr
      cases hr
      have hd : d = c := (h.roles.listed_record hj hx).1.symm.trans ho
      have hs := h.roles.stands c
      rw [but_self] at hs
      rw [hd, hs.1.1] at hready
      cases hready
    · rwa [State.record, State.slot, present_pool, Table.get_set_ne _ hij] at hr

theorem completeWake_steady (h : StoreLaw full (but c .resetting) s) (m : HubMode) : Steady c s (completeWake m s) :=
  (completeWake_keeps_of (P := fun u => StoreLaw full (but c .resetting) u ∧ Steady c s u)
    (fun d _ hu => ⟨examine_law hu.1 d, hu.2.trans (examine_steady hu.1 d)⟩) ⟨h, .refl c s⟩ m).2

theorem Standing.Without.of_resetting (c : Client) {d : Client} {st : RecState} (h : d = c ∨ st = .queued) :
    Without st (but c .resetting d) (but c .resetting d) := by
  rcases h with rfl | rfl
  · rw [but_self]
    exact .resetting st
  · exact .queued _

/-- A record of the client that is being reset, or a QUEUED one, ends. -/
theorem freeRecord_resetting (h : StoreLaw full (but c .resetting) s) {i : RecIndex} {r : Record} (hr : s.record i = some r)
    (ho : r.owner = c ∨ r.state = .queued) (cause : FreeCause) : StoreLaw full (but c .resetting) (freeRecord i r cause s) ∧
    Steady c s (freeRecord i r cause s) ∧ Gone c i (freeRecord i r cause s) := by
  have hw : Standing.Without r.state (but c .resetting r.owner) _ := .of_resetting c ho
  have hlaw := freeRecord_law h hr hw cause
  have hwithin := freeWithin_law h hr hw cause
  rw [update_eq_self] at hlaw hwithin
  have hrest : Steady c (s.setRecord i none) (freeRecord i r cause s) :=
    .trans (.of_pool c (freeWithin_moves i r cause s).1) (completeWake_steady hwithin s.mode)
  have hfree : ∀ x : Record, none = some x → x.state = .queued := fun x e => absurd e (by simp)
  exact ⟨hlaw, .trans (.setRecord hfree c s) hrest, (Gone.setRecord hfree c s).steady hrest⟩

/-! ## Step 5: the PRESENTED and the SUSPENDED record -/

/-- A record of the client that is being reset goes to the front of its queue. -/
theorem placeAtFront_resetting (h : StoreLaw full (but c .resetting) s) {i : RecIndex} {r x : Record}
    (hr : s.record i = some r) (hx : Requeued r x) (ho : r.owner = c) :
    StoreLaw full (but c .resetting) (placeAtFront i x s) ∧ Steady c s (placeAtFront i x s) ∧
    Gone c i (placeAtFront i x s) := by
  have hw : Standing.Without r.state (but c .resetting r.owner) _ := .of_resetting c (.inl ho)
  have ha : (seen s r.owner).attached = true := h.roles.attached hr (by rw [ho, but_self]; nofun)
  have hlaw := placeAtFront_law h hr hx hw ha
  have hroles := atFront_roleLaw h.roles hr hx hw ha
  rw [update_eq_self] at hlaw hroles
  have hfront : Steady c (s.setRecord i (some x)) (atFront i x s) := .of_pool c rfl
  have hqueued : ∀ y, some x = some y → y.state = .queued := fun y e => by
    cases e
    exact hx.now
  have hrest : Steady c (s.setRecord i (some x)) (placeAtFront i x s) := by
    by_cases hm : x.mode = .each
    · cases e : sameKeyRecord (atFront i x s) x.owner x.key (some i) with
      | none =>
        rw [placeAtFront_of_alone (.inr e)]
        exact hfront
      | some p =>
        obtain ⟨-, hne, hp, hq, -, -⟩ := sameKeyRecord_some e
        rw [placeAtFront_of_merge hm e, mergeFront_eq]
        have hmerged : StoreLaw False (but c .resetting) (merged i x p.2 s) := ⟨merged_roleLaw p.2 hroles, False.elim⟩
        have hp' : (merged i x p.2 s).record p.1 = some p.2 := (merged_record fun e : p.1 = i => hne (e ▸ rfl)).trans hp
        refine .trans (hfront.trans (.setRecord (fun y ey => ?_) c _)) (freeRecord_resetting hmerged hp' (.inr hq) .other).2.1
        cases ey
        exact hx.now
    · rw [placeAtFront_of_alone (.inl hm)]
      exact hfront
  exact ⟨hlaw, .trans (.setRecord hqueued c s) hrest, (Gone.setRecord hqueued c s).steady hrest⟩

/-- The client's record in this state is returned, unless it is a signal record, which step 6 clears (R70, R156). -/
theorem returnHeld_resetting (h : StoreLaw full (but c .resetting) s) {st : RecState} (hst : st ≠ .queued) :
    StoreLaw full (but c .resetting) (returnHeld c st s) ∧ Steady c s (returnHeld c st s) ∧
    OnlySignals (returnHeld c st s) c st := by
  unfold returnHeld
  split
  · rename_i i r e
    obtain ⟨-, hr, ho, hs⟩ := heldIn_some e
    have only : ∀ j x, s.record j = some x → x.owner = c → x.state = st → j = i := fun j x hx hxo hxs =>
      h.roles.single j i c st hst (roleAt_eq_some.2 ⟨x, hx, hxo, hxs⟩) (roleAt_eq_some.2 ⟨r, hr, ho, hs⟩)
    unfold returnRecord
    split
    · refine ⟨h, .refl c s, fun j x hx hxo hxs => ?_⟩
      rw [only j x hx hxo hxs, hr] at hx
      cases hx
      assumption
    · have hpool : (reportPresented r (s.handleAt i) s).pool = s.pool := by simp
      have hr' : (reportPresented r (s.handleAt i) s).record i = some r := (record_of_pool hpool i).trans hr
      obtain ⟨hlaw, hsteady, hgone⟩ := placeAtFront_resetting (x := { r with state := .queued, interrupted := true, esc := none })
        (h.framed (t := reportPresented r (s.handleAt i) s) (by simp)) hr' ⟨hs ▸ hst, rfl, rfl, rfl⟩ ho
      have hall := Steady.trans (.of_pool c hpool) hsteady
      refine ⟨hlaw, hall, fun j x hx hxo hxs => ?_⟩
      have hji := only j x (hall j x hx hxo (hxs ▸ hst)) hxo hxs
      subst hji
      exact absurd (hgone x hx hxo) (hxs ▸ hst)
  · rename_i e
    exact ⟨h, .refl c s, fun i r hr ho hs => absurd (roleAt_eq_some.2 ⟨r, hr, ho, hs⟩) (heldIn_none_iff.1 e i)⟩

/-! ## Step 6: the signal records and the posts -/

theorem freeSignal_resetting (h : StoreLaw full (but c .resetting) s) (hsig : ∀ st, st ≠ .queued → OnlySignals s c st)
    (i : RecIndex) : StoreLaw full (but c .resetting) (freeSignal c s i) ∧ Steady c s (freeSignal c s i) ∧
    Gone c i (freeSignal c s i) := by
  unfold freeSignal
  split
  · rename_i r e
    obtain ⟨hr, hp⟩ := Option.filter_eq_some_iff.1 e
    simp only [Bool.and_eq_true, decide_eq_true_iff] at hp
    exact freeRecord_resetting h hr (.inl hp.1) .other
  · rename_i e
    refine ⟨h, .refl c s, fun r hr ho => ?_⟩
    by_contra hq
    have := hsig _ hq i r hr ho rfl
    rw [hr, Option.filter_some, if_pos (by simp [ho, this])] at e
    cases e

theorem freeSignals_resetting (q : List RecIndex) : ∀ s : State, StoreLaw full (but c .resetting) s →
    (∀ st, st ≠ .queued → OnlySignals s c st) → StoreLaw full (but c .resetting) (q.foldl (freeSignal c) s) ∧
    Steady c s (q.foldl (freeSignal c) s) ∧ ∀ i ∈ q, Gone c i (q.foldl (freeSignal c) s) := by
  induction q with
  | nil => exact fun s h _ => ⟨h, .refl c s, nofun⟩
  | cons i q ih =>
    intro s h hsig
    obtain ⟨hlaw, hsteady, hgone⟩ := freeSignal_resetting h hsig i
    obtain ⟨hlaw', hsteady', hgone'⟩ := ih _ hlaw fun st hst => (hsig st hst).steady hst hsteady
    exact ⟨hlaw', hsteady.trans hsteady', List.forall_mem_cons.2 ⟨hgone.steady hsteady', hgone'⟩⟩

/-- Once its signal records are freed, the client stands as between two steps. -/
theorem clearSignals_law (h : StoreLaw full (but c .resetting) s) (hsig : ∀ st, st ≠ .queued → OnlySignals s c st) :
    StoreLaw full calm (clearSignals c s) := by
  obtain ⟨hlaw, -, hgone⟩ := freeSignals_resetting recIndexes (setPendingFlags c 0 s) (h.same (.setPendingFlags c 0 s))
    fun st hst => (hsig st hst).steady hst (.of_pool c (by simp))
  have hl : ∀ st, st ≠ .queued → Lacks (clearSignals c s) c st := fun st hst i e => by
    obtain ⟨r, hr, ho, hs⟩ := roleAt_eq_some.1 e
    exact hst (hs ▸ hgone i (List.mem_finRange i) r hr ho)
  have hs := hlaw.roles.stands c
  rw [but_self] at hs
  obtain ⟨⟨-, hopen⟩, hnone⟩ := hs
  exact (hlaw.reseat (t := clearSignals c s) (y := .settled) (.of_fields ⟨rfl, rfl, rfl, rfl, rfl, rfl⟩)
    ⟨.of_open hopen (hl _ nofun), .of_none hnone (hl _ nofun), fun _ => hnone⟩ nofun rfl).to_calm

theorem setPostSlot_orphaned_law (h : StoreLaw full k s) {p : Client} {n : SlotNo} {q : Client} {x : Handle}
    (e : (s.postsOf p).slots.get n = .waiting q x) : StoreLaw full k (setPostSlot p n (.orphaned q x) s) := by
  refine h.same (.of_store rfl rfl (fun p' n' => ?_) fun d _ => seen_of_fields rfl rfl rfl d)
  rw [takenBy_setPostSlot]
  split
  · rename_i hp
    rw [hp.1, hp.2, takenBy, e]
    rfl
  · rfl

theorem settleOwnSlots_law (h : StoreLaw full k s) (c : Client) : StoreLaw full k (settleOwnSlots c s) := by
  refine List.foldlRecOn _ _ h fun u hu n _ => ?_
  unfold settleOwnSlot
  split
  · exact hu
  · exact hu
  · split
    · rename_i e
      obtain ⟨-, hr, -, hs⟩ := namedRecord_some e
      exact freeRecord_queued_law hu hr hs .other
    · exact setPostSlot_orphaned_law hu (by assumption)

/-! ## The whole reset -/

theorem clientResetSteps_law (h : StoreLaw full calm s) (c : Client) (cause : ResetCause) :
    StoreLaw full calm (clientResetSteps c cause s) := by
  obtain ⟨hpres, -, honlyPres⟩ := returnHeld_resetting (withDefaults_law h c) (st := .presented) nofun
  obtain ⟨hsusp, hsteady, honlySusp⟩ := returnHeld_resetting hpres (st := .suspended) nofun
  have hsig := clearSignals_law hsusp fun st hst => by
    cases st with
    | queued => exact absurd rfl hst
    | presented => exact honlyPres.steady nofun hsteady
    | suspended => exact honlySusp
  have hlines : StoreLaw full calm (settleLines c cause (settleOwnSlots c (clearSignals c
      (returnHeld c .suspended (returnHeld c .presented (withDefaults c s)))))) :=
    (settleOwnSlots_law hsig c).framed (by simp)
  exact hlines.framed (by simp [clientResetSteps, withDefaults])

theorem hubReset_law (full : Prop) (pins : PinLevels) (raw : LineNo → Bool) (board : BoardLines) (cause : CauseRecord)
    (note : BitVec 32) (resetInput : Bool) (pending : List Instr) :
    StoreLaw full calm (hubReset pins raw board cause note resetInput pending) := by
  obtain ⟨-, -, -, hqueue, hpost, -, -⟩ := laws_hubReset pins raw board cause note resetInput pending
  obtain ⟨hroles, hkeys⟩ := (queueLaw_postLaw_iff _).2 ⟨hqueue, hpost⟩
  exact ⟨hroles, fun _ => hkeys trivial⟩

theorem clientReset_law (h : StoreLaw full calm s) (c : Client) (cause : ResetCause) :
    StoreLaw full calm (clientReset c cause s) := by
  unfold clientReset
  dsimp only
  split
  · exact hubReset_law ..
  · exact clientResetSteps_law h c cause

end Sys2Proof.Laws
end

section
/-! PROOF. Lines, timers and links, and the laws of queues and posts: what raises an event, what the timers do when they run out
(R122, R123), and what the receiver and the transmitter lead to (R160 to R165). -/

namespace Sys2Proof.Laws

open Sys2Proof.Machine Sys2Proof.Safety Function

variable {full : Prop} {k : Client → Standing} {s t : State} {c : Client}

/-! ## Writes that the laws do not read -/

/-- A client's contexts are written, but for the active one and OPERATE's suspended handle. -/
theorem setContexts_law (h : StoreLaw full k s) {v : ClientContexts} (hs : v.suspended = (s.contextsOf c).suspended)
    (ha : v.active = (s.contextsOf c).active) : StoreLaw full k (s.setContexts c v) := by
  refine h.same ((Unmoved.setContexts s c v).same_client ?_)
  rw [seen_setContexts, if_pos rfl, hs, ha]
  rfl

theorem suspended_set (x : ClientContexts) (n : ContextName) (v : ContextState) : (x.set n v).suspended = x.suspended := by
  cases n <;> rfl

theorem active_set (x : ClientContexts) (n : ContextName) (v : ContextState) : (x.set n v).active = x.active := by
  cases n <;> rfl

/-- One context of a client is written. -/
theorem setContext_law (h : StoreLaw full k s) (n : ContextName) (v : ContextState) :
    StoreLaw full k (s.setContexts c ((s.contextsOf c).set n v)) :=
  setContexts_law h (suspended_set ..) (active_set ..)

/-- A record's escalation state is written. -/
theorem setRecord_esc_law (h : StoreLaw full k s) {i : RecIndex} {r : Record} (hr : s.record i = some r) (e : Option Escalation) :
    StoreLaw full k (s.setRecord i (some { r with esc := e })) :=
  h.same (.setRecord_same (r := { r with esc := e }) (show faceAt s i = some (faceOf r) from faceAt_of_record hr))

/-! ## Lines -/

theorem raiseLine_law (h : StoreLaw full k s) (l : LineNo) : StoreLaw full k (raiseLine l s) :=
  wakeHub_law (h.framed (by simp))

theorem raiseIfArmed_law (h : StoreLaw full k s) (l : LineNo) : StoreLaw full k (raiseIfArmed l s) := by
  unfold raiseIfArmed
  split
  · exact raiseLine_law h l
  · exact h
  · exact h

theorem activation_law (h : StoreLaw full k s) (l : LineNo) : StoreLaw full k (activation l s) := by
  unfold activation
  split
  · exact h
  · exact raiseIfArmed_law h l
  · exact raiseIfArmed_law h l
  · split
    · exact h.framed (by simp)
    · exact raiseIfArmed_law h l

theorem activityChange_law (h : StoreLaw full k s) (l : LineNo) (before : Bool) :
    StoreLaw full k (activityChange l before s) := by
  unfold activityChange
  split
  · exact h
  · split
    · exact h.framed (by simp)
    · exact activation_law h l

theorem acceptLevel_law (h : StoreLaw full k s) (l : LineNo) : StoreLaw full k (acceptLevel l s) :=
  activityChange_law (h.framed (by simp)) l _

theorem changeRawLevel_law (h : StoreLaw full k s) (l : LineNo) (v : Bool) : StoreLaw full k (changeRawLevel l v s) := by
  unfold changeRawLevel
  dsimp only
  split
  · exact h
  · split
    · exact h.framed (by simp)
    · split
      · exact h.framed (by simp)
      · split
        · exact acceptLevel_law (h.framed (by simp)) l
        · exact h.framed (by simp)

theorem repeatRunsOut_law (h : StoreLaw full k s) (l : LineNo) : StoreLaw full k (repeatRunsOut l s) := by
  unfold repeatRunsOut reRaise
  dsimp only
  split
  · exact raiseLine_law (h.framed (by simp)) l
  · exact h.framed (by simp)

theorem retimeLine_law (h : StoreLaw full k s) (l : LineNo) (old : LineConfig) : StoreLaw full k (retimeLine l old s) := by
  have hd : StoreLaw full k (lineRetimeDebounce l old s) := h.framed (by simp)
  unfold retimeLine lineRetimeRepeat
  dsimp only
  split
  · exact hd
  · split
    · exact repeatRunsOut_law hd l
    · exact hd.framed (by simp)

theorem newlyConfigured_law (h : StoreLaw full k s) (l : LineNo) (cfg : LineConfig) (clear : Bool) :
    StoreLaw full k (newlyConfigured l cfg clear s) := by
  unfold newlyConfigured
  split <;> exact h.framed (by simp)

theorem configureLine_law (h : StoreLaw full k s) (l : LineNo) (cfg : LineConfig) (clear : Bool) :
    StoreLaw full k (configureLine l cfg clear s) := by
  have hn := newlyConfigured_law h l cfg clear
  by_cases hm : cfg.mode = (s.line l).config.mode
  · rw [configureLine_of_same_mode clear hm]
    exact activityChange_law (retimeLine_law hn l _) l _
  · have hv : StoreLaw full k (retimeLine l (s.line l).config (lineModeChange l (newlyConfigured l cfg clear s))) :=
      retimeLine_law (hn.framed (by simp)) l _
    rw [configureLine_of_new_mode clear hm rfl]
    split
    · exact raiseLine_law hv l
    · exact hv

/-! ## Deadlines -/

theorem setEsc_attention_law (h : StoreLaw full k s) {i : RecIndex} {r : Record} (hr : s.record i = some r) (e : Escalation) :
    StoreLaw full k (setAttention c true (setEsc i r e s)) :=
  (setRecord_esc_law (e := some e) h hr).framed (t := setAttention c true (s.setRecord i _)) (by simp)

theorem takeAction_law (h : StoreLaw full calm s) (c : Client) {i : RecIndex} {r : Record} (hr : s.record i = some r)
    (a : Action) : StoreLaw full calm (takeAction c i r a s) := by
  unfold takeAction
  split
  · exact setRecord_esc_law h hr _
  · exact setEsc_attention_law h hr _
  · exact clientReset_law h _ _
  · exact setEsc_attention_law h hr _
  · exact hubReset_law ..

theorem setRecord_expired_law (h : StoreLaw full k s) {i : RecIndex} {r : Record} (hr : s.record i = some r) :
    StoreLaw full k (s.setRecord i (some (expiredRecord r))) := setRecord_esc_law h hr _

/-- What stands before the expired deadline's action: the record is written, and client c is as after the raised score. -/
theorem chargedDeadline_law (h : StoreLaw full calm s) (c : Client) {i : RecIndex} {r : Record} (hr : s.record i = some r) :
    StoreLaw full (afterRaise c (chargedDeadline c i r s).2) (chargedDeadline c i r s).1 :=
  (raiseScore_law (setRecord_expired_law h hr) c 8).framed (by simp [chargedDeadline])

theorem chargedDeadline_record (h : StoreLaw full calm s) (c : Client) {i : RecIndex} {r : Record} (hr : s.record i = some r)
    (hq : r.state ≠ .queued) : (chargedDeadline c i r s).1.record i = some (expiredRecord r) := by
  have hw : (s.setRecord i (some (expiredRecord r))).record i = some (expiredRecord r) := by
    rw [record_setRecord, if_pos rfl]
  have hs := raiseScore_record (setRecord_expired_law h hr) c 8 hw hq
  exact (record_of_pool (by simp [chargedDeadline]) i).trans hs

theorem deadlineExpires_law (h : StoreLaw full calm s) (c : Client) {i : RecIndex} {r : Record} (hr : s.record i = some r)
    (hq : r.state ≠ .queued) : StoreLaw full calm (deadlineExpires c i r s) := by
  have hs := chargedDeadline_law h c hr
  rw [deadlineExpires_eq]
  split
  · rename_i hd
    rw [afterRaise, if_pos hd] at hs
    split
    · exact hubReset_law ..
    · exact finishDetach_law hs
  · rename_i hd
    rw [afterRaise, if_neg hd] at hs
    exact takeAction_law hs c (chargedDeadline_record h c hr hq) _

theorem stageExpires_law (h : StoreLaw full calm s) (c : Client) : StoreLaw full calm (stageExpires c s) := by
  unfold stageExpires
  split
  · rename_i i r e
    obtain ⟨-, hr, -, hp⟩ := heldIn_some e
    split
    · exact deadlineExpires_law h c hr (by rw [hp]; nofun)
    · exact clientReset_law h _ _
    all_goals exact h
  · exact h

/-! ## Timers -/

theorem contextTimerExpires_law (h : StoreLaw full k s) (c : Client) (n : ContextName) :
    StoreLaw full k (contextTimerExpires c n s) :=
  setContext_law (h.framed (t := offerTimerEvent c n s) (by simp)) n _

theorem endHoldOff_law (h : StoreLaw full calm s) (c : Client) : StoreLaw full calm (endHoldOff c s) := by
  have hx : StoreLaw full calm (s.setContexts c { s.contextsOf c with holdOff := false, holdOffLeft := 0 }) :=
    setContexts_law h rfl rfl
  exact ctxExamine_law hx c

theorem expire_law (h : StoreLaw full calm s) (t : Timer) : StoreLaw full calm (expire t s) := by
  cases t with
  | debounce l => exact acceptLevel_law h l
  | repeatInterval l => exact repeatRunsOut_law h l
  | holdOff c => exact endHoldOff_law h c
  | stage c => exact stageExpires_law h c
  | context c n => exact contextTimerExpires_law h c n
  | pulse c => exact h.framed (by simp [expire])
  | boardPulse => exact h.framed (by simp [expire])
  | boardOutput => exact h.framed (by simp [expire])
  | spacing c => exact setHealth_law h rfl

theorem lowerStage_law (h : StoreLaw full k s) (c : Client) : StoreLaw full k (lowerStage c s) := by
  unfold lowerStage
  split
  · rename_i i r e
    obtain ⟨-, hr, -, -⟩ := heldIn_some e
    exact setRecord_esc_law h hr _
  · exact h

theorem lower_law (h : StoreLaw full k s) (t : Timer) : StoreLaw full k (lower t s) := by
  cases t with
  | stage c => exact lowerStage_law h c
  | context c n => exact setContext_law h n _
  | holdOff c => exact setContexts_law h rfl rfl
  | spacing c => exact setHealth_law h rfl
  | debounce l => exact h.framed (by simp [lower])
  | repeatInterval l => exact h.framed (by simp [lower])
  | pulse c => exact h.framed (by simp [lower])
  | boardPulse => exact h.framed (by simp [lower])
  | boardOutput => exact h.framed (by simp [lower])

/-! ## Links -/

theorem frameError_law (h : StoreLaw full calm s) (c : Client) : StoreLaw full calm (frameError c s) := by
  have hl : StoreLaw full calm (s.setLink c { s.link c with frameErrors := up16 (s.link c).frameErrors }) := h.framed (by simp)
  unfold frameError
  dsimp only
  split
  · exact setHealth_law hl rfl
  · exact chargeScore_law hl c 2

theorem frameFails_law (h : StoreLaw full calm s) (c : Client) : StoreLaw full calm (frameFails c s) :=
  frameError_law (h.framed (by simp)) c

theorem gapFails_law (h : StoreLaw full calm s) (c : Client) : StoreLaw full calm (gapFails c s) :=
  frameFails_law (h.framed (by simp)) c

theorem frameComplete_law (h : StoreLaw full calm s) (c : Client) (kind tag : Byte) (payload : List Byte) :
    StoreLaw full calm (frameComplete c kind tag payload s) := by
  unfold frameComplete
  split
  · exact h
  · split
    · have hc : StoreLaw full calm (chargeScore c 2 (s.setLink c { s.link c with overruns := up16 (s.link c).overruns })) :=
        chargeScore_law (h.framed (by simp)) c 2
      exact hc.framed (by simp [overrun])
    · split
      · exact h.framed (by simp)
      · exact frameError_law (h.framed (by simp)) c

theorem checkFrame_law (h : StoreLaw full calm s) (c : Client) (len : Byte) (got : List Byte) (hi lo : Byte) :
    StoreLaw full calm (checkFrame c len got hi lo s) := by
  unfold checkFrame
  split
  · split
    · exact frameComplete_law (h.framed (by simp)) _ _ _ _
    · exact frameFails_law h c
  · exact frameFails_law h c

theorem advance_law (h : StoreLaw full calm s) (c : Client) (b : Byte) : StoreLaw full calm (advance c b s) := by
  unfold advance
  split
  · split
    · exact h.framed (by simp)
    · exact h
  · split
    · exact h.framed (by simp)
    · exact frameFails_law h c
  · split <;> exact h.framed (by simp)
  · exact h.framed (by simp)
  · exact checkFrame_law h _ _ _ _ _

theorem receiveByte_law (h : StoreLaw full calm s) (c : Client) (b : Byte) : StoreLaw full calm (receiveByte c b s) := by
  have hw := wakeHub_law h
  have hg : StoreLaw full calm (if gapPassed (wakeHub s) c then gapFails c (wakeHub s) else wakeHub s) := by
    split
    · exact gapFails_law hw c
    · exact hw
  unfold receiveByte
  split
  · exact h
  · exact advance_law (hg.framed (by simp)) c b

theorem beginStage_law (h : StoreLaw full k s) (c : Client) {i : RecIndex} {r : Record} (hr : s.record i = some r) :
    StoreLaw full k (beginStage c i r s) := by
  have hb : StoreLaw full k (beginDeadline i r s) := setRecord_esc_law h hr _
  unfold beginStage
  split
  · exact hb
  · split
    · exact hb
    · split
      · exact h.framed (by simp)
      · exact h

theorem deliverSent_law (h : StoreLaw full k s) (c : Client) (x : Handle) : StoreLaw full k (deliverSent c x s) := by
  unfold deliverSent
  split
  · rename_i i r e
    obtain ⟨-, hr, -, -⟩ := heldIn_some e
    refine examine_law ?_ c
    split
    · exact beginStage_law h c hr
    · exact h
  · exact examine_law h c

theorem frameSent_law (h : StoreLaw full calm s) (c : Client) : StoreLaw full calm (frameSent c s) := by
  unfold frameSent
  split
  · exact h
  · dsimp only
    split
    · split
      · exact hubReset_law ..
      · exact h.framed (by simp)
    · exact deliverSent_law (h.framed (by simp)) c _
    all_goals exact h.framed (by simp)

end Sys2Proof.Laws
end

section
/-! PROOF. Routing, and the laws of queues and posts: a request of a routing for an attached client coalesces, makes, displaces or drops
(R60 to R65), and the events of the intake queue are no posts, so that none of its records takes a key that a post slot names. -/

namespace Sys2Proof.Laws

open Sys2Proof.Machine Sys2Proof.Safety Function

variable {full : Prop} {k : Client → Standing} {s t : State}

/-! ## Who is attached -/

theorem attached_of_health (h : t.health = s.health) (c : Client) : t.attached c = s.attached c := by
  simp only [State.attached, State.healthOf, h]

theorem attached_of_sound {c : Client} (h : (s.healthOf c).health.sound = true) : s.attached c = true := by
  unfold State.attached
  rcases (sound_iff _).1 h with e | e <;> rw [e] <;> rfl

theorem attached_of_resolveTarget {fb : Option Client} {d c : Client} (h : resolveTarget s fb d = some c) :
    s.attached c = true := by
  unfold resolveTarget at h
  split at h
  · cases h
    exact attached_of_sound (by assumption)
  · split at h
    · rename_i hr
      have hd : s.attached d = true := by
        unfold State.attached
        rw [hr]
        rfl
      cases e : fb.filter fun f => (s.healthOf f).health.sound && f ≠ d with
      | none =>
        rw [e] at h
        cases h
        exact hd
      | some f =>
        rw [e] at h
        cases h
        have hf := (Option.filter_eq_some_iff.1 e).2
        exact attached_of_sound (Bool.and_eq_true _ _ ▸ hf).1
    · have hf := (Option.filter_eq_some_iff.1 h).2
      exact (Bool.and_eq_true _ _ ▸ hf).1

theorem attached_of_mem_decideTargets {x : RouteEntry} {key : Key} {c : Client} (h : c ∈ (decideTargets x key s).2) :
    s.attached c = true := by
  obtain ⟨d, hd⟩ := (mem_decideTargets x key s c).1 h
  exact attached_of_resolveTarget (outcomeFor_eq_some.1 hd).2

/-! ## A request -/

theorem fresh_of_alone (h : RoleLaw k s) {q : StoreRequest} (hn : sameKeyRecord s q.owner q.key none = none) : Fresh q s :=
  fun _ _ => eachAt_of_alone h hn nofun

/-- A displaced record is QUEUED; its index is FREE when the new record is made at it (R65). -/
theorem displace_law (h : StoreLaw full calm s) {i : RecIndex} {r : Record} {q : StoreRequest} (hr : s.record i = some r)
    (hq : r.state = .queued) (ha : s.attached q.owner = true) (hk : full → Fresh q s ∧ ¬ isKeyOfPost q.key) :
    StoreLaw full calm (displace i r q s) := by
  have hd : StoreLaw full calm (dropFor q.owner r.key s) := h.framed (by simp)
  have hpool : (dropFor q.owner r.key s).pool = s.pool := by simp
  have hf := freeUntested_law hd (y := .settled) ((record_of_pool hpool i).trans hr) (hq ▸ .queued _) .drop
  rw [← calm_apply r.owner, update_eq_self] at hf
  have hface := freeUntested_faceAt i r .drop (dropFor q.owner r.key s)
  refine makeAt_law hf ?_ ?_ fun hfull => ⟨fun hm j e => ?_, (hk hfull).2⟩
  · rw [State.record, State.slot, (freeUntested_moves i r .drop _).1, Table.get_set, if_pos rfl]
  · exact (attached_of_health (by simp) _).trans ha
  · rw [eachAt_update hface, eachAt_of_faceAt (faceAt_of_pool hpool)] at e
    by_cases hji : j = i
    · rw [hji, update_self] at e
      cases e
    · rw [update_of_ne hji] at e
      exact (hk hfull).1 hm j e

theorem makeOrDrop_law (h : StoreLaw full calm s) {q : StoreRequest} (ha : s.attached q.owner = true)
    (hk : full → Fresh q s ∧ ¬ isKeyOfPost q.key) : StoreLaw full calm (makeOrDrop q s) := by
  unfold makeOrDrop
  split
  · rename_i i e
    exact entered_law (makeAt_law h (grantedIndex_free e) ha hk) _
  · split
    · rename_i i r e
      split at e
      · obtain ⟨hr, ⟨hq, -⟩, -⟩ := displacementCandidate_last e
        exact entered_law (displace_law h hr hq ha hk) _
      · cases e
    · exact h.framed (by simp)

theorem routingRequest_law (h : StoreLaw full calm s) {q : StoreRequest} (ha : s.attached q.owner = true)
    (hk : full → ¬ isKeyOfPost q.key) : StoreLaw full calm (routingRequest q s) := by
  unfold routingRequest
  split
  · rename_i i r e
    split at e
    · obtain ⟨-, -, hr, hq, -, -⟩ := sameKeyRecord_some e
      exact coalesce_law h hr hq _ _
    · cases e
  · rename_i e
    refine makeOrDrop_law h ha fun hfull => ⟨fun hm => ?_, hk hfull⟩
    rw [if_pos hm] at e
    exact fresh_of_alone h.roles e hm

theorem sendRequests_law (h : StoreLaw full calm s) {d : Descriptor} (x : RouteEntry) (hit : Hit) (m : RecMode)
    {rs : List Client} (ha : ∀ c ∈ rs, s.attached c = true) (hk : full → ¬ isKeyOfPost d.key) :
    StoreLaw full calm (sendRequests d x hit m rs s) :=
  (List.foldlRecOn (motive := fun u : State => StoreLaw full calm u ∧ u.health = s.health) rs _ ⟨h, rfl⟩ fun _ hu c hc =>
    ⟨routingRequest_law hu.1 ((attached_of_health hu.2 c).trans (ha c hc)) hk, Eq.trans (by simp) hu.2⟩).1

/-! ## The routing of an event -/

theorem closeGroup_law (h : StoreLaw full k s) (g : GroupNo) (key : Key) : StoreLaw full k (closeGroup g key s) := by
  unfold closeGroup
  split
  · split
    · exact h.framed (by simp)
    · exact h
  · exact h

theorem routeFirst_law (h : StoreLaw full calm s) {d : Descriptor} (x : RouteEntry) (e : EntryNo) {rs : List Client}
    (ha : ∀ c ∈ rs, s.attached c = true) (hk : full → ¬ isKeyOfPost d.key) : StoreLaw full calm (routeFirst d x e rs s) := by
  unfold routeFirst
  split
  · split
    · rename_i g _
      have hg : StoreLaw full calm (s.setGroup g (some ⟨0, false, e⟩)) := h.framed (by simp)
      exact closeGroup_law (sendRequests_law hg x _ _ ha hk) g d.key
    · exact sendRequests_law h x _ _ (fun c hc => ha c (List.mem_of_mem_take hc)) hk
  · exact sendRequests_law h x _ _ ha hk

theorem decided_law (h : StoreLaw full k s) (x : RouteEntry) (key : Key) : StoreLaw full k (decideTargets x key s).1 :=
  h.framed (by simp)

/-- The clients that a decision leaves are attached after its drops. -/
theorem decided_attached (x : RouteEntry) (key : Key) (s : State) :
    ∀ c ∈ (decideTargets x key s).2, (decideTargets x key s).1.attached c = true := fun c hc =>
  (attached_of_health (by simp) c).trans (attached_of_mem_decideTargets hc)

theorem routeByEntry_law (h : StoreLaw full calm s) {d : Descriptor} (e : EntryNo) (hk : full → ¬ isKeyOfPost d.key) :
    StoreLaw full calm (routeByEntry d e s) := by
  unfold routeByEntry
  dsimp only
  split
  · exact sendRequests_law (decided_law h _ _) _ _ _ (decided_attached _ _ _) hk
  · exact routeFirst_law (decided_law h _ _) _ _ (decided_attached _ _ _) hk

theorem routeUnrouted_law (h : StoreLaw full calm s) {d : Descriptor} (hk : full → ¬ isKeyOfPost d.key) :
    StoreLaw full calm (routeUnrouted d s) := by
  unfold routeUnrouted
  split
  · split <;> exact h.framed (by simp)
  · exact sendRequests_law (decided_law h _ _) _ _ _ (decided_attached _ _ _) hk

theorem routeEvent_law (h : StoreLaw full calm s) {d : Descriptor} (hk : full → ¬ isKeyOfPost d.key) :
    StoreLaw full calm (routeEvent d s) := by
  cases e : lookup s d.key with
  | some n =>
    rw [routeEvent_hit e]
    exact (routeByEntry_law h n hk).framed (by simp)
  | none =>
    rw [routeEvent_unrouted e]
    exact (routeUnrouted_law h hk).framed (by simp)

/-- The head of the intake queue is no post, by the law of the intake queue. -/
theorem takeHead_law (h : StoreLaw full calm s) (hi : full → IntakeLaw s) : StoreLaw full calm (takeHead s) := by
  unfold takeHead
  split
  · rename_i d rest e
    have ht : StoreLaw full calm (reportTaken d.key.source (givePlace (s.setIntake rest))) := h.framed (by simp)
    refine completeWake_law (routeEvent_law ht fun hfull => not_isKeyOfPost_of_source ?_) _
    obtain ⟨-, -, hsource, -, -⟩ := hi hfull
    exact hsource d (e ▸ List.mem_cons_self ..)
  · exact h

end Sys2Proof.Laws
end

section
/-! PROOF. The win of a FIRST group (R90, R91) and ACK (R84 to R87), and the laws of queues and posts: a PRESENTED record that ends owes
its client the gate, and a SUSPENDED one the suspended handle. -/

namespace Sys2Proof.Laws

open Sys2Proof.Machine Sys2Proof.Safety Function

variable {full : Prop} {k : Client → Standing} {s t : State} {c d : Client}

/-! ## The end of a record that is not QUEUED -/

theorem freeRecord_presented_law (h : StoreLaw full calm s) {i : RecIndex} {r : Record} (hr : s.record i = some r)
    (ho : r.owner = c) (hp : r.state = .presented) (cause : FreeCause) :
    StoreLaw full (but c .gateOwed) (freeRecord i r cause s) := by
  have := freeRecord_law h (y := .gateOwed) hr (hp ▸ .presented) cause
  rwa [ho] at this

theorem freeRecord_suspended_law (h : StoreLaw full calm s) {i : RecIndex} {r : Record} (hr : s.record i = some r)
    (ho : r.owner = c) (hp : r.state = .suspended) (cause : FreeCause) :
    StoreLaw full (but c .handleOwed) (freeRecord i r cause s) := by
  have := freeRecord_law h (y := .handleOwed) hr (hp ▸ .suspended) cause
  rwa [ho] at this

/-- The end of a record that is not QUEUED, or is, leaves every other record that is not QUEUED. -/
theorem freeRecord_record_of_calm (h : StoreLaw full calm s) {i j : RecIndex} {r x : Record} (hr : s.record i = some r)
    (cause : FreeCause) (hj : j ≠ i) (hx : s.record j = some x) (hq : x.state ≠ .queued) :
    (freeRecord i r cause s).record j = some x := by
  cases e : r.state with
  | queued => exact freeRecord_record h hr (y := .settled) (e ▸ .queued _) cause hj hx hq
  | presented => exact freeRecord_record h hr (y := .gateOwed) (e ▸ .presented) cause hj hx hq
  | suspended => exact freeRecord_record h hr (y := .handleOwed) (e ▸ .suspended) cause hj hx hq

/-! ## The win of a group -/

theorem setLastRecalled_law (h : StoreLaw full k s) (d : Client) (x : Option Handle) :
    StoreLaw full k (setLastRecalled d x s) := by
  refine h.same ((Unmoved.setPresentation s d _).same_client ?_)
  rw [seen_setPresentation, if_pos rfl]
  rfl

theorem withdrawCopy_law (h : StoreLaw full calm s) {j : RecIndex} {r : Record} (hr : s.record j = some r) (ho : r.owner = d) :
    StoreLaw full calm (withdrawCopy d j r s) := by
  unfold withdrawCopy
  dsimp only
  split
  · rename_i hq
    exact freeRecord_queued_law h hr hq .other
  · rename_i hp
    have ha : StoreLaw full calm (setAttention d false s) := h.framed (by simp)
    have hr' : (setAttention d false s).record j = some r := (record_of_pool (by simp) j).trans hr
    have hopen := openGate_law (setLastRecalled_law (freeRecord_presented_law ha hr' ho hp .other) d (some (s.handleAt j)))
    split
    · exact hopen
    · exact hopen.framed (by simp)
  · rename_i hp
    have hf := setLastRecalled_law (freeRecord_suspended_law h hr ho hp .other) d (some (s.handleAt j))
    exact (clearSuspended_law hf).framed (by simp)

/-- A withdrawal leaves every other record that is not QUEUED. -/
theorem withdrawCopy_record (h : StoreLaw full calm s) {i j : RecIndex} {r x : Record} (hr : s.record j = some r)
    (ho : r.owner = d) (hi : i ≠ j) (hx : s.record i = some x) (hq : x.state ≠ .queued) :
    (withdrawCopy d j r s).record i = some x := by
  unfold withdrawCopy
  dsimp only
  split
  · exact freeRecord_record_of_calm h hr .other hi hx hq
  · rename_i hp
    have ha : StoreLaw full calm (setAttention d false s) := h.framed (by simp)
    have hsame := record_of_pool (s := s) (t := setAttention d false s) (by simp)
    have hf := setLastRecalled_law (freeRecord_presented_law ha ((hsame j).trans hr) ho hp .other) d (some (s.handleAt j))
    have hopen := openGate_record hf (freeRecord_record_of_calm ha ((hsame j).trans hr) .other hi ((hsame i).trans hx) hq) hq
    split
    · exact hopen
    · exact (record_of_pool (by simp) i).trans hopen
  · exact (record_of_pool (by simp [setLastRecalled]) i).trans (freeRecord_record_of_calm h hr .other hi hx hq)

theorem winGroup_law (h : StoreLaw full calm s) (g : GroupNo) (x : FirstGroup) {i : RecIndex} {r : Record}
    (hr : s.record i = some r) (hq : r.state ≠ .queued) :
    StoreLaw full calm (winGroup g x i s) ∧ (winGroup g x i s).record i = some r := by
  refine List.foldlRecOn (motive := fun u => StoreLaw full calm u ∧ u.record i = some r) clients (withdrawFrom g i)
    ⟨h.framed (by simp), hr⟩ fun u hu d _ => ?_
  obtain ⟨hlaw, hi⟩ := hu
  unfold withdrawFrom
  split
  · rename_i j o e
    obtain ⟨hne, ho, howner, -⟩ := otherCopy_some e
    exact ⟨withdrawCopy_law hlaw ho howner, withdrawCopy_record hlaw ho howner hne.symm hi hq⟩
  · exact ⟨hlaw, hi⟩

theorem decideGroup_law (h : StoreLaw full calm s) {i : RecIndex} {r : Record} (hr : s.record i = some r)
    (hq : r.state ≠ .queued) (d : Disposition) :
    StoreLaw full calm (decideGroup i r d s) ∧ (decideGroup i r d s).record i = some r := by
  unfold decideGroup
  split
  · split
    · split
      · exact ⟨h, hr⟩
      · exact winGroup_law h _ _ hr hq
    · exact ⟨h, hr⟩
  · exact ⟨h, hr⟩
  · exact ⟨h, hr⟩

/-! ## ACK -/

theorem ackEndsHoldOff_law (h : StoreLaw full calm s) (c : Client) : StoreLaw full calm (ackEndsHoldOff c s) := by
  unfold ackEndsHoldOff
  split
  · exact endHoldOff_law h c
  · exact h

theorem ackPresented_law (h : StoreLaw full calm s) {i : RecIndex} {r : Record} (hr : s.record i = some r)
    (ho : r.owner = c) (hp : r.state = .presented) (d : Disposition) : StoreLaw full calm (ackPresented c i r d s) := by
  have ha : StoreLaw full calm (setAttention c false s) := h.framed (by simp)
  have hr' : (setAttention c false s).record i = some r := (record_of_pool (by simp) i).trans hr
  obtain ⟨hd, hi⟩ := decideGroup_law ha hr' (by rw [hp]; nofun) d
  have hend := ackEndsHoldOff_law (openGate_law (freeRecord_presented_law hd hi ho hp d.cause)) c
  unfold ackPresented
  dsimp only
  split
  · exact hend
  · exact lowerScore_law hend c

theorem ackSuspended_law (h : StoreLaw full calm s) {i : RecIndex} {r : Record} (hr : s.record i = some r)
    (ho : r.owner = c) (hp : r.state = .suspended) (d : Disposition) : StoreLaw full calm (ackSuspended c i r d s) := by
  obtain ⟨hd, hi⟩ := decideGroup_law h hr (by rw [hp]; nofun) d
  exact clearSuspended_law (freeRecord_suspended_law hd hi ho hp d.cause)

theorem ackNamed_law (h : StoreLaw full calm s) (c : Client) (x : Handle) (d : Disposition) :
    StoreLaw full calm (ackNamed c x d s).1 := by
  unfold ackNamed
  split
  · rename_i e
    obtain ⟨-, hr, ho, hp⟩ := namedRecord_some e
    exact ackPresented_law h hr ho hp d
  · split
    · rename_i e
      obtain ⟨-, hr, ho, hp⟩ := namedRecord_some e
      exact ackSuspended_law h hr ho hp d
    · split
      · exact h
      · exact chargeScore_law h _ _

end Sys2Proof.Laws
end

section
/-! PROOF. The other requests, and every step: POST and SIGNAL (R147, R154), the requests that write a client's items, and the parts of
which a step is made. -/

namespace Sys2Proof.Laws

open Sys2Proof.Machine Sys2Proof.Safety Function

variable {full : Prop} {k : Client → Standing} {s t : State} {c d : Client}

/-! ## READY and the contexts -/

/-- A client's presentation is written, but for its gate. -/
theorem setPresentation_law (h : StoreLaw full calm s) {v : Presentation} (hv : v.gateOpen = (s.presentationOf c).gateOpen) :
    StoreLaw full calm (s.setPresentation c v) := by
  have hseen : seen (s.setPresentation c v) c = { seen s c with ready := v.ready } := by
    rw [seen_setPresentation, if_pos rfl, hv]
    rfl
  obtain ⟨hgate, hnames, hidle⟩ := h.roles.stands c
  have hset : Stands (s.setPresentation c v) c .settled := ⟨hgate.alike (by rw [hseen]) fun _ => .rfl,
    hnames.alike (by rw [hseen]) (fun _ => .rfl) fun _ _ => rfl, hidle.alike (by rw [hseen]) (by rw [hseen])⟩
  exact ((h.of_calm c).reseat (.setPresentation s c v) hset nofun (by rw [hseen])).to_calm

theorem declareReady_law (h : StoreLaw full calm s) (c : Client) : StoreLaw full calm (declareReady c s) := by
  have hp : StoreLaw full calm (s.setPresentation c { s.presentationOf c with ready := true }) := setPresentation_law h rfl
  exact entered_law (hp.framed (by simp)) c

theorem exchange_law (h : StoreLaw full calm s) (c : Client) (n : ContextName) : StoreLaw full calm (exchange c n s).1 := by
  unfold exchange
  split
  · exact h
  · rename_i hne
    split
    · refine exchangeToService_law h ?_ .request
      show (s.contextsOf c).active = .operate
      cases e : (s.contextsOf c).active with
      | operate => rfl
      | service => exact absurd e hne
    · split
      · exact h
      · exact exchangeToOperate_law h c

theorem setFilter_law (h : StoreLaw full calm s) (c : Client) (n : ContextName) (classes : FlagSet) (threshold : Priority) :
    StoreLaw full calm (setFilter c n classes threshold s) := by
  have hx : StoreLaw full calm (s.setContexts c ((s.contextsOf c).set n
      { (s.contextsOf c).get n with classes := classes, threshold := threshold })) := setContext_law h n _
  unfold setFilter
  refine ctxExamine_law ?_ c
  split
  · exact examine_law hx c
  · exact hx

/-! ## Posts and signals -/

/-- The post slot is EMPTY, so no record has its key. -/
theorem SlotsName.unnamed (h : SlotsName s) {n : SlotNo} (he : takenBy s c n = none) (q : Client) (j : RecIndex) :
    nameAt s j ≠ some (q, postKey c n) := fun e => by
  have := (h c n q ⟨j, (s.slot j).gen⟩).2 ⟨rfl, e⟩
  rw [he] at this
  cases this

/-- The post of client c in slot n, made at i. -/
def posted (c : Client) (n : SlotNo) (f : PostFields) (created : Micros) (i : RecIndex) (s : State) : State :=
  setPostSlot c n (.waiting f.target ((makeAt i (postRequest c n f created s) s).handleAt i))
    (makeAt i (postRequest c n f created s) s)

section Posted

variable {n : SlotNo} {f : PostFields} {created : Micros} {i : RecIndex}

theorem posted_roleLaw (h : RoleLaw k s) (hi : s.record i = none) (ha : s.attached f.target = true) :
    RoleLaw k (posted c n f created i s) :=
  (makeAt_roleLaw h (q := postRequest c n f created s) hi ha).same
    { faces := faceAt_of_pool rfl
      gens := fun _ => rfl
      queues := fun _ => .rfl
      clients := fun _ _ => rfl }

theorem posted_slotsName (h : SlotsName s) (hi : s.record i = none) (he : takenBy s c n = none) :
    SlotsName (posted c n f created i s) := by
  generalize ht : posted c n f created i s = t
  have hname : nameAt t = update (nameAt s) i (some (f.target, postKey c n)) := by
    rw [← ht]
    exact nameAt_update (makeAt_faceAt i (postRequest c n f created s) s)
  have hgen : ∀ j, j ≠ i → (t.slot j).gen = (s.slot j).gen := fun j hj => by
    rw [← ht]
    exact makeAt_gen_of_ne _ s hj
  have hslots : ∀ p m, takenBy t p m = if p = c ∧ m = n then some (f.target, ⟨i, (t.slot i).gen⟩) else takenBy s p m := by
    intro p m
    have hposts : (makeAt i (postRequest c n f created s) s).posts = s.posts := by simp
    rw [← ht, posted, takenBy_setPostSlot, takenBy_of_posts hposts]
    rfl
  intro p m q x
  rw [hslots, hname]
  by_cases hx : x.index = i
  · subst hx
    rw [update_self]
    split
    · rename_i hpm
      obtain ⟨rfl, rfl⟩ := hpm
      constructor
      · intro e
        obtain ⟨hq, hxe⟩ := Prod.mk.inj (Option.some.inj e)
        exact ⟨(congrArg Handle.gen hxe).symm, by rw [hq]⟩
      · rintro ⟨hg, e⟩
        cases e
        exact congrArg (fun y => some (f.target, y)) (congrArg (Handle.mk x.index) hg.symm)
    · rename_i hpm
      rw [h p m q x, nameAt_of_free hi]
      refine iff_of_false (fun e => nomatch e.2) fun e => hpm ?_
      obtain ⟨hp, hm⟩ := postKey_inj (Prod.mk.inj (Option.some.inj e.2)).2
      exact ⟨hp.symm, hm.symm⟩
  · rw [update_of_ne hx, hgen _ hx]
    split
    · rename_i hpm
      obtain ⟨rfl, rfl⟩ := hpm
      refine iff_of_false (fun e => hx ?_) fun e => h.unnamed he q _ e.2
      cases e
      rfl
    · exact h p m q x

theorem posted_law (h : StoreLaw full k s) (hi : s.record i = none) (ha : s.attached f.target = true)
    (he : takenBy s c n = none) : StoreLaw full k (posted c n f created i s) := by
  refine ⟨posted_roleLaw h.roles hi ha, fun hf => ⟨?_, posted_slotsName (h.keys hf).slots hi he⟩⟩
  have hfresh : Fresh (postRequest c n f created s) s := fun _ j e => by
    obtain ⟨r, hr, -, ho, hk⟩ := eachAt_eq_some.1 e
    exact (h.keys hf).slots.unnamed he _ j (nameAt_eq_some.2 ⟨r, hr, ho, hk⟩)
  exact makeAt_once (h.keys hf).once hfresh

end Posted

theorem post_law (h : StoreLaw full calm s) (c : Client) (f : PostFields) (created : Micros) :
    StoreLaw full calm (post c f created s).1 := by
  unfold post
  split
  · exact h
  · rename_i ha
    split
    · exact h
    · rename_i n hn
      split
      · exact h
      · rename_i i hi
        have he : takenBy s c n = none := by
          have := List.find?_some hn
          rw [decide_eq_true_iff] at this
          rw [takenBy, this]
          rfl
        exact entered_law (posted_law h (grantedIndex_free hi) (Bool.eq_true_of_not_eq_false ha) he) _

theorem withdraw_law (h : StoreLaw full k s) (c : Client) (n : SlotNo) : StoreLaw full k (withdraw c n s).1 := by
  unfold withdraw
  split
  · exact h
  · exact h
  · split
    · rename_i e
      obtain ⟨-, hr, -, hq⟩ := namedRecord_some e
      exact freeRecord_queued_law h hr hq _
    · exact h

theorem not_isKeyOfPost_signalKey : ¬ isKeyOfPost signalKey := fun e => by
  have := isPost_of_isKeyOfPost e
  revert this
  decide

theorem signal_law (h : StoreLaw full calm s) (f : SignalFields) (created : Micros) :
    StoreLaw full calm (signal f created s).1 := by
  unfold signal
  split
  · exact h
  · rename_i ha
    split
    · rename_i i r e
      obtain ⟨-, -, hr, hq, -, -⟩ := sameKeyRecord_some e
      have hr' : (joinFlags f.target f.flags s).record i = some r := (record_of_pool (by simp) i).trans hr
      exact coalesce_law (h.same (.setPendingFlags ..)) hr' hq _ _
    · rename_i hn
      split
      · rename_i i e
        have hm := makeAt_law h (q := signalRequest f created s) (grantedIndex_free e) (Bool.eq_true_of_not_eq_false ha)
          fun _ => ⟨fresh_of_alone h.roles hn, not_isKeyOfPost_signalKey⟩
        exact entered_law (hm.same (.setPendingFlags ..)) _
      · exact h

/-! ## Health and configuration -/

theorem heartbeat_law (h : StoreLaw full calm s) (c : Client) : StoreLaw full calm (heartbeat c s) := by
  unfold heartbeat
  dsimp only
  split
  · split
    · exact completeRejoin_law h c
    · exact setHealth_law h rfl
  · exact h

theorem rejoin_law (h : StoreLaw full k s) (c : Client) : StoreLaw full k (rejoin c s).1 := by
  unfold rejoin
  dsimp only
  split
  · rename_i hd
    refine setHealth_law h ?_
    unfold State.attached
    rw [hd]
    rfl
  · exact h

/-- A client's posts are written, but for its slots. -/
theorem setPosts_law (h : StoreLaw full k s) {v : ClientPosts} (hv : v.slots = (s.postsOf c).slots) :
    StoreLaw full k (s.setPosts c v) := by
  refine h.same (.of_store rfl rfl (fun p n => ?_) fun d _ => seen_of_fields rfl rfl rfl d)
  unfold takenBy
  by_cases hp : p = c
  · subst hp
    simp [State.postsOf, hv]
  · simp [State.postsOf, hp, Table.get_set]

theorem setClient_law (h : StoreLaw full k s) (f : ClientSetFields) : StoreLaw full k (setClient f s) := by
  have hp : StoreLaw full k (setPrivileges f.client f.privileges s) := h.framed (by simp [setPrivileges])
  have hx : StoreLaw full k ((setPrivileges f.client f.privileges s).setContexts f.client
      { (setPrivileges f.client f.privileges s).contextsOf f.client with holdOffTime := f.holdOffTime }) :=
    setContexts_law hp rfl rfl
  unfold setClient
  dsimp only
  exact setPosts_law (hx.framed (by simp)) rfl

/-! ## Every request -/

theorem rule_law {rule : Request → State → Answer} (hr : RuleOf c rule) (q : Request) (h : StoreLaw full calm s) :
    StoreLaw full calm (rule q s).1 := by
  cases hr with
  | ready => exact withFields_keeps h fun _ _ => declareReady_law h c
  | ack => exact withFields_keeps h fun _ _ => whileAttached_keeps h (ackNamed_law h _ _ _)
  | exchange => exact withFields_keeps h fun _ _ => whileAttached_keeps h (exchange_law h _ _)
  | contextSet => exact withFields_keeps h fun _ _ => whileAttached_keeps h (setFilter_law h _ _ _ _)
  | timerSet => exact withFields_keeps h fun _ _ => whileAttached_keeps h (setContext_law h _ _)
  | raise =>
    refine withPrivilege_keeps h (withFields_keeps h fun _ _ => whileAttached_keeps h ?_)
    unfold raiseEvent
    split
    · exact h
    · exact h.framed (by simp)
  | post => exact withPrivilege_keeps h (withFields_keeps h fun _ _ => whileAttached_keeps h (post_law h _ _ _))
  | withdraw => exact withPrivilege_keeps h (withFields_keeps h fun _ _ => whileAttached_keeps h (withdraw_law h _ _))
  | signal => exact withPrivilege_keeps h (withFields_keeps h fun _ _ => whileAttached_keeps h (signal_law h _ _))
  | heartbeat => exact withFields_keeps h fun _ _ => heartbeat_law h c
  | rejoin => exact withFields_keeps h fun _ _ => rejoin_law h c
  | query => exact withFields_keeps h fun _ _ => h
  | routeWrite =>
    refine configure_keeps h fun _ _ => ?_
    unfold writeEntry
    split
    · exact h
    · exact h.framed (by simp [accept])
  | bankSet => exact configure_keeps h fun _ _ => h.framed (by simp)
  | lineSet => exact configure_keeps h fun _ _ => configureLine_law h _ _ _
  | profileSet => exact configure_keeps h fun _ _ => h.framed (by simp [accept])
  | clientSet => exact configure_keeps h fun _ _ => setClient_law h _
  | routeRead => exact withFields_keeps h fun _ _ => whileAttached_keeps h h
  | lineRead => exact withFields_keeps h fun _ _ => whileAttached_keeps h h
  | profileRead => exact withFields_keeps h fun _ _ => whileAttached_keeps h h
  | clientRead => exact withFields_keeps h fun _ _ => whileAttached_keeps h h
  | forceAttach =>
    refine withPrivilege_keeps h (withFields_keeps h fun d _ => whileAttached_keeps h ?_)
    unfold forceAttach
    split
    · exact h
    · exact completeRejoin_law h d
  | forceDetach =>
    refine withPrivilege_keeps h (withFields_keeps h fun d _ => whileAttached_keeps h ?_)
    unfold forceDetach
    split
    · exact detach_law h d
    · exact h
  | forceReset =>
    exact withPrivilege_keeps h (withFields_keeps h fun _ _ => whileAttached_keeps h (clientReset_law h _ _))
  | freeze =>
    exact withPrivilege_keeps h (unlessFrozen_keeps h (withFields_keeps h fun _ _ =>
      whileAttached_keeps h (h.framed (by simp [accept]))))
  | sleep =>
    refine withPrivilege_keeps h (withFields_keeps h fun _ _ => whileAttached_keeps h ?_)
    unfold sleepRequest
    split
    · exact h.framed (by simp [accept])
    · exact h
    · exact h
  | wake =>
    refine withPrivilege_keeps h (withFields_keeps h fun _ _ => whileAttached_keeps h ?_)
    unfold wakeRequest
    split
    · exact examineAll_law (h.framed (by simp))
    · exact h
    · exact h
  | resetHub =>
    exact withPrivilege_keeps h (withFields_keeps h fun _ _ => whileAttached_keeps h (h.framed (by simp [accept])))
  | noteSet => exact withPrivilege_keeps h (withFields_keeps h fun _ _ => whileAttached_keeps h (h.framed (by simp)))
  | status => exact withFields_keeps h fun _ _ => whileAttached_keeps h h

theorem takeRequest_law {rule : Request → State → Answer} (hr : RuleOf c rule) (wanted : Request → Bool)
    (h : StoreLaw full calm s) : StoreLaw full calm (takeRequest c wanted rule s) := by
  rcases takeRequest_cases c wanted rule s with e | ⟨q, rest, -, -, -, e⟩ <;> rw [e]
  · exact h
  · have hu : StoreLaw full calm (withoutRequest c rest s) := h.framed (by simp [withoutRequest])
    exact (rule_law hr q hu).framed (by simp)

/-! ## Every step -/

theorem assertResetInput_law (h : StoreLaw full calm s) (pins : PinLevels) : StoreLaw full calm (assertResetInput pins s) := by
  unfold assertResetInput
  dsimp only
  split
  · exact h.framed (by simp)
  · exact hubReset_law ..

/-- The laws of a step: those of keys and posts stand on the law of the intake queue, which they take with them. -/
def StepLaw (full : Prop) (s : State) : Prop := (full → IntakeLaw s) ∧ StoreLaw full calm s

/-- What keeps the law of the intake queue and the laws of the store keeps the laws of a step. -/
theorem StepLaw.kept (h : StepLaw full s) (hi : IntakeLaw s → IntakeLaw t) (ht : StoreLaw full calm s → StoreLaw full calm t) :
    StepLaw full t := ⟨fun hf => hi (h.1 hf), ht h.2⟩

theorem stepLaw_keptByParts (full : Prop) : KeptByParts (StepLaw full) where
  pending s v h := h.kept (intakeLaw_keptByParts.pending s v) fun h => h.framed (by simp)
  time s v h := h.kept (intakeLaw_keptByParts.time s v) fun h => h.framed (by simp)
  settle s h := h.kept (intakeLaw_keptByParts.settle s) fun h => h.framed (by simp)
  lower t s h := h.kept (intakeLaw_keptByParts.lower t s) fun h => lower_law h t
  expire t s h := h.kept (intakeLaw_keptByParts.expire t s) fun h => expire_law h t
  gapFails c s h := h.kept (intakeLaw_keptByParts.gapFails c s) fun h => gapFails_law h c
  receiveByte c b s h := h.kept (intakeLaw_keptByParts.receiveByte c b s) fun h => receiveByte_law h c b
  frameSent c s h := h.kept (intakeLaw_keptByParts.frameSent c s) fun h => frameSent_law h c
  takeHead s h := h.kept (intakeLaw_keptByParts.takeHead s) fun hs => takeHead_law hs h.1
  changeRawLevel l v s h := h.kept (intakeLaw_keptByParts.changeRawLevel l v s) fun h => changeRawLevel_law h l v
  powerOn pins raw s h := h.kept (intakeLaw_keptByParts.powerOn pins raw s) fun _ => hubReset_law ..
  assertInput pins s h := h.kept (intakeLaw_keptByParts.assertInput pins s) fun h => assertResetInput_law h pins
  releaseInput s h := h.kept (intakeLaw_keptByParts.releaseInput s) fun h => h.framed (by simp)
  take c wanted rule s hr h := h.kept (intakeLaw_keptByParts.take c wanted rule s hr) fun h => takeRequest_law hr wanted h

/-- Settles O57: each part of which a step is made keeps the law of records and queues, and, with the law of the intake queue, the laws
of keys and post slots. -/
theorem everyStepKeepsTheQueueLaw : Obligations.EveryStepKeepsTheQueueLaw := by
  refine ⟨fun s t h e => ?_, fun s t hi hq hp e => ?_⟩
  · have hs : StepLaw False s := ⟨False.elim, (roleLaw_calm_iff s).2 h, False.elim⟩
    have ht := (stepLaw_keptByParts False).step hs e
    exact (roleLaw_calm_iff t).1 ht.2.roles
  · have hs : StepLaw True s := ⟨fun _ => hi, (queueLaw_postLaw_iff s).2 ⟨hq, hp⟩⟩
    have ht := (stepLaw_keptByParts True).step hs e
    exact (queueLaw_postLaw_iff t).1 ht.2

end Sys2Proof.Laws
end

section
/-! PROOF. Hub frames in the outbound queue of a link (R150, R164), and the post slot that a free settles (R149). -/

namespace Sys2Proof.Laws

open Sys2Proof.Machine Sys2Proof.Safety

/-! ## A frame is placed, or updated in place (R164) -/

theorem placeOrUpdate_new {f : HubFrame} {q : List HubFrame} (h : ∀ g ∈ q, g.kindByte ≠ f.kindByte) :
    placeOrUpdate f q = q ++ [f] := by
  have hany : (q.any fun g => g.kindByte = f.kindByte) = false := List.any_eq_false.2 fun g hg => by simpa using h g hg
  unfold placeOrUpdate
  rw [hany]
  rfl

/-- The frames of another kind keep their place and themselves. -/
theorem map_update_of_other {f : HubFrame} {q : List HubFrame} (h : ∀ g ∈ q, g.kindByte ≠ f.kindByte) :
    (q.map fun g => if g.kindByte = f.kindByte then f else g) = q :=
  (List.map_congr_left fun g hg => if_neg (h g hg)).trans (List.map_id' q)

theorem placeOrUpdate_update {f g : HubFrame} {pre post : List HubFrame} (hg : g.kindByte = f.kindByte)
    (h : ∀ o ∈ pre ++ post, o.kindByte ≠ f.kindByte) : placeOrUpdate f (pre ++ g :: post) = pre ++ f :: post := by
  have hany : ((pre ++ g :: post).any fun x => x.kindByte = f.kindByte) = true :=
    List.any_eq_true.2 ⟨g, by simp, by simpa using hg⟩
  unfold placeOrUpdate
  rw [hany, if_pos rfl, List.map_append, List.map_cons, if_pos hg,
    map_update_of_other fun o ho => h o (List.mem_append_left _ ho),
    map_update_of_other fun o ho => h o (List.mem_append_right _ ho)]

theorem placeHubFrame_new {c : Client} {f : HubFrame} {s : State} (h : ∀ g ∈ (s.link c).hub, g.kindByte ≠ f.kindByte) :
    placeHubFrame c f s = s.setLink c { s.link c with hub := (s.link c).hub ++ [f] } := by
  unfold placeHubFrame
  rw [placeOrUpdate_new h]

theorem placeHubFrame_update {c : Client} {f g : HubFrame} {s : State} {pre post : List HubFrame}
    (hq : (s.link c).hub = pre ++ g :: post) (hg : g.kindByte = f.kindByte)
    (h : ∀ o ∈ pre ++ post, o.kindByte ≠ f.kindByte) :
    placeHubFrame c f s = s.setLink c { s.link c with hub := pre ++ f :: post } := by
  unfold placeHubFrame
  rw [hq, placeOrUpdate_update hg h]

theorem kindByte_deliver_iff (f : HubFrame) (d : DeliverFields) :
    f.kindByte = (HubFrame.deliver d).kindByte ↔ ∃ b, f = .deliver b := by
  cases f <;> simp [HubFrame.kindByte]

theorem placeHubFrame_deliver {c : Client} {s : State} (h : ∀ b, .deliver b ∉ (s.link c).hub) (d : DeliverFields) :
    placeHubFrame c (.deliver d) s = s.setLink c { s.link c with hub := (s.link c).hub ++ [.deliver d] } :=
  placeHubFrame_new fun f hf e => by
    obtain ⟨b, rfl⟩ := (kindByte_deliver_iff f d).1 e
    exact h b hf

theorem kindByte_slots_iff (f : HubFrame) (t : Table 4 SlotsEntry) :
    f.kindByte = (HubFrame.slots t).kindByte ↔ ∃ x, f = .slots x := by
  cases f <;> simp [HubFrame.kindByte]

theorem kindByte_ne_slots {q : List HubFrame} (h : ∀ x, .slots x ∉ q) (t : Table 4 SlotsEntry) :
    ∀ f ∈ q, f.kindByte ≠ (HubFrame.slots t).kindByte := fun f hf e => by
  obtain ⟨x, rfl⟩ := (kindByte_slots_iff f t).1 e
  exact h x hf

/-! ## The SLOTS frame (R150) -/

/-- What an unsent frame holds of post outcomes. -/
def slotsOf : HubFrame → Option (Table 4 SlotsEntry)
  | .slots t => some t
  | .deliver _ => none
  | .recall _ => none
  | .context _ _ _ => none

theorem unsentSlots_eq (q : List HubFrame) : unsentSlots q = q.findSome? slotsOf := by
  unfold unsentSlots slotsOf
  rfl

theorem slotsOf_of_other {q : List HubFrame} (h : ∀ x, .slots x ∉ q) : q.findSome? slotsOf = none := by
  refine List.findSome?_eq_none_iff.2 fun f hf => ?_
  match f with
  | .slots t => exact absurd hf (h t)
  | .deliver _ => rfl
  | .recall _ => rfl
  | .context _ _ _ => rfl

theorem reportOutcome_new {p : Client} {s : State} (h : ∀ x, .slots x ∉ (s.link p).hub) (n : SlotNo) (o : PostOutcome) :
    reportOutcome p n o s = s.setLink p { s.link p with
      hub := (s.link p).hub ++ [.slots ((Table.const ⟨.none, 0⟩).set n ⟨o, 1⟩)] } := by
  have hnone : unsentSlots (s.link p).hub = none := (unsentSlots_eq _).trans (slotsOf_of_other h)
  unfold reportOutcome
  rw [hnone]
  exact placeHubFrame_new (kindByte_ne_slots h _)

theorem reportOutcome_update {p : Client} {s : State} {pre post : List HubFrame} {x : Table 4 SlotsEntry}
    (hq : (s.link p).hub = pre ++ .slots x :: post) (h : ∀ y, .slots y ∉ pre ++ post) (n : SlotNo) (o : PostOutcome) :
    reportOutcome p n o s = s.setLink p { s.link p with
      hub := pre ++ .slots (x.set n ⟨o, min 255 ((x.get n).number + 1)⟩) :: post } := by
  have hsome : unsentSlots (s.link p).hub = some x := by
    have hpre : pre.findSome? slotsOf = none := slotsOf_of_other fun y hy => h y (List.mem_append_left _ hy)
    rw [unsentSlots_eq, hq, List.findSome?_append, hpre]
    rfl
  unfold reportOutcome
  rw [hsome]
  exact placeHubFrame_update hq rfl (kindByte_ne_slots h _)

/-! ## The slot of a freed post (R149) -/

theorem settlePost_orphaned {k : Key} {h : Handle} {s : State} {t : Client}
    (e : (s.postsOf k.postSender).slots.get k.postSlot = .orphaned t h) (cause : FreeCause) :
    settlePost k h cause s = setPostSlot k.postSender k.postSlot .empty s := by
  unfold settlePost
  rw [e]
  exact if_pos rfl

theorem settlePost_waiting {k : Key} {h : Handle} {s : State} {t : Client}
    (e : (s.postsOf k.postSender).slots.get k.postSlot = .waiting t h) (cause : FreeCause) :
    settlePost k h cause s =
      if cause.outcome = .none then setPostSlot k.postSender k.postSlot .empty s
      else reportOutcome k.postSender k.postSlot cause.outcome (setPostSlot k.postSender k.postSlot .empty s) := by
  unfold settlePost
  rw [e]
  exact if_pos rfl

/-- Settles O26: a frame by whether one of its kind waits, a slot by its state and the cause of the free. -/
theorem outcomesAndFramesInPlace : Obligations.OutcomesAndFramesInPlace := by
  refine ⟨fun c f s => ⟨placeHubFrame_new, fun pre post g => placeHubFrame_update⟩, fun k h cause p n s v hp hn hv => ?_⟩
  subst hp hn hv
  refine ⟨fun t e => settlePost_orphaned e cause, fun t e => ?_, fun o h => reportOutcome_new h _ o,
    fun o pre post x hq h => reportOutcome_update hq h _ o⟩
  rw [settlePost_waiting e]
  cases cause <;> rfl

end Sys2Proof.Laws
end

section
/-! PROOF. Presentation (R75 to R78), READY (R82), and the end of a DELIVER frame (R79, R121). -/

namespace Sys2Proof.Laws

open Sys2Proof.Machine Sys2Proof.Safety

/-! ## The record that PRS presents -/

theorem examine_of_not {c : Client} {s : State} (h : ¬ MayPresent s c) : examine c s = s :=
  if_neg fun e => h ((mayPresent_iff s c).1 e)

theorem any_qualifies {s : State} {c : Client} {i : RecIndex} :
    (s.record i).any (qualifies s c) = true ↔ ∃ r, s.record i = some r ∧ Qualifies s c r := by
  simp only [Option.any_eq_true, qualifies_iff]

theorem firstQualifying_eq_none {c : Client} {s : State}
    (h : ∀ i r, i ∈ s.queue c → s.record i = some r → ¬ Qualifies s c r) : firstQualifying s c = none :=
  List.find?_eq_none.2 fun i hi e => by
    obtain ⟨r, hr, hq⟩ := any_qualifies.1 e
    exact h i r hi hr hq

theorem firstQualifying_eq {c : Client} {s : State} {pre post : List RecIndex} {i : RecIndex} {r : Record}
    (hs : s.queue c = pre ++ i :: post) (hpre : ∀ j ∈ pre, ∀ o, s.record j = some o → ¬ Qualifies s c o)
    (hr : s.record i = some r) (hq : Qualifies s c r) : firstQualifying s c = some i := by
  have hi : (s.record i).any (qualifies s c) = true := any_qualifies.2 ⟨r, hr, hq⟩
  refine List.find?_eq_some_iff_append.2 ⟨hi, pre, post, hs, fun j hj => ?_⟩
  rw [Bool.not_eq_true', Bool.eq_false_iff]
  intro e
  obtain ⟨o, ho, hqo⟩ := any_qualifies.1 e
  exact hpre j hj o ho hqo

theorem examine_of_none {c : Client} {s : State} (h : firstQualifying s c = none) : examine c s = s := by
  unfold examine
  rw [h]
  exact ite_self s

theorem examine_presents {c : Client} {s : State} {i : RecIndex} {r : Record} (h : MayPresent s c)
    (hi : firstQualifying s c = some i) (hr : s.record i = some r) : examine c s = present c i r s := by
  unfold examine
  rw [if_pos ((mayPresent_iff s c).2 h), hi]
  dsimp only
  rw [hr]

theorem isSignal_iff (k : Key) : k.isSignal = true ↔ k.source = 41 := decide_eq_true_iff

theorem asPresented_eq (s : State) (c : Client) (r : Record) : asPresented s c r = presentedForm s c r := by
  simp only [asPresented, presentedForm, escAtPresentation, isSignal_iff]

theorem deliverFields_eq (h : Handle) (r : Record) : deliverFields h r = deliverOf h r := by
  simp only [deliverFields, deliverOf, isSignal_iff]

/-- A signal record takes the pending flags with it; any other record leaves them (R78). -/
theorem setPosts_taken (c : Client) (r : Record) (s : State) :
    (if r.key.isSignal then setPendingFlags c 0 s else s) = s.setPosts c { s.postsOf c with
      pendingFlags := if r.key.source = 41 then 0 else (s.postsOf c).pendingFlags } := by
  by_cases h : r.key.source = 41
  · rw [if_pos ((isSignal_iff _).2 h), if_pos h]
    rfl
  · rw [if_neg fun e => h ((isSignal_iff _).1 e), if_neg h]
    exact (setPosts_self s c).symm

theorem present_eq {c : Client} {s : State} (i : RecIndex) (r : Record) (h : ∀ d, .deliver d ∉ (s.link c).hub) :
    present c i r s =
      ((((s.setSlot i ⟨(s.slot i).gen, some (presentedForm s c r)⟩).setQueue c ((s.queue c).filter (· ≠ i))).setPosts c
        { s.postsOf c with pendingFlags := if r.key.source = 41 then 0 else (s.postsOf c).pendingFlags }).setPresentation c
        { s.presentationOf c with gateOpen := false }).setLink c
        { s.link c with
          hub := (s.link c).hub ++ [.deliver (deliverOf ⟨i, (s.slot i).gen⟩ (presentedForm s c r))] } := by
  unfold present
  dsimp only
  rw [setPosts_taken, asPresented_eq, deliverFields_eq]
  refine (placeHubFrame_deliver ?_ _).trans ?_
  · exact h
  simp only [State.handleAt, State.slot, setGate, State.setPosts_pool, dequeue,
    State.setRecord, State.setQueue_pool, State.setSlot_pool, Table.get_set_same]
  rfl

/-- Settles O20: the record by the search from the front of the queue, the presentation by its steps. -/
theorem presentationTakesTheFirstQualifying : Obligations.PresentationTakesTheFirstQualifying := by
  refine fun c s => ⟨examine_of_not, fun h => examine_of_none (firstQualifying_eq_none h),
    fun pre post i r hm hs hpre hr hq => ?_⟩
  have ⟨_, _, _, _, hdeliver, _⟩ := hm
  rw [examine_presents hm (firstQualifying_eq hs hpre hr hq) hr, present_eq i r hdeliver]

/-! ## READY (R82) -/

theorem exec_ready {s u : State} {c : Client} {a : Arrival} {q : Request} (ht : Takes s c .ready a q u) :
    exec (.ready c a) s = .next (outcomeOf c q
      (withFields (parseEmpty q.payload) u fun _ => (declareReady c u, .ok, readyFields u c))) :=
  congrArg Host.Outcome.next (serve_of_takes (ruleReady c) ht)

/-- Settles O21: by whether the payload is empty. -/
theorem readyIsDeclared : Obligations.ReadyIsDeclared := by
  refine fun s u c a q ht => ⟨fun hq => ?_, fun hq => ?_⟩
  · rw [exec_ready ht, outcomeOf_fields_none c q u (parseEmpty_ne hq)]
  · rw [exec_ready ht, (parseEmpty_eq q.payload ()).2 hq, outcomeOf_withFields_some, outcomeOf_mk]
    rfl

/-! ## The end of a DELIVER frame (R79, R121) -/

theorem exec_transmissionEnd_deliver {s : State} {c : Client} {d : DeliverFields} (h : (s.link c).tx = some (.hub (.deliver d))) :
    exec (.transmissionEnd c) s = .next (settle (deliverSent c d.handle (s.setLink c { s.link c with tx := none }))) := by
  have hsent : frameSent c s = deliverSent c d.handle (s.setLink c { s.link c with tx := none }) := by
    unfold frameSent
    rw [h]
  exact congrArg (fun t => Host.Outcome.next (settle t)) hsent

theorem deliverSent_of_none {s : State} {c : Client} (h : presentedOf s c = none) (x : Handle) :
    deliverSent c x s = examine c s := by
  unfold deliverSent
  rw [heldIn_none h]

theorem deliverSent_of_some {s : State} {c : Client} {i : RecIndex} {r : Record} (h : presentedOf s c = some i)
    (hr : s.record i = some r) (x : Handle) :
    deliverSent c x s = examine c (if s.handleAt i = x then beginStage c i r s else s) := by
  unfold deliverSent
  rw [heldIn_of h hr]

/-- The stage of a record whose DELIVER frame has been sent: a WAITING one begins, a frozen one continues. -/
theorem beginStage_eq {r : Record} {e : Escalation} (h : r.esc = some e) (c : Client) (i : RecIndex) (s : State) :
    beginStage c i r s =
      if e.stage = .waiting then beginDeadline i r s else if e.asserting then setAttention c true s else s := by
  unfold beginStage
  rw [h]

theorem beginDeadline_eq (i : RecIndex) (r : Record) (s : State) :
    beginDeadline i r s = s.setSlot i ⟨(s.slot i).gen, some { r with
      esc := some (if (s.profiles.get r.profile).deadline = 0 then ⟨.spent, 0, false, false⟩
        else ⟨.deadline, (s.profiles.get r.profile).deadline, false, false⟩) }⟩ := rfl

/-- Settles O30: by whether the frame is the PRESENTED record's, and by that record's stage. -/
theorem stageBeginsWhenDelivered : Obligations.StageBeginsWhenDelivered := by
  intro c d i r e s v htx hv
  rw [exec_transmissionEnd_deliver htx, ← hv]
  have hp : presentedOf v c = presentedOf s c := by rw [hv]; rfl
  have hsent : presentedOf s c = some i → s.record i = some r → deliverSent c d.handle v =
      examine c (if ⟨i, (s.slot i).gen⟩ = d.handle then beginStage c i r v else v) := fun h hr => by
    rw [deliverSent_of_some (hp.trans h) (by rw [hv]; exact hr), hv]
    rfl
  refine ⟨fun h => by rw [deliverSent_of_none (hp.trans h)], fun h hr => ?_⟩
  rw [hsent h hr]
  refine ⟨fun hd => by rw [if_neg hd.symm], fun hd he => ?_⟩
  rw [if_pos hd.symm, beginStage_eq he]
  have hslot : v.slot i = s.slot i := by rw [hv]; rfl
  have hprofiles : v.profiles = s.profiles := by rw [hv]; rfl
  refine ⟨fun hw hdl => ?_, fun hw hdl => ?_, fun hw ha => ?_, fun hw ha => ?_⟩
  · rw [if_pos hw, beginDeadline_eq, hslot, hprofiles, if_neg hdl]
  · rw [if_pos hw, beginDeadline_eq, hslot, hprofiles, if_pos hdl]
  · rw [if_neg hw, ha]
    rfl
  · rw [if_neg hw, ha, hv]
    rfl

end Sys2Proof.Laws
end

section
/-! PROOF. The modes of the hub: the requests SLEEP and WAKE, the entry into SLEEP, and the wake (R95, R180, R181). -/

namespace Sys2Proof.Laws

open Sys2Proof.Machine Sys2Proof.Safety

/-! ## SLEEP and WAKE (R180) -/

/-- A request under CONTROL that has no fields, and is refused to a client that is not attached (R166). -/
theorem outcomeOf_control (c : Client) (q : Request) (u : State) (rest : Answer) :
    outcomeOf c q (withPrivilege .control c u <| withFields (parseEmpty q.payload) u fun _ => whileAttached c u rest) =
      judged c q u [(!holds u c .control, .denied), (q.payload ≠ [], .badField), (!u.attached c, .detached)]
        (outcomeOf c q rest) := by
  rw [outcomeOf_withPrivilege, judged_cons]
  cases holds u c .control
  · rfl
  · rw [judged_cons]
    by_cases hq : q.payload = []
    · rw [(parseEmpty_eq q.payload ()).2 hq, outcomeOf_withFields_some, outcomeOf_whileAttached, judged_cons]
      cases u.attached c <;> simp [hq]
    · rw [outcomeOf_fields_none c q u (parseEmpty_ne hq)]
      simp [hq]

theorem outcomeOf_sleepRequest (c : Client) (q : Request) (u : State) : outcomeOf c q (sleepRequest u) =
    judged c q u [(u.sup.mode ≠ .run, .same)] (replied c q .ok [] (u.setSup { u.sup with mode := .sleepPending })) := by
  unfold sleepRequest
  rw [judged_cons]
  cases h : u.sup.mode <;> simp [h, outcomeOf_accept, outcomeOf_refuse, setMode]

theorem outcomeOf_wakeRequest (c : Client) (q : Request) (u : State) : outcomeOf c q (wakeRequest u) =
    judged c q u [(u.sup.mode ≠ .sleepPending, .same)]
      (replied c q .ok [] (examine 3 (examine 2 (examine 1 (examine 0 (u.setSup { u.sup with mode := .run })))))) := by
  unfold wakeRequest
  rw [judged_cons]
  cases h : u.sup.mode <;> simp [h, outcomeOf_accept, outcomeOf_refuse, setMode, examineAll_eq]

/-! ## The entry into SLEEP, and the wake (R181) -/

theorem quiet_iff (k : Link) : k.quiet = true ↔ k.requests = [] ∧ k.replies = [] ∧ k.hub = [] ∧ k.tx = none := by
  simp [Link.quiet, and_assoc]

/-- All entries of a table meet a test when each does. -/
theorem table_all {n : Nat} {α : Type} (t : Table n α) (p : α → Bool) : t.data.all p = true ↔ ∀ i, p (t.get i) = true := by
  rw [table_data, List.all_eq_true]
  simp

theorem sleepReady_iff (s : State) : sleepReady s = true ↔
    s.sup.mode = .sleepPending ∧ (∀ i r, s.record i = some r → r.state ≠ .presented) ∧ s.intake = [] ∧
      (∀ c, (s.link c).requests = [] ∧ (s.link c).replies = [] ∧ (s.link c).hub = [] ∧ (s.link c).tx = none) ∧
      ∀ c, (s.clientLinesOf c).resetLine = false := by
  have hheld : (!holdsRecord s fun r => r.state = .presented) = true ↔
      ∀ i r, s.record i = some r → r.state ≠ .presented := by
    rw [Bool.not_eq_true', Bool.eq_false_iff, ne_eq, holdsRecord_iff]
    simp
  simp only [sleepReady, Bool.and_eq_true, hheld, table_all, quiet_iff, decide_eq_true_eq, List.isEmpty_iff,
    Bool.not_eq_true', and_assoc]

theorem completeWake_woken {m : HubMode} {s : State} (hm : m = .sleep) (hs : s.sup.mode = .run) :
    completeWake m s = examineAll s := if_pos ⟨hm, hs⟩

theorem completeWake_unwoken {m : HubMode} {s : State} (h : m ≠ .sleep ∨ s.sup.mode ≠ .run) : completeWake m s = s :=
  if_neg fun e => h.elim (fun hm => hm e.1) fun hs => hs e.2

/-- Settles O52: the two requests by their checks and the mode, the entry into SLEEP by its conditions, and the wake by the mode in
which it falls. -/
theorem sleepAndWake : Obligations.SleepAndWake := by
  refine ⟨fun s u c a q ht => ?_, fun s u c a q ht => ?_, fun s => ⟨fun h => if_pos ((sleepReady_iff s).2 h),
    fun h => if_neg fun e => h ((sleepReady_iff s).1 e)⟩, fun s => ⟨wakeHub_awake, fun h => ?_⟩,
    fun m s => ⟨fun hm hs => ?_, completeWake_unwoken⟩⟩
  · have hserve := serve_of_takes (ruleSleep c) ht
    rw [ruleSleep, outcomeOf_control, outcomeOf_sleepRequest, ← judged_append] at hserve
    exact congrArg Host.Outcome.next hserve
  · have hserve := serve_of_takes (ruleWake c) ht
    rw [ruleWake, outcomeOf_control, outcomeOf_wakeRequest, ← judged_append] at hserve
    exact congrArg Host.Outcome.next hserve
  · rw [wakeHub_asleep h, rouse_asleep h, examineAll_eq]
    rfl
  · rw [completeWake_woken hm hs, examineAll_eq]

end Sys2Proof.Laws
end

section
/-! PROOF. The comparisons of an ACK in their order (R84, R85), and the withdrawal of a copy by its state (R91, R92). -/

namespace Sys2Proof.Laws

open Sys2Proof.Machine Sys2Proof.Safety

/-! ## The comparisons of an ACK (R85) -/

section Compared

variable {c : Client} {h : Handle} {r : Record} {u : State}

theorem ackNamed_presented (hp : namedRecord u c .presented h = some r) (d : Disposition) : ackNamed c h d u =
    (ackPresented c h.index r d u, .ok, [byte ((ackPresented c h.index r d u).queue c).length]) := by
  unfold ackNamed
  rw [hp]
  rfl

theorem ackNamed_suspended (hp : namedRecord u c .presented h = none) (hs : namedRecord u c .suspended h = some r)
    (d : Disposition) : ackNamed c h d u =
    (ackSuspended c h.index r d u, .ok, [byte ((ackSuspended c h.index r d u).queue c).length]) := by
  unfold ackNamed
  rw [hp, hs]
  rfl

theorem ackNamed_unnamed (hp : namedRecord u c .presented h = none) (hs : namedRecord u c .suspended h = none)
    (d : Disposition) : ackNamed c h d u =
    if (u.presentationOf c).lastRecalled = some h then refuse .takenElsewhere u else refuse .stale (chargeScore c 4 u) := by
  unfold ackNamed
  rw [hp, hs]

end Compared

theorem exec_ack {s u : State} {c : Client} {a : Arrival} {q : Request} (ht : Takes s c .ack a q u) :
    exec (.ack c a) s = .next (outcomeOf c q
      (withFields (parseAck q.payload) u fun p => whileAttached c u (ackNamed c p.1 p.2 u))) :=
  congrArg Host.Outcome.next (serve_of_takes (ruleAck c) ht)

/-- Settles O22: by whether the payload reads, by the client's health, and by what the handle names. -/
theorem ackIsComparedInOrder : Obligations.AckIsComparedInOrder := by
  refine fun s u c a q ht => ⟨fun hq => ?_, fun h d hq => ?_⟩
  · rw [exec_ack ht, outcomeOf_fields_none c q u fun x hx => hq x.1 x.2 ((parseAck_eq _ _ _).1 hx)]
  rw [exec_ack ht, (parseAck_eq _ h d).2 hq, outcomeOf_withFields_some, outcomeOf_whileAttached]
  refine ⟨fun ha => by rw [ha]; rfl, fun ha => ?_⟩
  rw [if_pos ha]
  refine ⟨fun r hp => by rw [ackNamed_presented hp, outcomeOf_mk], fun hp =>
    ⟨fun r hs => by rw [ackNamed_suspended hp hs, outcomeOf_mk], fun hs => ⟨fun hl => ?_, fun hl => ?_⟩⟩⟩
  · rw [ackNamed_unnamed hp hs, if_pos hl, outcomeOf_refuse]
  · rw [ackNamed_unnamed hp hs, if_neg hl, outcomeOf_refuse]

/-! ## A withdrawal (R91, R92) -/

theorem deliverUnsent_iff (s : State) (d : Client) (h : Handle) : deliverUnsent s d h = true ↔
    ∃ f ∈ (s.link d).hub, ∃ b, f = .deliver b ∧ b.handle = h := by
  have hf : ∀ f : HubFrame, f.delivers h = true ↔ ∃ b, f = .deliver b ∧ b.handle = h := fun f => by
    cases f <;> simp [HubFrame.delivers]
  simp only [deliverUnsent, List.any_eq_true, hf]

section Withdrawn

variable {d : Client} {j : RecIndex} {r : Record} {s : State}

theorem withdrawCopy_queued (h : r.state = .queued) : withdrawCopy d j r s = freeRecord j r .other s := by
  unfold withdrawCopy
  rw [h]

theorem withdrawCopy_presented (h : r.state = .presented) : withdrawCopy d j r s =
    if deliverUnsent s d (s.handleAt j) then openGate d (setLastRecalled d (some (s.handleAt j))
      (freeRecord j r .other (setAttention d false s)))
    else placeHubFrame d (.recall (s.handleAt j)) (openGate d (setLastRecalled d (some (s.handleAt j))
      (freeRecord j r .other (setAttention d false s)))) := by
  unfold withdrawCopy
  rw [h]

theorem withdrawCopy_suspended (h : r.state = .suspended) : withdrawCopy d j r s =
    placeHubFrame d (.recall (s.handleAt j)) (clearSuspended d (setLastRecalled d (some (s.handleAt j))
      (freeRecord j r .other s))) := by
  unfold withdrawCopy
  rw [h]

theorem present_presentation (c : Client) (i : RecIndex) (r : Record) (s : State) :
    (present c i r s).presentation = s.presentation.set c { s.presentationOf c with gateOpen := false } := by
  unfold present setGate
  dsimp only
  split <;> simp [State.setRecord, State.presentationOf]

theorem examine_lastRecalled (c k : Client) (s : State) :
    ((examine c s).presentationOf k).lastRecalled = (s.presentationOf k).lastRecalled := by
  rcases examine_cases c s with e | ⟨i, o, -, -, -, e⟩ <;> rw [e]
  rw [State.presentationOf, present_presentation, Table.get_set]
  split
  · rename_i hk
    rw [hk]
  · rfl

theorem openGate_lastRecalled (c : Client) (s : State) :
    ((openGate c s).presentationOf c).lastRecalled = (s.presentationOf c).lastRecalled := by
  unfold openGate
  rw [examine_lastRecalled, setGate, State.presentationOf, State.setPresentation_presentation, Table.get_set_same]

theorem setLastRecalled_same (d : Client) (h : Option Handle) (s : State) :
    ((setLastRecalled d h s).presentationOf d).lastRecalled = h := by
  rw [setLastRecalled, State.presentationOf, State.setPresentation_presentation, Table.get_set_same]

theorem withdrawCopy_lastRecalled (h : r.state ≠ .queued) :
    ((withdrawCopy d j r s).presentationOf d).lastRecalled = some (s.handleAt j) := by
  cases e : r.state with
  | queued => exact absurd e h
  | presented =>
    have hopen : ∀ t, ((openGate d (setLastRecalled d (some (s.handleAt j)) t)).presentationOf d).lastRecalled =
        some (s.handleAt j) := fun t => (openGate_lastRecalled d _).trans (setLastRecalled_same d _ t)
    rw [withdrawCopy_presented e]
    split
    · exact hopen _
    · exact hopen _
  | suspended =>
    rw [withdrawCopy_suspended e]
    exact setLastRecalled_same d _ (freeRecord j r .other s)

/-- A withdrawal writes one client's suspended handle, and no other part of the contexts. -/
theorem withdrawCopy_active (d k : Client) (j : RecIndex) (r : Record) (s : State) :
    ((withdrawCopy d j r s).contextsOf k).active = (s.contextsOf k).active := by
  cases e : r.state with
  | queued => rw [withdrawCopy_queued e]; simp [State.contextsOf]
  | presented => rw [withdrawCopy_presented e]; split <;> simp [State.contextsOf]
  | suspended =>
    rw [withdrawCopy_suspended e]
    simp only [State.contextsOf, placeHubFrame_keeps, clearSuspended, State.setContexts_contexts, Table.get_set,
      setLastRecalled_keeps, freeRecord_keeps]
    split
    · rename_i hk
      rw [hk]
    · rfl

theorem withdrawCopy_clientLines (d : Client) (j : RecIndex) (r : Record) (s : State) :
    (withdrawCopy d j r s).clientLines =
      if r.state = .presented then (setAttention d false s).clientLines else s.clientLines := by
  cases e : r.state with
  | queued => rw [withdrawCopy_queued e]; simp
  | presented => rw [withdrawCopy_presented e]; split <;> simp
  | suspended => rw [withdrawCopy_suspended e]; simp

theorem setAttention_same (c : Client) (on : Bool) (s : State) : ((setAttention c on s).clientLinesOf c).attention = on := by
  rw [setAttention, State.clientLinesOf, State.setClientLines_clientLines, Table.get_set_same]

theorem withdrawCopy_untouched (d : Client) (j : RecIndex) (r : Record) (s : State) : Untouched s (withdrawCopy d j r s) := by
  simp [Untouched]

/-- The withdrawal of a SUSPENDED copy outside SLEEP writes the suspended handle, and no gate. -/
theorem withdrawCopy_suspended_awake (h : r.state = .suspended) (hm : s.sup.mode ≠ .sleep) :
    ((withdrawCopy d j r s).presentationOf d).gateOpen = (s.presentationOf d).gateOpen ∧
    (withdrawCopy d j r s).contextsOf d = { s.contextsOf d with suspended := none } := by
  obtain ⟨-, -, hpresentation, -⟩ := freeRecord_awake hm j r .other
  rw [withdrawCopy_suspended h]
  constructor
  · simp [State.presentationOf, setLastRecalled, hpresentation]
  · simp [State.contextsOf, clearSuspended]

theorem withdrawCopy_others {i : RecIndex} {o : Record} (hi : i ≠ j) (ho : s.record i = some o) :
    ∃ o', (withdrawCopy d j r s).record i = some o' ∧ o'.owner = o.owner ∧ o'.key = o.key ∧ o'.mode = o.mode := by
  have hh : holding (withdrawCopy d j r s) i = holding s i := by rw [withdrawCopy_holding, if_neg hi]
  simpa [holding, ho] using hh

theorem withdrawCopy_frees : (withdrawCopy d j r s).record j = none := by
  have hh : holding (withdrawCopy d j r s) j = none := by rw [withdrawCopy_holding, if_pos rfl]
  simpa [holding] using hh

end Withdrawn

/-- Settles O25: the withdrawal by the copy's state, and the operations it is made of. -/
theorem withdrawalFollowsTheCopysState : Obligations.WithdrawalFollowsTheCopysState := by
  refine ⟨fun d j r s _ => ⟨withdrawCopy_queued, withdrawCopy_lastRecalled, fun h => ?_, fun h hf => ?_, fun h hf => ?_,
    withdrawCopy_suspended, withdrawCopy_suspended_awake, fun i o => withdrawCopy_others, withdrawCopy_frees, by simp,
    withdrawCopy_untouched d j r s⟩, fun c h on s => ⟨rfl, rfl, rfl, rfl⟩⟩
  · rw [State.clientLinesOf, withdrawCopy_clientLines, if_pos h]
    exact setAttention_same d false s
  · rw [withdrawCopy_presented h, if_pos ((deliverUnsent_iff s d (s.handleAt j)).2 hf)]
    rfl
  · have hsent : ¬ deliverUnsent s d (s.handleAt j) = true := fun e => by
      obtain ⟨f, hm, b, rfl, hb⟩ := (deliverUnsent_iff s d _).1 e
      exact hf b hb hm
    rw [withdrawCopy_presented h, if_neg hsent]
    rfl

end Sys2Proof.Laws
end

section
/-! PROOF. The win of a FIRST group (R90): the withdrawals, one client after another, leave no copy but the winner, and the end of the
winner leaves none. -/

namespace Sys2Proof.Laws

open Sys2Proof.Machine Sys2Proof.Safety

/-! ## The other copies -/

section Won

variable {g : GroupNo} {i : RecIndex} {s : State}

theorem withdrawFrom_none {d : Client} (h : ∀ j o, j ≠ i → s.record j = some o → o.owner = d → o.mode ≠ .first g) :
    withdrawFrom g i s d = s := by
  unfold withdrawFrom
  split
  · rename_i j o e
    obtain ⟨hne, ho, howner, hmode⟩ := otherCopy_some e
    exact absurd hmode (h j o hne ho howner)
  · rfl

/-- The copy that the search in ascending order of index finds. -/
theorem withdrawFrom_lowest {d : Client} {j : RecIndex} {r : Record} (hj : j ≠ i) (hr : s.record j = some r) (ho : r.owner = d)
    (hm : r.mode = .first g)
    (hlow : ∀ k o, k < j → k ≠ i → s.record k = some o → o.owner = d → o.mode ≠ .first g) :
    withdrawFrom g i s d = withdrawCopy d j r s := by
  have hfind : (recIndexes.find? fun k => k ≠ i && (s.record k).any fun o => o.owner = d && o.mode = .first g) = some j := by
    refine (find_finRange _ j).2 ⟨by simp [hj, hr, ho, hm], fun k hk => ?_⟩
    rw [Bool.eq_false_iff]
    intro e
    simp only [ne_eq, Bool.and_eq_true, decide_eq_true_eq, Option.any_eq_true] at e
    obtain ⟨hki, o, hko, howner, hmode⟩ := e
    exact hlow k o hk hki hko howner hmode
  have hcopy : otherCopy s d g i = some (j, r) := by
    unfold otherCopy
    rw [hfind, Option.bind_some, hr, Option.map_some]
  unfold withdrawFrom
  rw [hcopy]

theorem copyAt_withdrawCopy (d : Client) (j : RecIndex) (r : Record) (s : State) :
    copyAt (withdrawCopy d j r s) = Function.update (copyAt s) j none := by
  funext k
  rw [copyAt_eq_holding, withdrawCopy_holding, Function.update_apply]
  split
  · rfl
  · exact (copyAt_eq_holding s k).symm

/-- No two copies of group g have one owner (R47 to R49). -/
def OneCopyEach (g : GroupNo) (s : State) : Prop :=
  ∀ i j d, copyAt s i = some (d, g) → copyAt s j = some (d, g) → i = j

/-- A step of the win takes client d's other copy, and no copy of another client. -/
theorem withdrawFrom_copies (h : OneCopyEach g s) (d : Client) :
    (∀ j k, copyAt (withdrawFrom g i s d) j = some (k, g) → copyAt s j = some (k, g)) ∧
    ∀ j, j ≠ i → copyAt (withdrawFrom g i s d) j ≠ some (d, g) := by
  unfold withdrawFrom
  split
  · rename_i m o e
    obtain ⟨-, ho, howner, hmode⟩ := otherCopy_some e
    have hm : copyAt s m = some (d, g) := copyAt_eq_some.2 ⟨o, ho, howner, hmode⟩
    have hkeep : ∀ j k, copyAt (withdrawCopy d m o s) j = some (k, g) → j ≠ m ∧ copyAt s j = some (k, g) := fun j k hj => by
      rw [copyAt_withdrawCopy, Function.update_apply] at hj
      split at hj
      · cases hj
      · exact ⟨‹_›, hj⟩
    refine ⟨fun j k hj => (hkeep j k hj).2, fun j _ hj => ?_⟩
    obtain ⟨hne, hjs⟩ := hkeep j d hj
    exact hne (h j m d hjs hm)
  · rename_i e
    refine ⟨fun _ _ hj => hj, fun j hji hj => ?_⟩
    obtain ⟨o, ho, howner, hmode⟩ := copyAt_eq_some.1 hj
    exact otherCopy_none e j hji o.key (by simp [holding, ho, howner, hmode])

/-- After the clients of `l` have been asked, none of them owns a copy of the group but the winner (R90). -/
theorem withdrawFold_copies (l : List Client) : ∀ s : State, OneCopyEach g s →
    (∀ j k, copyAt (l.foldl (withdrawFrom g i) s) j = some (k, g) → copyAt s j = some (k, g)) ∧
    ∀ j k, j ≠ i → k ∈ l → copyAt (l.foldl (withdrawFrom g i) s) j ≠ some (k, g) := by
  induction l with
  | nil => exact fun s _ => ⟨fun _ _ hj => hj, fun _ _ _ hk => absurd hk List.not_mem_nil⟩
  | cons d l ih =>
    intro s h
    obtain ⟨hkeep, hgone⟩ := withdrawFrom_copies (i := i) h d
    obtain ⟨hkeep', hgone'⟩ := ih (withdrawFrom g i s d) fun a b k ha hb => h a b k (hkeep a k ha) (hkeep b k hb)
    refine ⟨fun j k hj => hkeep j k (hkeep' j k hj), fun j k hji hk hj => ?_⟩
    rcases List.mem_cons.1 hk with rfl | hk
    · exact hgone j hji (hkeep' j k hj)
    · exact hgone' j k hji hk hj

theorem winGroup_copies (h : OneCopyEach g s) (x : FirstGroup) (j : RecIndex) (hj : j ≠ i) (k : Client) :
    copyAt (winGroup g x i s) j ≠ some (k, g) :=
  (withdrawFold_copies clients (s.setGroup g _) h).2 j k hj (mem_clients k)

/-! ## The decision of a group -/

theorem decideGroup_open {r : Record} {x : FirstGroup} (hm : r.mode = .first g) (hx : s.groups.get g = some x)
    (hd : x.done = false) : decideGroup i r .done s = winGroup g x i s := by
  unfold decideGroup
  rw [hm]
  dsimp only
  rw [hx]
  dsimp only
  rw [hd]
  rfl

theorem decideGroup_done {r : Record} {x : FirstGroup} (hm : r.mode = .first g) (hx : s.groups.get g = some x)
    (hd : x.done = true) (d : Disposition) : decideGroup i r d s = s := by
  unfold decideGroup
  rw [hm]
  cases d with
  | decline => rfl
  | done =>
    dsimp only
    rw [hx]
    exact if_pos hd

theorem decideGroup_unformed {r : Record} (hm : r.mode = .first g) (hx : s.groups.get g = none) (d : Disposition) :
    decideGroup i r d s = s := by
  unfold decideGroup
  rw [hm]
  cases d with
  | decline => rfl
  | done =>
    dsimp only
    rw [hx]

theorem decideGroup_undecided {r : Record} {d : Disposition} (h : r.mode = .each ∨ d = .decline) : decideGroup i r d s = s := by
  unfold decideGroup
  rcases h with hm | hd
  · rw [hm]
  · rw [hd]
    cases r.mode <;> rfl

/-! ## The end of the winner -/

theorem freeRecord_copyAt (i : RecIndex) (r : Record) (cause : FreeCause) (s : State) :
    copyAt (freeRecord i r cause s) = Function.update (copyAt s) i none := by
  funext k
  rw [copyAt_eq_holding, freeRecord_holding, Function.update_apply]
  split
  · rfl
  · exact (copyAt_eq_holding s k).symm

/-- The winner's own free takes the last copy. -/
theorem freeRecord_winner_copies (h : ∀ j, j ≠ i → ∀ k, copyAt s j ≠ some (k, g)) (r : Record) (cause : FreeCause)
    (j : RecIndex) (k : Client) : copyAt (freeRecord i r cause s) j ≠ some (k, g) := by
  rw [freeRecord_copyAt, Function.update_apply]
  split
  · nofun
  · exact h j ‹_› k

end Won

theorem lowerScore_copyAt (c : Client) (s : State) : copyAt (lowerScore c s) = copyAt s := by
  unfold lowerScore
  split
  · exact applyScore_copyAt c _ s
  · rfl

theorem openGate_copyAt (c : Client) (s : State) : copyAt (openGate c s) = copyAt s :=
  funext fun _ => copyAt_of_holding (by rw [openGate_holding])

theorem ackEndsHoldOff_copyAt (c : Client) (s : State) : copyAt (ackEndsHoldOff c s) = copyAt s := by
  unfold ackEndsHoldOff endHoldOff
  split
  · rw [ctxExamine_copyAt]
    exact copyAt_of_pool (by simp)
  · rfl

/-- The copies that an ACK of the PRESENTED record leaves are those that the group and the free leave. -/
theorem ackPresented_copyAt (c : Client) (i : RecIndex) (r : Record) (d : Disposition) (s : State) :
    copyAt (ackPresented c i r d s) = copyAt (freeRecord i r d.cause (decideGroup i r d (setAttention c false s))) := by
  unfold ackPresented
  dsimp only
  split
  · rw [ackEndsHoldOff_copyAt, openGate_copyAt]
  · rw [lowerScore_copyAt, ackEndsHoldOff_copyAt, openGate_copyAt]

theorem ackSuspended_copyAt (c : Client) (i : RecIndex) (r : Record) (d : Disposition) (s : State) :
    copyAt (ackSuspended c i r d s) = copyAt (freeRecord i r d.cause (decideGroup i r d s)) :=
  copyAt_of_pool (by simp [ackSuspended])

/-- Settles O24: the win takes every other copy, the free the winner. -/
theorem firstDoneTakesTheWholeGroup : Obligations.FirstDoneTakesTheWholeGroup := by
  intro c h r u g x _ hm hx hd hone
  have hcopies : OneCopyEach g u := fun i j d hi hj => by
    obtain ⟨ri, hri, hoi, hmi⟩ := copyAt_eq_some.1 hi
    obtain ⟨rj, hrj, hoj, hmj⟩ := copyAt_eq_some.1 hj
    exact hone i j ri rj hri hrj hmi hmj (hoi.trans hoj.symm)
  have hfreed : ∀ t : State, copyAt t = copyAt u → t.groups = u.groups → ∀ j k,
      copyAt (freeRecord h.index r .ackDone (decideGroup h.index r .done t)) j ≠ some (k, g) := fun t ht hg => by
    rw [decideGroup_open hm (hg ▸ hx) hd]
    exact freeRecord_winner_copies (fun j hj k => winGroup_copies (fun a b e => by rw [ht]; exact hcopies a b e) x j hj k) r _
  refine ⟨fun j o ho hmode => ?_, fun j o ho hmode => ?_⟩
  · refine hfreed (setAttention c false u) (copyAt_of_pool (by simp)) (by simp) j o.owner ?_
    exact (congrFun (ackPresented_copyAt c h.index r .done u) j).symm.trans (copyAt_eq_some.2 ⟨o, ho, rfl, hmode⟩)
  · refine hfreed u rfl rfl j o.owner ?_
    exact (congrFun (ackSuspended_copyAt c h.index r .done u) j).symm.trans (copyAt_eq_some.2 ⟨o, ho, rfl, hmode⟩)

end Sys2Proof.Laws
end

section
/-! PROOF. The end of the PRESENTED and of the SUSPENDED record by an ACK (R85 to R87, R106, R111): what it frees, what it writes of the
client, and its steps. -/

namespace Sys2Proof.Laws

open Sys2Proof.Machine Sys2Proof.Safety

/-! ## No record is made -/

/-- Every index keeps its generation, and a FREE one stays FREE. -/
structure MakesNone (s t : State) : Prop where
  gens : ∀ j, (t.slot j).gen = (s.slot j).gen
  free : ∀ j, s.record j = none → t.record j = none

section MakesNone

variable {s t u : State}

theorem MakesNone.refl (s : State) : MakesNone s s := ⟨fun _ => rfl, fun _ h => h⟩

theorem MakesNone.trans (h : MakesNone s t) (h' : MakesNone t u) : MakesNone s u :=
  ⟨fun j => (h'.gens j).trans (h.gens j), fun j hj => h'.free j (h.free j hj)⟩

theorem MakesNone.of_pool (h : t.pool = s.pool) : MakesNone s t :=
  ⟨gen_of_pool h, fun j hj => (record_of_pool h j).trans hj⟩

/-- One index is written, which held a record or holds none now. -/
theorem MakesNone.of_set {i : RecIndex} {v : Option Record} (h : t.pool = s.pool.set i ⟨(s.slot i).gen, v⟩)
    (hv : s.record i = none → v = none) : MakesNone s t where
  gens := gen_of_set h rfl
  free j hj := by
    simp only [State.record, State.slot, h, Table.get_set]
    split
    · rename_i e
      exact hv (e ▸ hj)
    · exact hj

theorem MakesNone.framed (h : MakesNone s t) (e : u.pool = t.pool) : MakesNone s u := h.trans (.of_pool e)

theorem examine_makesNone (c : Client) (s : State) : MakesNone s (examine c s) := by
  rcases examine_cases c s with e | ⟨i, r, -, hr, -, e⟩ <;> rw [e]
  · exact .refl s
  · exact .of_set (present_pool c i r s) fun hn => nomatch hn.symm.trans hr

theorem completeWake_makesNone (m : HubMode) (s : State) : MakesNone s (completeWake m s) :=
  completeWake_keeps_of (P := MakesNone s) (fun c u h => h.trans (examine_makesNone c u)) (.refl s) m

theorem freeRecord_makesNone (i : RecIndex) (r : Record) (cause : FreeCause) (s : State) :
    MakesNone s (freeRecord i r cause s) := by
  obtain ⟨hpool, -, -⟩ := freeWithin_moves i r cause s
  exact (MakesNone.of_set hpool fun _ => rfl).trans (completeWake_makesNone _ _)

theorem openGate_makesNone (c : Client) (s : State) : MakesNone s (openGate c s) :=
  MakesNone.trans (.of_pool (by simp)) (examine_makesNone c (setGate c true s))

theorem exchangeToService_makesNone (c : Client) (cause : ContextCause) (s : State) :
    MakesNone s (exchangeToService c cause s) := by
  unfold exchangeToService
  split
  · rename_i i r e
    obtain ⟨-, hr, -, -⟩ := heldIn_some e
    have hs : MakesNone s (suspendedFor c cause i r s) :=
      .of_set (suspendedFor_pool c cause i r s) fun hn => nomatch hn.symm.trans hr
    exact hs.trans (examine_makesNone c _)
  · exact MakesNone.trans (.of_pool (by simp)) (examine_makesNone c _)

theorem ctxExamine_makesNone (c : Client) (s : State) : MakesNone s (ctxExamine c s) := by
  unfold ctxExamine
  split
  · exact exchangeToService_makesNone c .forced s
  · exact .refl s

theorem lowerScore_makesNone (c : Client) (s : State) : MakesNone s (lowerScore c s) := by
  unfold lowerScore
  split
  · have hs : ∀ n, MakesNone s (scored c n s) := fun n => .of_pool (by simp [scored])
    rcases applyScore_cases c ((s.healthOf c).score - 1) s with e | e | e <;> rw [e]
    · exact .of_pool (by simp)
    · exact hs _
    · exact (hs _).trans (examine_makesNone c _)
  · exact .refl s

theorem withdrawCopy_makesNone (d : Client) (j : RecIndex) (r : Record) (s : State) : MakesNone s (withdrawCopy d j r s) := by
  cases e : r.state with
  | queued =>
    rw [withdrawCopy_queued e]
    exact freeRecord_makesNone j r .other s
  | presented =>
    have hf : MakesNone s (freeRecord j r .other (setAttention d false s)) :=
      MakesNone.trans (.of_pool (by simp)) (freeRecord_makesNone j r .other _)
    have ho : MakesNone s (openGate d (setLastRecalled d (some (s.handleAt j))
        (freeRecord j r .other (setAttention d false s)))) := (hf.framed (by simp)).trans (openGate_makesNone d _)
    rw [withdrawCopy_presented e]
    split
    · exact ho
    · exact ho.framed (by simp)
  | suspended =>
    rw [withdrawCopy_suspended e]
    exact (freeRecord_makesNone j r .other s).framed (by simp)

end MakesNone

/-! ## What the win of a group keeps -/

theorem withdrawFrom_cases (g : GroupNo) (i : RecIndex) (s : State) (d : Client) :
    withdrawFrom g i s d = s ∨ ∃ j r, withdrawFrom g i s d = withdrawCopy d j r s := by
  unfold withdrawFrom
  split
  · exact .inr ⟨_, _, rfl⟩
  · exact .inl rfl

theorem decideGroup_cases (i : RecIndex) (r : Record) (d : Disposition) (s : State) :
    decideGroup i r d s = s ∨ ∃ g x, decideGroup i r d s = winGroup g x i s := by
  unfold decideGroup
  repeat' split
  · exact .inl rfl
  · exact .inr ⟨_, _, rfl⟩
  all_goals exact .inl rfl

/-- What the done field and each withdrawal keep is kept by the decision of a group. -/
theorem decideGroup_keeps_of {P : State → Prop} (hg : ∀ g v u, P u → P (u.setGroup g v))
    (hw : ∀ d j r u, P u → P (withdrawCopy d j r u)) {s : State} (h : P s) (i : RecIndex) (r : Record) (d : Disposition) :
    P (decideGroup i r d s) := by
  rcases decideGroup_cases i r d s with e | ⟨g, x, e⟩ <;> rw [e]
  · exact h
  · refine List.foldlRecOn (motive := P) clients (withdrawFrom g i) (hg g _ s h) fun u hu k _ => ?_
    rcases withdrawFrom_cases g i u k with e | ⟨j, o, e⟩ <;> rw [e]
    · exact hu
    · exact hw k j o u hu

theorem decideGroup_makesNone (i : RecIndex) (r : Record) (d : Disposition) (s : State) :
    MakesNone s (decideGroup i r d s) :=
  decideGroup_keeps_of (P := MakesNone s) (fun _ _ _ h => h.framed rfl)
    (fun k j o u h => h.trans (withdrawCopy_makesNone k j o u)) (.refl s) i r d

/-- A withdrawal leaves a released attention line released. -/
theorem decideGroup_attention {c : Client} {s : State} (h : (s.clientLinesOf c).attention = false) (i : RecIndex) (r : Record)
    (d : Disposition) : ((decideGroup i r d s).clientLinesOf c).attention = false := by
  refine decideGroup_keeps_of (P := fun u => (u.clientLinesOf c).attention = false) (fun _ _ _ hu => hu)
    (fun k j o u hu => ?_) h i r d
  rw [State.clientLinesOf, withdrawCopy_clientLines]
  split
  · rw [setAttention, State.setClientLines_clientLines, Table.get_set]
    split
    · rfl
    · exact hu
  · exact hu

theorem decideGroup_active (i : RecIndex) (r : Record) (d : Disposition) (s : State) (k : Client) :
    ((decideGroup i r d s).contextsOf k).active = (s.contextsOf k).active :=
  decideGroup_keeps_of (P := fun u => (u.contextsOf k).active = (s.contextsOf k).active) (fun _ _ _ hu => hu)
    (fun c j o u hu => (withdrawCopy_active c k j o u).trans hu) rfl i r d

/-! ## The exchange that the end of hold-off may force (R111) -/

theorem enterService_contexts (c : Client) (x : Option Handle) (s : State) : (enterService c x s).contextsOf c =
    { s.contextsOf c with suspended := x, active := .service, holdOff := false, holdOffLeft := 0 } := by
  rw [enterService, State.contextsOf, State.setContexts_contexts, Table.get_set_same]

theorem exchangeToService_holdOff (c : Client) (cause : ContextCause) (s : State) :
    ((exchangeToService c cause s).contextsOf c).holdOff = false := by
  have h : ∀ x t, ((enterService c x t).contextsOf c).holdOff = false := fun x t => by rw [enterService_contexts]
  unfold exchangeToService
  split
  · simpa [State.contextsOf] using h _ _
  · simpa [State.contextsOf] using h _ _

theorem exchangeToService_attention {c : Client} {s : State} (h : (s.clientLinesOf c).attention = false) (cause : ContextCause) :
    ((exchangeToService c cause s).clientLinesOf c).attention = false := by
  unfold exchangeToService
  split
  · rename_i i r _
    have hs : (suspend c i r s).clientLines = (setAttention c false s).clientLines := by simp [suspend, State.setRecord]
    simpa [State.clientLinesOf, hs] using setAttention_same c false s
  · simpa [State.clientLinesOf] using h

theorem ctxExamine_holdOff {c : Client} {s : State} (h : (s.contextsOf c).holdOff = false) :
    ((ctxExamine c s).contextsOf c).holdOff = false := by
  unfold ctxExamine
  split
  · exact exchangeToService_holdOff c .forced s
  · exact h

theorem ctxExamine_attention {c : Client} {s : State} (h : (s.clientLinesOf c).attention = false) :
    ((ctxExamine c s).clientLinesOf c).attention = false := by
  unfold ctxExamine
  split
  · exact exchangeToService_attention h .forced
  · exact h

theorem ackEndsHoldOff_makesNone (c : Client) (s : State) : MakesNone s (ackEndsHoldOff c s) := by
  unfold ackEndsHoldOff
  split
  · exact MakesNone.trans (.of_pool (by simp)) (ctxExamine_makesNone c _)
  · exact .refl s

theorem ackEndsHoldOff_attention {c : Client} {s : State} (h : (s.clientLinesOf c).attention = false) :
    ((ackEndsHoldOff c s).clientLinesOf c).attention = false := by
  unfold ackEndsHoldOff
  split
  · exact ctxExamine_attention h
  · exact h

/-- In OPERATE no hold-off is left. -/
theorem ackEndsHoldOff_holdOff {c : Client} {s : State} (h : (s.contextsOf c).active = .operate) :
    ((ackEndsHoldOff c s).contextsOf c).holdOff = false := by
  unfold ackEndsHoldOff
  split
  · refine ctxExamine_holdOff ?_
    rw [State.contextsOf, State.setContexts_contexts, Table.get_set_same]
  · rename_i hn
    exact Bool.eq_false_iff.2 fun e => hn ⟨h, e⟩

/-! ## The score (R134) -/

theorem applyScore_health (c : Client) (n : Nat) (s : State) :
    (applyScore c n s).health = s.health.set c { s.healthOf c with score := n, health := healthOfScore n } := by
  rcases applyScore_cases c n s with e | e | e <;> rw [e] <;> simp [scored]

theorem lowerScore_score {c : Client} {s : State} (h : s.attached c = true) :
    ((lowerScore c s).healthOf c).score = (s.healthOf c).score - 1 := by
  unfold lowerScore
  rw [if_pos h, State.healthOf, applyScore_health, Table.get_set_same]

theorem lowerScore_others {c k : Client} (h : k ≠ c) (s : State) : (lowerScore c s).healthOf k = s.healthOf k := by
  unfold lowerScore
  split
  · rw [State.healthOf, applyScore_health, Table.get_set_ne _ h]
  · rfl

/-! ## An ACK of the PRESENTED record (R86) -/

section Presented

variable (c : Client) (i : RecIndex) (r : Record) (d : Disposition) (s : State)

/-- The score falls when the record has not expired (R86). -/
def scoreAnswered : State := if r.esc.any Escalation.expired then s else lowerScore c s

/-- The steps of R86 up to the end of the record: the attention line, the group, and the free. -/
def ackFreed : State :=
  freeRecord i r d.cause (decideGroup i r d (setAttention c false s))

theorem ackPresented_eq : ackPresented c i r d s =
    scoreAnswered c r (ackEndsHoldOff c (openGate c (ackFreed c i r d s))) := rfl

theorem scoreAnswered_makesNone : MakesNone s (scoreAnswered c r s) := by
  unfold scoreAnswered
  split
  · exact .refl s
  · exact lowerScore_makesNone c s

theorem scoreAnswered_fields : (scoreAnswered c r s).contexts = s.contexts ∧ (scoreAnswered c r s).clientLines = s.clientLines := by
  unfold scoreAnswered
  split <;> simp

theorem ackFreed_makesNone : MakesNone s (ackFreed c i r d s) :=
  MakesNone.trans (.of_pool (by simp))
    ((decideGroup_makesNone i r d (setAttention c false s)).trans (freeRecord_makesNone i r d.cause _))

theorem ackFreed_record : (ackFreed c i r d s).record i = none := by
  have hh : holding (ackFreed c i r d s) i = none := by rw [ackFreed, freeRecord_holding, if_pos rfl]
  simpa [holding] using hh

/-- The steps after the free make no record. -/
theorem ackPresented_makesNone : MakesNone (ackFreed c i r d s) (ackPresented c i r d s) := by
  rw [ackPresented_eq]
  exact ((openGate_makesNone c _).trans (ackEndsHoldOff_makesNone c _)).trans (scoreAnswered_makesNone c r _)

theorem ackPresented_slot : (ackPresented c i r d s).slot i = ⟨(s.slot i).gen, none⟩ := by
  have hgen := ((ackFreed_makesNone c i r d s).trans (ackPresented_makesNone c i r d s)).gens i
  have hfree := (ackPresented_makesNone c i r d s).free i (ackFreed_record c i r d s)
  rw [← hgen, ← hfree]

theorem ackPresented_attention : ((ackPresented c i r d s).clientLinesOf c).attention = false := by
  have hdecided := decideGroup_attention (setAttention_same c false s) i r d
  rw [ackPresented_eq, State.clientLinesOf, (scoreAnswered_fields c r _).2]
  refine ackEndsHoldOff_attention ?_
  simpa [State.clientLinesOf, ackFreed] using hdecided

theorem ackPresented_holdOff (h : (s.contextsOf c).active = .operate) :
    ((ackPresented c i r d s).contextsOf c).holdOff = false := by
  have hactive : ((decideGroup i r d (setAttention c false s)).contextsOf c).active = .operate :=
    (decideGroup_active i r d _ c).trans (by simpa [State.contextsOf] using h)
  rw [ackPresented_eq, State.contextsOf, (scoreAnswered_fields c r _).1]
  refine ackEndsHoldOff_holdOff ?_
  simpa [State.contextsOf, ackFreed] using hactive

theorem ackAnswered_health : (ackEndsHoldOff c (openGate c (ackFreed c i r d s))).health = s.health := by simp [ackFreed]

theorem expired_iff : r.esc.any Escalation.expired = true ↔ ∃ e, r.esc = some e ∧ e.expired = true :=
  Option.any_eq_true _ _

theorem ackPresented_score (ha : s.attached c = true) : ((ackPresented c i r d s).healthOf c).score =
    (s.healthOf c).score - if ∃ e, r.esc = some e ∧ e.expired = true then 0 else 1 := by
  have hh := ackAnswered_health c i r d s
  rw [ackPresented_eq, scoreAnswered]
  by_cases hx : ∃ e, r.esc = some e ∧ e.expired = true
  · rw [if_pos ((expired_iff r).2 hx), if_pos hx, State.healthOf, hh]
    rfl
  · rw [if_neg fun e => hx ((expired_iff r).1 e), if_neg hx, lowerScore_score ((attached_of_health hh c).trans ha),
      State.healthOf, hh]

theorem ackPresented_otherHealth {k : Client} (hk : k ≠ c) : (ackPresented c i r d s).healthOf k = s.healthOf k := by
  have hh := ackAnswered_health c i r d s
  rw [ackPresented_eq, scoreAnswered]
  split
  · rw [State.healthOf, hh]
  · rw [lowerScore_others hk, State.healthOf, hh]

theorem ackPresented_untouched : Untouched s (ackPresented c i r d s) := by simp [Untouched]

end Presented

/-! ## An ACK of the SUSPENDED record (R87, R106) -/

theorem ackSuspended_undecided {r : Record} {d : Disposition} (h : r.mode = .each ∨ d = .decline) (c : Client) (i : RecIndex)
    (s : State) : ackSuspended c i r d s = clearSuspended c (freeRecord i r d.cause s) := by
  unfold ackSuspended
  rw [decideGroup_undecided h]

theorem release_of_not_queued {r : Record} (h : r.state ≠ .queued) (i : RecIndex) (s : State) :
    (release i r s).queues = s.queues := by
  rw [release_eq, if_neg h]
  rfl

theorem ackSuspended_untouched (c : Client) (i : RecIndex) (r : Record) (d : Disposition) (s : State) :
    Untouched s (ackSuspended c i r d s) := by simp [Untouched]

/-! ## The statement -/

theorem expired_map_iff (r : Record) : r.esc.map Escalation.expired = some true ↔ r.esc.any Escalation.expired = true := by
  rw [expired_iff, Option.map_eq_some_iff]

/-- Settles O23: what the two ACKs leave, and their steps by R86, R87 and R90. -/
theorem ackFreesTheNamedRecord : Obligations.AckFreesTheNamedRecord := by
  refine ⟨fun c h r d u hn ha => ?_, fun c h r d u hn hm hd => ?_,
    fun c i r d s w x y => ⟨fun hw hx hy => ?_, fun hw => ?_⟩,
    fun i r d s => ⟨decideGroup_undecided, fun g hm => ⟨fun hg => decideGroup_unformed hm hg d,
      fun x hg => ⟨fun hd => decideGroup_done hm hg hd d, decideGroup_open hm hg⟩⟩⟩,
    fun g i d s => ⟨withdrawFrom_none, fun j r => withdrawFrom_lowest⟩⟩
  · obtain ⟨hgen, -, -, -⟩ := namedRecord_some hn
    exact ⟨hgen ▸ ackPresented_slot c h.index r d u, ackPresented_attention c h.index r d u,
      ackPresented_holdOff c h.index r d u, ackPresented_score c h.index r d u ha,
      ((ackFreed_makesNone c h.index r d u).trans (ackPresented_makesNone c h.index r d u)).free,
      fun k => ackPresented_otherHealth c h.index r d u, by simp, ackPresented_untouched c h.index r d u⟩
  · obtain ⟨hgen, -, -, hstate⟩ := namedRecord_some hn
    obtain ⟨hpool, hqueues, hpresentation, -⟩ := freeRecord_awake hm h.index r d.cause
    have hq : (release h.index r u).queues = u.queues := release_of_not_queued (by rw [hstate]; nofun) h.index u
    have huntouched := ackSuspended_untouched c h.index r d u
    rw [ackSuspended_undecided hd] at huntouched ⊢
    refine ⟨?_, ?_, by simpa using hpresentation, by simp, by simpa [hq] using hqueues, fun j hj => ?_, by simp, by simp,
      huntouched⟩
    · simp [State.slot, hpool, ← hgen]
    · simp [State.contextsOf, clearSuspended]
    · simp [State.slot, hpool, Table.get_set_ne _ hj]
  · have hfreed : w = ackFreed c i r d s := by rw [hw]; cases d <;> rfl
    have hscore : ackPresented c i r d s = scoreAnswered c r y := by
      subst hfreed hx hy
      exact ackPresented_eq c i r d s
    rw [hscore, scoreAnswered]
    simp only [expired_map_iff]
  · have hfreed : w = freeRecord i r d.cause (decideGroup i r d s) := by rw [hw]; cases d <;> rfl
    rw [hfreed]
    rfl

end Sys2Proof.Laws
end

section
/-! PROOF. Contexts and exchange: the exchange to SERVICE with its suspension (R103, R104), the exchange to OPERATE with its resumption
(R105, R112, R155), the requests CONTEXT_SET, TIMER_SET and EXCHANGE (R99, R101, R102), and the forced exchange (R108 to R111). -/

namespace Sys2Proof.Laws

open Sys2Proof.Machine Sys2Proof.Safety

section Exchanges

variable {c : Client} {i : RecIndex} {r : Record} {s : State}

/-! ## The exchange to SERVICE (R103, R104) -/

theorem exchangeToService_of_none (h : presentedOf s c = none) (cause : ContextCause) : exchangeToService c cause s =
    examine c (placeHubFrame c (.context .service cause none) (enterService c none s)) := by
  unfold exchangeToService
  rw [heldIn_none h]

theorem exchangeToService_of_some (h : presentedOf s c = some i) (hr : s.record i = some r) (cause : ContextCause) :
    exchangeToService c cause s = examine c (suspendedFor c cause i r s) := by
  unfold exchangeToService
  rw [heldIn_of h hr]
  rfl

theorem suspend_eq (c : Client) (i : RecIndex) (r : Record) (s : State) : suspend c i r s =
    ((s.setClientLines c { s.clientLinesOf c with attention := false }).setSlot i
      ⟨(s.slot i).gen, some { r with state := .suspended }⟩).setLink c
      { s.link c with hub := (s.link c).hub.filter fun f => !f.delivers ⟨i, (s.slot i).gen⟩ } := rfl

/-- The gate opens last: no earlier step of a suspension writes it. -/
theorem suspendedFor_eq (c : Client) (cause : ContextCause) (i : RecIndex) (r : Record) (s : State) :
    suspendedFor c cause i r s =
      (placeHubFrame c (.context .service cause (some ⟨i, (s.slot i).gen⟩)) ((suspend c i r s).setContexts c
        { s.contextsOf c with
          suspended := some ⟨i, (s.slot i).gen⟩, active := .service, holdOff := false, holdOffLeft := 0 })).setPresentation c
        { s.presentationOf c with gateOpen := true } := rfl

/-- The suspended handle after the exchange names the record that was PRESENTED (R103; log entry 15). -/
theorem exchangeToService_suspended (c : Client) (cause : ContextCause) (s : State) :
    ((exchangeToService c cause s).contextsOf c).suspended = (presentedOf s c).map s.handleAt := by
  cases h : presentedOf s c with
  | none =>
    have hentered := enterService_contexts c none s
    rw [exchangeToService_of_none h]
    simpa [State.contextsOf] using congrArg ClientContexts.suspended hentered
  | some i =>
    obtain ⟨r, hr, -⟩ := roleAt_eq_some.1 (recordIn_roleAt h)
    have hseen := suspendedFor_seen c cause i r s c
    rw [if_pos rfl] at hseen
    rw [exchangeToService_of_some h hr]
    simpa [State.contextsOf, seen] using congrArg Seen.suspended hseen

/-! ## The exchange to OPERATE (R105, R112, R155) -/

/-- Steps 1 and 2 of R105: a hold-off time of 0 starts no hold-off (R112). -/
theorem startHoldOff_enterOperate (c : Client) (s : State) : startHoldOff c (enterOperate c s) =
    s.setContexts c { s.contextsOf c with
      active := .operate
      holdOff := (s.contextsOf c).holdOff || (s.contextsOf c).holdOffTime ≠ 0
      holdOffLeft := if (s.contextsOf c).holdOffTime = 0 then (s.contextsOf c).holdOffLeft
        else (s.contextsOf c).holdOffTime } := by
  have hentered : (enterOperate c s).contextsOf c = { s.contextsOf c with active := .operate } := by
    simp [State.contextsOf, enterOperate]
  unfold startHoldOff
  rw [hentered]
  by_cases h : (s.contextsOf c).holdOffTime = 0
  · simp [h, enterOperate]
  · simp [h, enterOperate]

theorem returnFlags_eq (c : Client) (r : Record) (s : State) : returnFlags c r s =
    s.setPosts c { s.postsOf c with
      pendingFlags := (s.postsOf c).pendingFlags ||| if r.key.source = 41 then r.flags else 0 } := by
  unfold returnFlags
  by_cases h : r.key.source = 41
  · rw [if_pos ((isSignal_iff _).2 h), if_pos h]
    rfl
  · rw [if_neg fun e => h ((isSignal_iff _).1 e), if_neg h, show (s.postsOf c).pendingFlags ||| 0 = _ from BitVec.or_zero]
    exact (setPosts_self s c).symm

theorem resume_of_none (h : suspendedOf s c = none) : resume c s = s := by
  unfold resume
  rw [heldIn_none h]

theorem resume_of_some (h : suspendedOf s c = some i) (hr : s.record i = some r) : resume c s =
    clearSuspended c (placeAtFront i { r with state := .queued, resumed := true, flags := 0 } (returnFlags c r s)) := by
  unfold resume
  rw [heldIn_of h hr]

theorem exchangeToOperate_eq (c : Client) (s : State) : exchangeToOperate c s =
    ctxExamine c (examine c (placeHubFrame c (.context .operate .request none)
      (resume c (startHoldOff c (enterOperate c s))))) := rfl

end Exchanges

/-- Settles O29: each exchange by whether it finds a record held, PRESENTED or SUSPENDED. -/
theorem exchangesChangeTheContext : Obligations.ExchangesChangeTheContext := by
  refine ⟨fun c cause s => ⟨fun h => exchangeToService_of_none h cause, fun i r v h hr hv => ?_⟩, fun c s v hv => ?_⟩
  · rw [exchangeToService_of_some h hr, suspendedFor_eq, suspend_eq, ← hv]
  · have hsuspended : suspendedOf v c = suspendedOf s c := by rw [hv]; rfl
    have hposts : v.postsOf c = s.postsOf c := by rw [hv]; rfl
    rw [exchangeToOperate_eq, startHoldOff_enterOperate, ← hv]
    refine ⟨fun h => ?_, fun i r w h hr hw => ?_⟩
    · rw [resume_of_none (hsuspended.trans h)]
    · have hrecord : v.record i = some r := by rw [hv]; exact hr
      rw [resume_of_some (hsuspended.trans h) hrecord, returnFlags_eq, hposts, ← hw]
      rfl

/-! ## CONTEXT_SET and TIMER_SET (R99, R101) -/

/-- A request whose payload reads is refused only to a client that is not attached (R140). -/
theorem outcomeOf_attended_some {α : Type} (c : Client) (q : Request) (u : State) {fields : Option α} {x : α}
    (h : fields = some x) (rest : α → Answer) :
    outcomeOf c q (withFields fields u fun y => whileAttached c u (rest y)) =
      judged c q u [(!u.attached c, .detached)] (outcomeOf c q (rest x)) := by
  rw [h, outcomeOf_withFields_some, outcomeOf_whileAttached, judged_cons, judged_nil]
  cases u.attached c <;> rfl

section Requests

variable {s u : State} {c : Client} {a : Arrival} {q : Request}

theorem exec_contextSet (ht : Takes s c .contextSet a q u) : exec (.contextSet c a) s = .next (outcomeOf c q
    (withFields (parseContextSet q.payload) u fun p => whileAttached c u (accept (setFilter c p.1 p.2.1 p.2.2 u)))) :=
  congrArg Host.Outcome.next (serve_of_takes (ruleContextSet c) ht)

theorem exec_timerSet (ht : Takes s c .timerSet a q u) : exec (.timerSet c a) s = .next (outcomeOf c q
    (withFields (parseTimerSet q.payload) u fun p =>
      whileAttached c u (setTimer c p.1 p.2 u, .ok, be24 ((u.contextsOf c).get p.1).left))) :=
  congrArg Host.Outcome.next (serve_of_takes (ruleTimerSet c) ht)

theorem exec_exchange (ht : Takes s c .exchange a q u) : exec (.exchange c a) s = .next (outcomeOf c q
    (withFields (parseExchange q.payload) u fun k => whileAttached c u (exchange c k u))) :=
  congrArg Host.Outcome.next (serve_of_takes (ruleExchange c) ht)

end Requests

/-- The examinations of R99, on the state in which the class set and the threshold stand: which context is active is as before. -/
theorem setFilter_eq {c : Client} {k : ContextName} {classes : FlagSet} {p : Priority} {u v : State}
    (hv : v = u.setContexts c ((u.contextsOf c).set k
      { (u.contextsOf c).get k with classes := classes, threshold := p })) :
    setFilter c k classes p u = ctxExamine c (if (u.contextsOf c).active = k then examine c v else v) := by
  have hactive : (v.contextsOf c).active = (u.contextsOf c).active := by
    rw [hv, State.contextsOf, State.setContexts_contexts, Table.get_set_same, active_set]
  unfold setFilter
  dsimp only
  rw [← hv, hactive]

/-- Settles O27: each request by whether its payload reads. -/
theorem contextAndTimerSettings : Obligations.ContextAndTimerSettings := by
  refine ⟨fun s u c a q ht => ⟨fun hq => ?_, fun k classes p v hq hv => ?_⟩,
    fun s u c a q ht => ⟨fun hq => ?_, fun k x hx hq => ?_⟩⟩
  · rw [exec_contextSet ht, outcomeOf_fields_none c q u fun x hx =>
      hq x.1 x.2.1 x.2.2 ((parseContextSet_eq q.payload x.1 x.2.1 x.2.2).1 hx)]
  · rw [exec_contextSet ht, outcomeOf_attended_some c q u ((parseContextSet_eq q.payload k classes p).2 hq),
      outcomeOf_accept, setFilter_eq hv]
  · rw [exec_timerSet ht, outcomeOf_fields_none c q u fun x hx => by
      obtain ⟨hallowed, hbytes⟩ := (parseTimerSet_eq q.payload x.1 x.2).1 hx
      exact hq x.1 x.2 hallowed hbytes]
  · rw [exec_timerSet ht, outcomeOf_attended_some c q u ((parseTimerSet_eq q.payload k x).2 ⟨hx, hq⟩), outcomeOf_mk]
    rfl

/-! ## EXCHANGE (R102) -/

section Exchange

variable {c : Client} {k : ContextName} {u : State}

theorem exchange_same (h : (u.contextsOf c).active = k) : exchange c k u = refuse .same u := if_pos h

theorem exchange_service (h : (u.contextsOf c).active = .operate) : exchange c .service u =
    (exchangeToService c .request u, .ok, 1 :: handleBytes ((presentedOf u c).map u.handleAt)) := by
  unfold exchange
  rw [if_neg (by rw [h]; nofun)]
  dsimp only
  rw [exchangeToService_suspended]
  rfl

theorem exchange_operate (h : (u.contextsOf c).active = .service) : exchange c .operate u =
    if (presentedOf u c).isSome then refuse .busy u else (exchangeToOperate c u, .ok, [0, 255, 255]) := by
  unfold exchange
  rw [if_neg (by rw [h]; nofun)]
  rfl

end Exchange

theorem parseExchange_ne {p : List Byte} (h0 : p ≠ [0]) (h1 : p ≠ [1]) (k : ContextName) : parseExchange p ≠ some k := fun e => by
  have hbytes := (parseExchange_eq p k).1 e
  cases k
  · exact h0 hbytes
  · exact h1 hbytes

theorem parseExchange_reads {p : List Byte} (h : p = [0] ∨ p = [1]) : ∃ k, parseExchange p = some k := by
  rcases h with h | h
  · exact ⟨.operate, (parseExchange_eq p .operate).2 h⟩
  · exact ⟨.service, (parseExchange_eq p .service).2 h⟩

/-- An EXCHANGE that passes its checks is answered by the table of R102. -/
theorem exec_exchange_attached {s u : State} {c : Client} {a : Arrival} {q : Request} (ht : Takes s c .exchange a q u)
    (ha : u.attached c = true) {k : ContextName} (hq : q.payload = [byte (contextCode k)]) :
    exec (.exchange c a) s = .next (outcomeOf c q (exchange c k u)) := by
  rw [exec_exchange ht, outcomeOf_attended_some c q u ((parseExchange_eq q.payload k).2 hq), ha]
  rfl

/-! ## The forced exchange (R108 to R110) -/

theorem ctxExamine_forced {c : Client} {s : State} (h : Forced s c) : ctxExamine c s = exchangeToService c .forced s :=
  if_pos ((forcedCondition_iff s c).2 h)

theorem ctxExamine_unforced {c : Client} {s : State} (h : ¬ Forced s c) : ctxExamine c s = s :=
  if_neg fun e => h ((forcedCondition_iff s c).1 e)

/-- Settles O28: EXCHANGE by its checks and the rows of R102, CTX by the forced-exchange condition, and the expiry of hold-off at its
due moment. -/
theorem exchangeByRequestOrForced : Obligations.ExchangeByRequestOrForced := by
  refine ⟨fun s u c a q ht => ⟨fun h0 h1 => ?_, fun hq ha => ?_, fun ha =>
      ⟨fun hq hactive => ?_, fun hq hactive => ?_, fun hq hactive => ?_, fun hq hactive hp => ?_, fun hq hactive hp => ?_⟩⟩,
    fun c s => ⟨ctxExamine_forced, ctxExamine_unforced⟩, fun c s u => next_expiryCommand_of_due⟩
  · rw [exec_exchange ht, outcomeOf_fields_none c q u (parseExchange_ne h0 h1)]
  · obtain ⟨k, hk⟩ := parseExchange_reads hq
    rw [exec_exchange ht, outcomeOf_attended_some c q u hk, ha]
    rfl
  · rw [exec_exchange_attached ht ha (k := .operate) hq, exchange_same hactive, outcomeOf_refuse]
  · rw [exec_exchange_attached ht ha (k := .service) hq, exchange_same hactive, outcomeOf_refuse]
  · rw [exec_exchange_attached ht ha (k := .service) hq, exchange_service hactive, outcomeOf_mk]
  · rw [exec_exchange_attached ht ha (k := .operate) hq, exchange_operate hactive, if_pos hp, outcomeOf_refuse]
  · rw [exec_exchange_attached ht ha (k := .operate) hq, exchange_operate hactive, hp]
    rfl

end Sys2Proof.Laws
end

section
/-! PROOF. The board resets that the reset input, an escalation or RESET_HUB takes (R126, R175 to R177; log entries 8 and 35). -/

namespace Sys2Proof.Laws

open Sys2Proof.Machine Sys2Proof.Safety

/-- A reset of the hub gives every item its value (R175). -/
theorem freshHub_hubReset (pins : PinLevels) (raw : LineNo → Bool) (output : Bool) (outputLeft : Nat) (cause : CauseRecord)
    (note : BitVec 32) (resetInput : Bool) (pending : List Instr) :
    FreshHub pins raw cause note output outputLeft
      (hubReset pins raw (boardLinesAtReset output outputLeft) cause note resetInput pending) := by
  have line : ∀ l, (hubReset pins raw (boardLinesAtReset output outputLeft) cause note resetInput pending).line l =
      lineAtReset pins.now.lineDef l (raw l) := fun l => Table.get_build ..
  have posts : ∀ c, (hubReset pins raw (boardLinesAtReset output outputLeft) cause note resetInput pending).postsOf c =
      postsAtReset := fun c => Table.get_const ..
  refine ⟨rfl, fun l => ?_, fun _ => Table.get_const .., rfl, fun _ => Table.get_const .., rfl, rfl,
    fun _ => Table.get_const .., fun _ => Table.get_const .., fun _ => Table.get_const .., fun _ => Table.get_const ..,
    fun _ => Table.get_const .., fun _ => Table.get_const .., fun _ => Table.get_const .., fun _ => Table.get_const ..,
    rfl, rfl, rfl, rfl, fun _ => Table.get_const .., rfl, fun _ => Table.get_const .., fun c n => ?_, fun c => ?_, rfl,
    rfl, rfl, rfl, rfl, rfl, rfl, rfl, fun c => Table.get_build .., fun c => ?_⟩
  · rw [line]
    cases pins.now.lineDef <;> rfl
  · rw [posts]
    exact Table.get_const ..
  · rw [posts]
    exact ⟨rfl, rfl, rfl⟩
  · rw [hubReset_link]
    exact ⟨rfl, rfl, rfl, rfl, rfl, rfl, rfl, rfl⟩

theorem boardLinesAfter_eq (k : CauseKind) (b : BoardLines) : boardLinesAfter k b =
    boardLinesAtReset (k = .escalation || b.output) (if k = .escalation then 20 else b.outputLeft) := by
  unfold boardLinesAfter
  by_cases h : k = .escalation
  · simp [h, Config.outputPulseMs]
  · simp [h]

/-- A board reset keeps the note and the raw levels, counts itself, and asserts the output when it comes from escalation (R126, R175,
R177). -/
theorem freshHub_boardResetWith (pins : PinLevels) (k : CauseKind) (c : Option Client) (s : State) :
    FreshHub pins (fun l => (s.line l).raw) ⟨k, c, min 255 (s.sup.cause.count + 1)⟩ s.sup.note
      (k = .escalation || s.board.output) (if k = .escalation then 20 else s.board.outputLeft)
      (boardResetWith pins k c s) := by
  unfold boardResetWith
  rw [boardLinesAfter_eq]
  exact freshHub_hubReset ..

/-- The passage of the reset input to asserted, while the board-reset output is released (R176). -/
theorem assertResetInput_passage {s : State} (hi : s.sup.resetInput = false) (ho : s.board.output = false) (pins : PinLevels) :
    assertResetInput pins s =
      boardResetWith pins .pin none (s.setSup { s.sup with pins := pins, resetInput := true }) := by
  simp [assertResetInput, hi, ho]

theorem assertResetInput_disregarded {s : State} (h : s.sup.resetInput = true ∨ s.board.output = true) (pins : PinLevels) :
    assertResetInput pins s = s.setSup { s.sup with pins := pins, resetInput := true } :=
  if_pos (by simpa using h)

theorem exec_resetInputAsserted (pins : PinLevels) (s : State) :
    exec (.resetInputAsserted pins) s = .next (settle (assertResetInput pins s)) := rfl

/-- Settles O4: the reset input by its level and the output's, the board reset by the values of a fresh hub. -/
theorem resetInputTakesABoardReset : Obligations.ResetInputTakesABoardReset := by
  refine ⟨fun pins s => ⟨fun hi ho => ?_, fun h => ?_, rfl⟩, fun k c s => ⟨freshHub_boardResetWith .., rfl, rfl⟩⟩
  · have hfresh : FreshHub pins (fun l => (s.line l).raw) ⟨.pin, none, min 255 (s.sup.cause.count + 1)⟩ s.sup.note
        s.board.output s.board.outputLeft
        (boardResetWith pins .pin none (s.setSup { s.sup with pins := pins, resetInput := true })) :=
      freshHub_boardResetWith ..
    rw [ho] at hfresh
    refine ⟨_, ?_, hfresh, rfl, rfl⟩
    rw [exec_resetInputAsserted, assertResetInput_passage hi ho, boardResetWith, settle_hubReset]
  · rw [exec_resetInputAsserted, assertResetInput_disregarded h]

end Sys2Proof.Laws
end

section
/-! PROOF. PROFILE_SET, PROFILE_READ and CLIENT_SET (R118, R119, R167). -/

namespace Sys2Proof.Laws

open Sys2Proof.Machine Sys2Proof.Safety

section Settings

variable {s u : State} {c : Client} {a : Arrival} {q : Request}

theorem exec_profileSet (ht : Takes s c .profileSet a q u) : exec (.profileSet c a) s = .next (outcomeOf c q
    (configure c (parseProfileSet q.payload) u fun p => accept (u.setProfile p.1 p.2))) :=
  congrArg Host.Outcome.next (serve_of_takes (ruleProfileSet c) ht)

theorem exec_profileRead (ht : Takes s c .profileRead a q u) : exec (.profileRead c a) s = .next (outcomeOf c q
    (withFields (parseIndex 4 q.payload) u fun p => whileAttached c u (u, .ok, profileReadFields (u.profiles.get p)))) :=
  congrArg Host.Outcome.next (serve_of_takes (ruleProfileRead c) ht)

theorem exec_clientSet (ht : Takes s c .clientSet a q u) : exec (.clientSet c a) s = .next (outcomeOf c q
    (configure c (parseClientSet u.sup.straps.supsel q.payload) u fun f => accept (setClient f u))) :=
  congrArg Host.Outcome.next (serve_of_takes (ruleClientSet c) ht)

theorem parseProfileSet_eq_none {p : List Byte} (h : ∀ n x, x.deadline ≤ 65535 → p ≠ profileSetBytes n x) :
    parseProfileSet p = none := Option.eq_none_iff_forall_ne_some.2 fun y hy => by
  obtain ⟨hx, hp⟩ := (parseProfileSet_eq p y.1 y.2).1 hy
  exact h y.1 y.2 hx hp

theorem parseClientSet_eq_none {sup : Client} {p : List Byte} (h : ∀ f, ClientSettable sup f → p ≠ clientSetBytes f) :
    parseClientSet sup p = none := Option.eq_none_iff_forall_ne_some.2 fun f hf => by
  obtain ⟨hs, hp⟩ := (parseClientSet_eq sup p f).1 hf
  exact h f hs hp

end Settings

/-- CLIENT_SET replaces the five settings of the client it names, and they alone (R167). -/
theorem setClient_eq (f : ClientSetFields) (u : State) : setClient f u =
    (((u.setSup { u.sup with privileges := u.sup.privileges.set f.client f.privileges }).setContexts f.client
      { u.contextsOf f.client with holdOffTime := f.holdOffTime }).setClientLines f.client
      { u.clientLinesOf f.client with pulseWidth := f.pulseWidth }).setPosts f.client
      { u.postsOf f.client with postProfile := f.postProfile, signalProfile := f.signalProfile } := rfl

/-- Settles O49: each request by whether its payload reads, and by the checks of its rule in their order. -/
theorem profilesAndClientSettings : Obligations.ProfilesAndClientSettings := by
  refine ⟨⟨fun s u c a q ht => ⟨fun p x hx hq => ?_, fun hq => ?_⟩, fun s u c a q ht => ⟨fun p hq => ?_, fun hq => ?_⟩⟩,
    fun s u c a q ht => ⟨fun f hf hq => ?_, fun hq => ?_⟩⟩
  · rw [exec_profileSet ht, outcomeOf_configure_some c q u ((parseProfileSet_eq q.payload p x).2 ⟨hx, hq⟩), outcomeOf_accept]
  · rw [exec_profileSet ht, outcomeOf_configure_none c q u (parseProfileSet_eq_none hq)]
  · rw [exec_profileRead ht, outcomeOf_read_some c q u ((parseIndex_eq (by omega) q.payload p).2 hq)]
    rfl
  · rw [exec_profileRead ht, outcomeOf_fields_none c q u (parseIndex_ne (by omega) hq)]
  · rw [exec_clientSet ht, outcomeOf_configure_some c q u ((parseClientSet_eq _ q.payload f).2 ⟨hf, hq⟩), outcomeOf_accept,
      setClient_eq]
  · rw [exec_clientSet ht, outcomeOf_configure_none c q u (parseClientSet_eq_none hq)]

end Sys2Proof.Laws
end

section
/-! PROOF. FORCE: ATTACH, DETACH and RESET of another client (R130, R144; log entry 7). -/

namespace Sys2Proof.Laws

open Sys2Proof.Machine Sys2Proof.Safety

variable {s u : State} {c : Client} {a : Arrival} {q : Request}

/-! ## The row that takes a FORCE request -/

theorem forceNames_of_operation (op : Byte) (rest : List Byte) : forceNames op (op :: rest) = true := by simp [forceNames]

/-- A malformed FORCE belongs to each row that its operation byte does not rule out (log entry 7). -/
theorem forceNames_of_malformed {op : Byte} {p : List Byte} (h : p = [] ∨ ∃ b rest, p = b :: rest ∧ (b = op ∨ 2 < b.toNat)) :
    forceNames op p = true := by
  rcases h with rfl | ⟨b, rest, rfl, hb⟩
  · rfl
  · simpa [forceNames] using hb

theorem exec_forceAttach (ht : Takes s c .force a q u) (hn : forceNames 0 q.payload = true) :
    exec (.forceAttach c a) s = .next (outcomeOf c q (withPrivilege .control c u <|
      withFields (parseForceAttach q.payload) u fun d => whileAttached c u (forceAttach d u))) :=
  congrArg Host.Outcome.next (serveForce_of_takes (ruleForceAttach c) ht hn)

theorem exec_forceDetach (ht : Takes s c .force a q u) (hn : forceNames 1 q.payload = true) :
    exec (.forceDetach c a) s = .next (outcomeOf c q (withPrivilege .control c u <|
      withFields (parseForceDetach u.sup.straps.supsel q.payload) u fun d => whileAttached c u (forceDetach d u))) :=
  congrArg Host.Outcome.next (serveForce_of_takes (ruleForceDetach c) ht hn)

theorem exec_forceReset (ht : Takes s c .force a q u) (hn : forceNames 2 q.payload = true) :
    exec (.forceReset c a) s = .next (outcomeOf c q (withPrivilege .control c u <|
      withFields (parseForceReset c q.payload) u fun d => whileAttached c u (accept (clientReset d .forced u)))) :=
  congrArg Host.Outcome.next (serveForce_of_takes (ruleForceReset c) ht hn)

/-! ## The checks of R130 and R144 -/

theorem outcomeOf_force_some {α : Type} (c : Client) (q : Request) (u : State) {fields : Option α} {x : α}
    (h : fields = some x) (rest : α → Answer) :
    outcomeOf c q (withPrivilege .control c u <| withFields fields u fun y => whileAttached c u (rest y)) =
      judged c q u [(!holds u c .control, .denied), (!u.attached c, .detached)] (outcomeOf c q (rest x)) := by
  rw [h, outcomeOf_withPrivilege, outcomeOf_withFields_some, outcomeOf_whileAttached]
  simp only [judged_cons, judged_nil]
  cases holds u c .control
  · rfl
  · cases u.attached c <;> rfl

theorem outcomeOf_force_none {α : Type} (c : Client) (q : Request) (u : State) {fields : Option α}
    (h : ∀ x, fields ≠ some x) (rest : α → Answer) :
    outcomeOf c q (withPrivilege .control c u <| withFields fields u rest) =
      judged c q u [(!holds u c .control, .denied)] (replied c q .badField [] u) := by
  rw [outcomeOf_withPrivilege, outcomeOf_fields_none c q u h, judged_cons, judged_nil]
  cases holds u c .control <;> rfl

theorem outcomeOf_forceAttach (c : Client) (q : Request) (d : Client) (u : State) : outcomeOf c q (forceAttach d u) =
    judged c q u [(u.attached d, .notDetached)] (replied c q .ok [] (completeRejoin d u)) := by
  unfold forceAttach
  rw [judged_cons, judged_nil]
  split <;> rfl

theorem outcomeOf_forceDetach (c : Client) (q : Request) (d : Client) (u : State) : outcomeOf c q (forceDetach d u) =
    judged c q u [(!u.attached d, .same)] (replied c q .ok [] (detach d u)) := by
  unfold forceDetach
  rw [judged_cons, judged_nil]
  cases u.attached d
  · simp [outcomeOf_refuse]
  · simp [outcomeOf_accept]

theorem completeRejoin_eq (d : Client) (u : State) : completeRejoin d u =
    examine d (ctxExamine d (offerNotice .health (16 * d.val) (u.setHealth d ⟨0, .healthy, 0, 0⟩))) := rfl

/-- A client reset with the board reset of a pending RESET_HUB whose reply it discards (R178). -/
theorem clientReset_eq (d : Client) (cause : ResetCause) (u : State) : clientReset d cause u =
    if u.sup.resetPending = some d then boardReset .request (some d) (clientResetSteps d cause u)
    else clientResetSteps d cause u := rfl

/-- Settles O39: each row by what the payload names, and by the checks in their order. -/
theorem forceActsOnAnotherClient : Obligations.ForceActsOnAnotherClient := by
  refine ⟨fun s u c a q ht => ⟨fun d hq => ?_, fun d hd hq => ?_, fun hm hq => ?_, fun hm hq => ?_⟩,
    fun s u c a q ht => ⟨fun d hd hq => ?_, fun hm hq => ?_⟩⟩
  · rw [exec_forceAttach ht (hq ▸ forceNames_of_operation ..),
      outcomeOf_force_some c q u ((parseForceAttach_eq q.payload d).2 hq), outcomeOf_forceAttach, completeRejoin_eq,
      ← judged_append]
    rfl
  · rw [exec_forceDetach ht (hq ▸ forceNames_of_operation ..),
      outcomeOf_force_some c q u ((parseForceDetach_eq _ q.payload d).2 ⟨hd, hq⟩), outcomeOf_forceDetach, ← judged_append]
    rfl
  · rw [exec_forceAttach ht (forceNames_of_malformed hm),
      outcomeOf_force_none c q u fun d e => hq d ((parseForceAttach_eq q.payload d).1 e)]
  · rw [exec_forceDetach ht (forceNames_of_malformed hm), outcomeOf_force_none c q u fun d e => ?_]
    obtain ⟨hd, hp⟩ := (parseForceDetach_eq _ q.payload d).1 e
    exact hq d hd hp
  · rw [exec_forceReset ht (hq ▸ forceNames_of_operation ..),
      outcomeOf_force_some c q u ((parseForceReset_eq c q.payload d).2 ⟨hd, hq⟩), outcomeOf_accept, clientReset_eq]
  · rw [exec_forceReset ht (forceNames_of_malformed hm), outcomeOf_force_none c q u fun d e => ?_]
    obtain ⟨hd, hp⟩ := (parseForceReset_eq c q.payload d).1 e
    exact hq d hd hp

end Sys2Proof.Laws
end

section
/-! PROOF. The expiries of a stage (R122, R123): the deadline's charge, notices and action, and the client reset of the delay. -/

namespace Sys2Proof.Laws

open Sys2Proof.Machine Sys2Proof.Safety

variable {c : Client} {i : RecIndex} {r : Record} {e : Escalation} {s u v : State}

/-! ## The expiry commands -/

theorem next_deadlineExpiry_of_due (h : Due (.stage c) s) (hst : (escOf s c).map Escalation.stage = some .deadline)
    (hu : u = marked (.stage c) (moment s)) : exec (.deadlineExpiry c) s = .next (settle (stageExpires c u)) := by
  rw [exec_deadlineExpiry, if_pos hst]
  exact next_expiryCommand_of_due h hu

theorem next_delayExpiry_of_due (h : Due (.stage c) s) (hst : (escOf s c).map Escalation.stage = some .delay)
    (hu : u = marked (.stage c) (moment s)) : exec (.delayExpiry c) s = .next (settle (stageExpires c u)) := by
  rw [exec_delayExpiry, if_pos hst]
  exact next_expiryCommand_of_due h hu

theorem stageExpires_deadline (hheld : heldIn u c .presented = some (i, r)) (he : r.esc = some e) (hst : e.stage = .deadline) :
    stageExpires c u = deadlineExpires c i r u := by
  simp only [stageExpires, hheld, he, Option.map_some, hst]

theorem stageExpires_delay (hheld : heldIn u c .presented = some (i, r)) (he : r.esc = some e) (hst : e.stage = .delay) :
    stageExpires c u = clientReset c .escalation u := by
  simp only [stageExpires, hheld, he, Option.map_some, hst, delayExpires]

/-! ## The charge (R122, R134) -/

theorem raiseScore_stays {n : Nat} (ha : v.attached c = true) (hn : (v.healthOf c).score + n ≤ 255) :
    raiseScore c n v = (applyScore c ((v.healthOf c).score + n) v, false) := by
  unfold raiseScore
  rw [if_pos ha, if_pos hn]

theorem raiseScore_detaches {n : Nat} (ha : v.attached c = true) (hn : 255 < (v.healthOf c).score + n) :
    raiseScore c n v = (beginDetach c v, true) := by
  unfold raiseScore
  rw [if_pos ha, if_neg (by omega)]

theorem beginDetach_eq (c : Client) (v : State) :
    beginDetach c v = offerNotice .health (16 * c.val + 3) (v.setHealth c ⟨255, .detached, 0, 0⟩) := rfl

theorem expiredRecord_eq (he : r.esc = some e) :
    expiredRecord r = { r with esc := some { e with left := 0, expired := true } } := by
  rw [expiredRecord, he]
  rfl

/-! ## The action (R122) -/

theorem takeAction_expiredRecord {p : Profile} (hp : s.profiles.get r.profile = p) (c : Client) (i : RecIndex) :
    takeAction c i (expiredRecord r) p.action s =
      match p.action with
      | .noteOnly => s.setRecord i (some { r with esc := some ⟨.spent, 0, true, false⟩ })
      | .attention => setAttention c true (s.setRecord i (some { r with esc := some ⟨.spent, 0, true, true⟩ }))
      | .clientReset => clientReset c .escalation s
      | .attentionThenReset => setAttention c true (s.setRecord i
          (some { r with esc := some ⟨.delay, 16 * 2 ^ p.delayCode.val, true, true⟩ }))
      | .boardReset => boardReset .escalation (some c) s := by
  subst hp
  cases (s.profiles.get r.profile).action <;> rfl

/-- An expired deadline whose charge leaves the client attached. -/
theorem deadlineExpires_stays (ha : u.attached c = true) (hn : (u.healthOf c).score + 8 ≤ 255) (i : RecIndex) (r : Record)
    (hv : v = u.setRecord i (some (expiredRecord r))) :
    deadlineExpires c i r u = takeAction c i (expiredRecord r) (u.profiles.get r.profile).action
      (offerNotice .escalated (16 * c.val + (u.profiles.get r.profile).action.code)
        (applyScore c ((u.healthOf c).score + 8) v)) := by
  subst hv
  have hp : raiseScore c 8 (u.setRecord i (some (expiredRecord r))) = _ := raiseScore_stays ha hn
  rw [deadlineExpires_eq, chargedDeadline, hp]
  rfl

/-- An expired deadline whose charge begins the client's detach. -/
theorem deadlineExpires_detaches (ha : u.attached c = true) (hn : 255 < (u.healthOf c).score + 8) (i : RecIndex) (r : Record)
    {w : State} (hw : w = finishDetach c (offerNotice .escalated (16 * c.val + (u.profiles.get r.profile).action.code)
      (beginDetach c (u.setRecord i (some (expiredRecord r)))))) :
    deadlineExpires c i r u =
      if (u.profiles.get r.profile).action = .boardReset then boardReset .escalation (some c) w else w := by
  have hp : raiseScore c 8 (u.setRecord i (some (expiredRecord r))) = _ := raiseScore_detaches ha hn
  rw [deadlineExpires_eq, chargedDeadline, hp, hw]
  rfl

/-- Settles O31: the charge by whether it detaches the client, the action by the profile, the delay by its client reset. -/
theorem stageExpiriesEscalate : Obligations.StageExpiriesEscalate := by
  refine ⟨fun c i r e p s u v w h hst hu hheld he hdl ha hp hv => ⟨fun hn hw => ?_, fun hn hw => ?_⟩,
    fun c i r e s u h hst hu hheld he hdl => ?_⟩
  · have hprof : w.profiles.get r.profile = p := by simp [hw, hv, hp]
    rw [next_deadlineExpiry_of_due h hst hu, stageExpires_deadline hheld he hdl,
      deadlineExpires_stays ha hn i r (v := v) (by rw [hv, expiredRecord_eq he]; rfl), ← hp, ← hw]
    exact congrArg (fun x => Host.Outcome.next (settle x)) (takeAction_expiredRecord hprof c i)
  · rw [next_deadlineExpiry_of_due h hst hu, stageExpires_deadline hheld he hdl, hp,
      deadlineExpires_detaches ha hn i r (w := w)]
    rw [hw, hv, hp, expiredRecord_eq he, beginDetach_eq]
    rfl
  · rw [next_delayExpiry_of_due h hst hu, stageExpires_delay hheld he hdl]
    rfl

end Sys2Proof.Laws
end

section
/-! PROOF. A client reset in its steps (R127): the returns (R70), the signals (R156), and the reset sender's own post slots (R152). -/

namespace Sys2Proof.Laws

open Sys2Proof.Machine Sys2Proof.Safety

variable {c : Client} {i : RecIndex} {r : Record} {s : State} {cause : ResetCause}

theorem clientResetSteps_eq (c : Client) (cause : ResetCause) (s : State) : clientResetSteps c cause s =
    offerNotice .clientReset (16 * c.val + cause.code) (settleLines c cause (settleOwnSlots c (clearSignals c
      (returnHeld c .suspended (returnHeld c .presented (withDefaults c s)))))) := rfl

/-! ## Step 5: the returns (R70) -/

/-- A record as its client's reset returns it. -/
def returned (r : Record) : Record := { r with state := .queued, interrupted := true, esc := none }

theorem returnHeld_of_none {st : RecState} (h : heldIn s c st = none) : returnHeld c st s = s := by
  simp only [returnHeld, h]

theorem returnHeld_of_some {st : RecState} (h : heldIn s c st = some (i, r)) : returnHeld c st s = returnRecord i r s := by
  simp only [returnHeld, h]

theorem returnRecord_signal (h : r.key.source = 41) (i : RecIndex) (s : State) : returnRecord i r s = s :=
  if_pos ((isSignal_iff r.key).2 h)

theorem returnRecord_eq (h : r.key.source ≠ 41) (i : RecIndex) (s : State) :
    returnRecord i r s = placeAtFront i (returned r) (reportPresented r (s.handleAt i) s) :=
  if_neg fun e => h ((isSignal_iff r.key).1 e)

theorem reportPresented_of_not (h : r.state ≠ .presented) (x : Handle) (s : State) : reportPresented r x s = s := if_neg h

theorem reportPresented_of_presented (h : r.state = .presented) (x : Handle) (s : State) :
    reportPresented r x s = s.setLink r.owner { s.link r.owner with hub := (s.link r.owner).hub.filter fun f => !f.delivers x } :=
  if_pos h

/-! ## Step 6: the signals (R156) and the sender's own posts (R152) -/

theorem clearSignals_eq (c : Client) (s : State) : clearSignals c s =
    recIndexes.foldl (freeSignal c) (s.setPosts c { s.postsOf c with pendingFlags := 0 }) := rfl

theorem settleOwnSlots_eq (c : Client) (s : State) : settleOwnSlots c s =
    settleOwnSlot c (settleOwnSlot c (settleOwnSlot c (settleOwnSlot c s 0) 1) 2) 3 := by
  simp only [settleOwnSlots, slotNos, List.foldl_cons, List.foldl_nil]

theorem freeSignal_of_signal (hr : s.record i = some r) (ho : r.owner = c) (hk : r.key.source = 41) :
    freeSignal c s i = freeRecord i r .other s := by
  have hf : ((s.record i).filter fun r => r.owner = c && r.key.isSignal) = some r := by
    rw [Option.filter_eq_some_iff]
    exact ⟨hr, by simp [ho, Key.isSignal, hk]⟩
  simp only [freeSignal, hf]

theorem freeSignal_of_other (h : ∀ r, s.record i = some r → r.owner ≠ c ∨ r.key.source ≠ 41) : freeSignal c s i = s := by
  have hn : ((s.record i).filter fun r => r.owner = c && r.key.isSignal) = none := by
    rw [Option.filter_eq_none_iff]
    intro r hr e
    simp only [Bool.and_eq_true, decide_eq_true_iff, isSignal_iff] at e
    exact (h r hr).elim (fun ho => ho e.1) fun hk => hk e.2
  simp only [freeSignal, hn]

theorem settleOwnSlot_idle {n : SlotNo} (h : ∀ t x, (s.postsOf c).slots.get n ≠ .waiting t x) : settleOwnSlot c s n = s := by
  unfold settleOwnSlot
  split
  · rfl
  · rfl
  · rename_i t x e
    exact absurd e (h t x)

theorem settleOwnSlot_waiting {n : SlotNo} {t : Client} {x : Handle} (h : (s.postsOf c).slots.get n = .waiting t x) :
    (∀ r, namedRecord s t .queued x = some r → settleOwnSlot c s n = freeRecord x.index r .other s) ∧
    (namedRecord s t .queued x = none → settleOwnSlot c s n = setPostSlot c n (.orphaned t x) s) := by
  constructor
  · intro r hr
    simp only [settleOwnSlot, h, hr]
  · intro hr
    simp only [settleOwnSlot, h, hr]

/-- Settles O33: the steps as they stand in the procedure, each by what its record or slot is. -/
theorem clientResetInItsSteps : Obligations.ClientResetInItsSteps := by
  refine ⟨fun c cause s v w hv hw => ?_, fun c st s => ⟨returnHeld_of_none, fun i r h => ⟨fun hk => ?_, fun hk hst => ?_,
    fun hk hst => ?_⟩⟩, fun c s => ⟨clearSignals_eq c s, fun i r => freeSignal_of_signal, fun i => freeSignal_of_other,
    settleOwnSlots_eq c s, fun n => settleOwnSlot_idle, fun n t x h => settleOwnSlot_waiting h⟩⟩
  · rw [clientResetSteps_eq, hw, hv]
    rfl
  · rw [returnHeld_of_some h, returnRecord_signal hk]
  all_goals obtain ⟨-, -, -, hs⟩ := heldIn_some h
  · rw [returnHeld_of_some h, returnRecord_eq hk, reportPresented_of_not (by rw [hs, hst]; nofun)]
    rfl
  · rw [returnHeld_of_some h, returnRecord_eq hk, reportPresented_of_presented (hs.trans hst)]
    rfl

end Sys2Proof.Laws
end

section
/-! PROOF. The receiver of a link, state by state (R128, R158, R160), and the gap limit (R160, R161; log entries 5 and 40). -/

namespace Sys2Proof.Laws

open Sys2Proof.Machine Sys2Proof.Safety

variable {c : Client} {b : Byte} {s : State}

/-! ## A byte arrives -/

/-- The state that a byte on a released line finds: the hub awake, a frame whose gap limit has passed failed (R158, R160). -/
def byteMeets (c : Client) (s : State) : State :=
  if ((wakeHub s).link c).receiver ≠ .hunt ∧ 2000 < ((wakeHub s).time.counter - ((wakeHub s).link c).stamp).toNat
  then gapFails c (wakeHub s) else wakeHub s

theorem gapPassed_iff (s : State) (c : Client) :
    gapPassed s c = true ↔ (s.link c).receiver ≠ .hunt ∧ 2000 < (s.time.counter - (s.link c).stamp).toNat := by
  simp only [gapPassed, midFrame, Bool.and_eq_true, decide_eq_true_iff]
  rfl

theorem receiveByte_held (h : (s.clientLinesOf c).resetLine = true) (b : Byte) : receiveByte c b s = s := if_pos h

theorem receiveByte_released (h : (s.clientLinesOf c).resetLine = false) (b : Byte) :
    receiveByte c b s = advance c b (stampByte c (byteMeets c s)) := by
  unfold receiveByte byteMeets
  rw [if_neg (by rw [h]; nofun)]
  simp only [gapPassed_iff]

/-! ## The receiver's states (R160) -/

theorem advance_sync (h : (s.link c).receiver = .hunt) (hb : b = 0xD4) : advance c b s = setReceiver c .length s := by
  simp only [advance, h, if_pos hb]

theorem advance_hunt (h : (s.link c).receiver = .hunt) (hb : b ≠ 0xD4) : advance c b s = s := by
  simp only [advance, h, if_neg hb]

theorem advance_length (h : (s.link c).receiver = .length) (hb : b.toNat ≤ 48) :
    advance c b s = setReceiver c (.body b []) s := by
  simp only [advance, h]
  exact if_pos hb

theorem advance_badLength (h : (s.link c).receiver = .length) (hb : 48 < b.toNat) : advance c b s = frameFails c s := by
  simp only [advance, h]
  exact if_neg (Nat.not_le.2 hb)

theorem advance_body {len : Byte} {got : List Byte} (h : (s.link c).receiver = .body len got) (b : Byte) :
    advance c b s = setReceiver c
      (if got.length + 1 < len.toNat + 2 then .body len (got ++ [b]) else .check len (got ++ [b]) none) s := by
  simp only [advance, h]
  split <;> rfl

theorem advance_firstCheck {len : Byte} {got : List Byte} (h : (s.link c).receiver = .check len got none) (b : Byte) :
    advance c b s = setReceiver c (.check len got (some b)) s := by
  simp only [advance, h]

theorem advance_secondCheck {len kind tag hi : Byte} {payload : List Byte}
    (h : (s.link c).receiver = .check len (kind :: tag :: payload) (some hi)) (b : Byte) :
    advance c b s = if (crc16 (len :: kind :: tag :: payload)).toNat = 256 * hi.toNat + b.toNat
      then frameComplete c kind tag payload (setReceiver c .hunt s) else frameError c (setReceiver c .hunt s) := by
  rw [Nat.mul_comm 256]
  simp only [advance, h]
  rfl

theorem exec_receivedByte (c : Client) (b : Byte) (s : State) :
    exec (.receivedByte c b) s = .next (settle (receiveByte c b s)) := rfl

/-! ## The gap limit (R160, R161) -/

theorem gapFails_eq (c : Client) (u : State) : gapFails c u =
    frameError c (u.setLink c { u.link c with gaps := min 65535 ((u.link c).gaps + 1), receiver := .hunt }) := by
  simp [gapFails, frameFails, setReceiver, up16, satAdd, State.link]

theorem gapTimeout_idle (h : (s.link c).receiver = .hunt) : gapTimeout c s = s := by
  simp only [gapTimeout, gapDue, midFrame, h, ne_eq, not_true_eq_false, decide_false, Bool.false_eq_true, if_false]

theorem gapTimeout_receiving (h : (s.link c).receiver ≠ .hunt) {u : State} (hu : u = Machine.pass 5 (2000 - sinceByte s c) s) :
    gapTimeout c s =
      if (u.link c).receiver ≠ .hunt ∧ 2000 ≤ sinceByte u c then settle (gapFails c u) else u := by
  subst hu
  simp only [gapTimeout, gapDue, midFrame, h, ne_eq, not_false_eq_true, decide_true, if_true, Bool.and_eq_true,
    decide_eq_true_iff]
  rfl

theorem exec_gapTimeout (c : Client) (s : State) : exec (.gapTimeout c) s = .next (settle (gapTimeout c s)) := rfl

/-- Settles O43: a byte by the line and the receiver's state, GAP_TIMEOUT by whether a frame is being received. -/
theorem receiverFollowsItsStates : Obligations.ReceiverFollowsItsStates := by
  refine ⟨fun s w v c b => ⟨fun hl => ?_, fun hl hw hv => ?_⟩, fun c s => ⟨fun h => ?_, fun h => ?_⟩⟩
  · rw [exec_receivedByte, receiveByte_held hl]
  · have hb : exec (.receivedByte c b) s = .next (settle (advance c b v)) := by
      rw [exec_receivedByte, receiveByte_released hl, hv, hw]
      rfl
    rw [hb]
    refine ⟨fun h e => ?_, fun h e => ?_, fun h e => ?_, fun h e => ?_, fun len got h => ?_, fun len got h => ?_,
      fun len kind tag payload hi h => ?_⟩
    · rw [advance_sync h e]
    · rw [advance_hunt h e]
    · rw [advance_length h e]
    · rw [advance_badLength h e, frameFails]
    · rw [advance_body h]
    · rw [advance_firstCheck h]
    · rw [advance_secondCheck h]
  · rw [exec_gapTimeout, gapTimeout_idle h]
  · refine ⟨Machine.pass 5 (2000 - sinceByte s c) s, pass_passes (by omega) s, ?_⟩
    rw [exec_gapTimeout, gapTimeout_receiving h rfl, ← gapFails_eq]
    split
    · rw [settle_settle]
    · rfl

end Sys2Proof.Laws
end

section
/-! PROOF. What the records' steps of a client reset leave alone (R127 steps 5 and 6): PRS presents nothing to a client that is not READY,
so its own items stay as steps 1 to 4 left them. -/

namespace Sys2Proof.Laws

open Sys2Proof.Machine Sys2Proof.Safety

variable {c : Client} {s t u : State}

/-- Client c is not READY, and no DELIVER frame waits for it. -/
structure Unpresented (c : Client) (s : State) : Prop where
  ready : (s.presentationOf c).ready = false
  hub : ∀ d, .deliver d ∉ (s.link c).hub

/-- Client c's presentation items, link and pending flags stand, and none of its post slots begins to wait. -/
structure Rests (c : Client) (s t : State) : Prop where
  presentation : t.presentationOf c = s.presentationOf c
  link : t.link c = s.link c
  flags : (t.postsOf c).pendingFlags = (s.postsOf c).pendingFlags
  waits : ∀ n d x, (t.postsOf c).slots.get n = .waiting d x → (s.postsOf c).slots.get n = .waiting d x

theorem Rests.refl (c : Client) (s : State) : Rests c s s := ⟨rfl, rfl, rfl, fun _ _ _ e => e⟩

theorem Rests.trans (h : Rests c s t) (h' : Rests c t u) : Rests c s u :=
  ⟨h'.presentation.trans h.presentation, h'.link.trans h.link, h'.flags.trans h.flags,
    fun n d x e => h.waits n d x (h'.waits n d x e)⟩

theorem Rests.of_fields (e : t.presentation = s.presentation ∧ t.links = s.links ∧ t.posts = s.posts) : Rests c s t := by
  obtain ⟨hp, hl, hq⟩ := e
  exact ⟨by simp only [State.presentationOf, hp], by simp only [State.link, hl], by simp only [State.postsOf, hq],
    fun _ _ _ e => by rwa [State.postsOf, hq] at e⟩

theorem Rests.unpresented (h : Rests c s t) (hs : Unpresented c s) : Unpresented c t :=
  ⟨by rw [h.presentation]; exact hs.ready, by rw [h.link]; exact hs.hub⟩

/-- Steps that each leave client c's items alone. -/
theorem foldl_rests {α : Type} {f : State → α → State} (hf : ∀ u a, Unpresented c u → Rests c u (f u a)) (l : List α)
    (h : Unpresented c s) : Rests c s (l.foldl f s) :=
  List.foldlRecOn (motive := fun u => Rests c s u) l f (.refl c s) fun u hu a _ => hu.trans (hf u a (hu.unpresented h))

/-! ## Examinations and wakes -/

theorem present_rests {d : Client} (hd : c ≠ d) (i : RecIndex) (r : Record) (s : State) : Rests c s (present d i r s) := by
  have hslots : ∀ t : State, ((if r.key.isSignal then setPendingFlags d 0 t else t).postsOf c) = t.postsOf c := fun t => by
    split
    · exact Table.get_set_ne _ hd _
    · rfl
  have hposts : (present d i r s).postsOf c = s.postsOf c := hslots _
  refine ⟨?_, ?_, by rw [hposts], fun n k x e => by rwa [hposts] at e⟩
  · rw [State.presentationOf, present_presentation, Table.get_set_ne _ hd]
  · have hlink : ∀ t : State, (if r.key.isSignal then setPendingFlags d 0 t else t).link c = t.link c := fun t => by
      split <;> rfl
    exact (Table.get_set_ne _ hd _).trans (hlink _)

theorem examine_rests (h : Unpresented c s) (d : Client) : Rests c s (examine d s) := by
  rcases examine_cases d s with e | ⟨i, r, -, -, ⟨hready, -, -⟩, e⟩ <;> rw [e]
  · exact .refl c s
  · refine present_rests (fun hd => ?_) i r s
    subst hd
    exact absurd (hready.symm.trans h.ready) nofun

theorem completeWake_rests (h : Unpresented c s) (m : HubMode) : Rests c s (completeWake m s) :=
  completeWake_keeps_of (P := Rests c s) (fun d _ hu => hu.trans (examine_rests (hu.unpresented h) d)) (.refl c s) m

/-! ## Frees -/

theorem setPostSlot_rests {v : PostSlot} (hv : ∀ d x, v ≠ .waiting d x) (p : Client) (n : SlotNo) (s : State) :
    Rests c s (setPostSlot p n v s) := by
  by_cases hp : c = p
  · subst hp
    have hposts : (setPostSlot c n v s).postsOf c = { s.postsOf c with slots := (s.postsOf c).slots.set n v } :=
      Table.get_set_same ..
    refine ⟨rfl, rfl, by rw [hposts], fun m d x e => ?_⟩
    rw [hposts, Table.get_set] at e
    split at e
    · exact absurd e (hv d x)
    · exact e
  · have hposts : (setPostSlot p n v s).postsOf c = s.postsOf c := Table.get_set_ne _ hp _
    exact ⟨rfl, rfl, by rw [hposts], fun m d x e => by rwa [hposts] at e⟩

/-- A free that is no outcome of its post empties the post's slot, or changes nothing (R149). -/
theorem reportPost_rests (r : Record) (x : Handle) (s : State) : Rests c s (reportPost r x .other s) := by
  unfold reportPost settlePost
  split
  · split
    · exact .refl c s
    · split
      · exact setPostSlot_rests (fun _ _ e => by cases e) ..
      · exact .refl c s
    · split
      · exact setPostSlot_rests (fun _ _ e => by cases e) ..
      · exact .refl c s
  · exact .refl c s

theorem reportPresented_rests (h : Unpresented c s) (r : Record) (x : Handle) : Rests c s (reportPresented r x s) := by
  unfold reportPresented removeDeliver
  split
  · by_cases ho : c = r.owner
    · subst ho
      have hf : ((s.link r.owner).hub.filter fun f => !f.delivers x) = (s.link r.owner).hub :=
        List.filter_eq_self.2 fun f hf => by
          cases f with
          | deliver d => exact absurd hf (h.hub d)
          | _ => rfl
      rw [hf, setLink_self]
      exact .refl r.owner s
    · exact ⟨rfl, Table.get_set_ne _ ho _, rfl, fun _ _ _ e => e⟩
  · exact .refl c s

theorem freeUntested_rests (h : Unpresented c s) (i : RecIndex) (r : Record) : Rests c s (freeUntested i r .other s) := by
  have hcopy : Rests c s (reportCopy r (release i r s)) := .of_fields (by simp)
  have hpost := hcopy.trans (reportPost_rests r (s.handleAt i) _)
  have hline := hpost.trans (.of_fields (t := reportDisposed r.key.source (reportPost r (s.handleAt i) .other
    (reportCopy r (release i r s)))) (by simp))
  exact hline.trans (reportPresented_rests (hline.unpresented h) r (s.handleAt i))

theorem freeRecord_rests (h : Unpresented c s) (i : RecIndex) (r : Record) : Rests c s (freeRecord i r .other s) := by
  have hfree : Rests c s (freeWithin i r .other s) :=
    (freeUntested_rests h i r).trans (.of_fields (by simp [freeWithin]))
  exact hfree.trans (completeWake_rests (hfree.unpresented h) s.mode)

/-! ## The steps on records (R70, R152, R156) -/

theorem placeAtFront_rests (h : Unpresented c s) (i : RecIndex) (x : Record) : Rests c s (placeAtFront i x s) := by
  have hfront : Rests c s (atFront i x s) := .of_fields ⟨rfl, rfl, rfl⟩
  by_cases hm : x.mode = .each
  · cases e : sameKeyRecord (atFront i x s) x.owner x.key (some i) with
    | none =>
      rw [placeAtFront_of_alone (.inr e)]
      exact hfront
    | some p =>
      rw [placeAtFront_of_merge hm e, mergeFront_eq]
      have hmerged : Rests c s (merged i x p.2 s) := hfront.trans (.of_fields ⟨rfl, rfl, rfl⟩)
      exact hmerged.trans (freeRecord_rests (hmerged.unpresented h) p.1 p.2)
  · rw [placeAtFront_of_alone (.inl hm)]
    exact hfront

theorem returnHeld_rests (h : Unpresented c s) (st : RecState) : Rests c s (returnHeld c st s) := by
  unfold returnHeld returnRecord
  split
  · rename_i i r _
    split
    · exact .refl c s
    · have hrep := reportPresented_rests h r (s.handleAt i)
      exact hrep.trans (placeAtFront_rests (hrep.unpresented h) i (returned r))
  · exact .refl c s

theorem freeSignal_rests (h : Unpresented c s) (i : RecIndex) : Rests c s (freeSignal c s i) := by
  unfold freeSignal
  split
  · exact freeRecord_rests h i _
  · exact .refl c s

theorem settleOwnSlot_rests (h : Unpresented c s) (n : SlotNo) : Rests c s (settleOwnSlot c s n) := by
  unfold settleOwnSlot
  split
  · exact .refl c s
  · exact .refl c s
  · split
    · exact freeRecord_rests h _ _
    · exact setPostSlot_rests (fun _ _ e => by cases e) ..

theorem settleOwnSlots_rests (h : Unpresented c s) : Rests c s (settleOwnSlots c s) :=
  foldl_rests (fun _ n hu => settleOwnSlot_rests hu n) slotNos h

/-- The signals are freed, and of the client's items only the pending set is emptied. -/
theorem clearSignals_rests (h : Unpresented c s) : Rests c (setPendingFlags c 0 s) (clearSignals c s) :=
  foldl_rests (fun _ i hu => freeSignal_rests hu i) recIndexes ⟨h.ready, h.hub⟩

end Sys2Proof.Laws
end

section
/-! PROOF. What becomes of a client's records in its reset (R127 steps 5 and 6): a record of it is kept, returned, or taken in by a returned
one (R70), unless it is a signal record, which is freed (R156). -/

namespace Sys2Proof.Laws

open Sys2Proof.Machine Sys2Proof.Safety Function

variable {c : Client} {s t u : State} {full : Prop} {k : Client → Standing} {i j : RecIndex} {r o p x : Record}

/-- The record `o` stands for `r` after a reset of its client: it is `r`, or a returned record that is `r` or took it in. -/
structure StandsFor (o r : Record) : Prop where
  owner : o.owner = r.owner
  key : o.key = r.key
  mode : o.mode = r.mode
  priority : r.priority ≤ o.priority
  urgent : r.urgent = true → o.urgent = true
  form : o = r ∨ (o.state = .queued ∧ o.interrupted = true ∧ o.esc = none)

theorem StandsFor.refl (r : Record) : StandsFor r r := ⟨rfl, rfl, rfl, le_rfl, id, .inl rfl⟩

theorem StandsFor.trans (h : StandsFor o r) (h' : StandsFor p o) : StandsFor p r where
  owner := h'.owner.trans h.owner
  key := h'.key.trans h.key
  mode := h'.mode.trans h.mode
  priority := h.priority.trans h'.priority
  urgent e := h'.urgent (h.urgent e)
  form := h'.form.elim (fun e => e ▸ h.form) .inr

theorem returned_standsFor (r : Record) : StandsFor (returned r) r := ⟨rfl, rfl, rfl, le_rfl, id, .inr ⟨rfl, rfl, rfl⟩⟩

/-- The returned record stands for itself once it has taken in another. -/
theorem folded_standsFor (r o : Record) : StandsFor (folded (returned r) o.count o.priority o.urgent) r where
  owner := rfl
  key := rfl
  mode := rfl
  priority := le_max_left ..
  urgent e := by simp [folded, returned, e]
  form := .inr ⟨rfl, rfl, rfl⟩

/-- The returned record stands for the one that it has taken in. -/
theorem folded_standsFor_taken (ho : o.owner = r.owner) (hk : o.key = r.key) (hm : o.mode = r.mode) :
    StandsFor (folded (returned r) o.count o.priority o.urgent) o where
  owner := ho.symm
  key := hk.symm
  mode := hm.symm
  priority := le_max_right ..
  urgent e := by simp [folded, e]
  form := .inr ⟨rfl, rfl, rfl⟩

/-- For each record of client c in `s` but a signal record, one in `t` stands. -/
def NoneLost (c : Client) (s t : State) : Prop := ∀ i r, s.record i = some r → r.owner = c → r.key.source ≠ 41 →
  ∃ j o, t.record j = some o ∧ StandsFor o r

theorem NoneLost.of_kept (h : ∀ i r, s.record i = some r → r.owner = c → r.key.source ≠ 41 → t.record i = some r) :
    NoneLost c s t := fun i r hr ho hk => ⟨i, r, h i r hr ho hk, .refl r⟩

theorem NoneLost.refl (c : Client) (s : State) : NoneLost c s s := .of_kept fun _ _ hr _ _ => hr

theorem NoneLost.of_pool (c : Client) (h : t.pool = s.pool) : NoneLost c s t :=
  .of_kept fun i _ hr _ _ => (record_of_pool h i).trans hr

theorem NoneLost.trans (h : NoneLost c s t) (h' : NoneLost c t u) : NoneLost c s u := fun i r hr ho hk => by
  obtain ⟨j, o, ho', hor⟩ := h i r hr ho hk
  obtain ⟨l, p, hp, hpo⟩ := h' j o ho' (hor.owner.trans ho) (hor.key ▸ hk)
  exact ⟨l, p, hp, hor.trans hpo⟩

/-! ## Frees -/

/-- A client that is not READY keeps its records at an examination. -/
theorem examine_keeps_records (h : RoleLaw k s) (hc : Unpresented c s) (d : Client) (hx : s.record j = some x)
    (ho : x.owner = c) : (examine d s).record j = some x := by
  rcases examine_cases d s with e | ⟨i, r, hi, hr, ⟨hready, -, -⟩, e⟩ <;> rw [e]
  · exact hx
  · have hd : d ≠ c := by
      rintro rfl
      exact absurd (hready.symm.trans hc.ready) nofun
    have hji : j ≠ i := by
      rintro rfl
      rw [hx] at hr
      cases hr
      exact hd ((h.listed_record hi hx).1.symm.trans ho)
    rwa [State.record, State.slot, present_pool, Table.get_set_ne _ hji]

theorem completeWake_keeps_records (h : StoreLaw full k s) (hc : Unpresented c s) (m : HubMode) (hx : s.record j = some x)
    (ho : x.owner = c) : (completeWake m s).record j = some x := by
  obtain ⟨-, -, e⟩ := completeWake_keeps_of
    (P := fun u => StoreLaw full k u ∧ Unpresented c u ∧ u.record j = some x)
    (fun d u ⟨hlaw, hu, e⟩ => ⟨examine_law hlaw d, (examine_rests hu d).unpresented hu, examine_keeps_records hlaw.roles hu d e ho⟩)
    ⟨h, hc, hx⟩ m
  exact e

/-- A free ends no other record of a client that is not READY, and presents none. -/
theorem freeRecord_keeps_records (h : StoreLaw full k s) (hc : Unpresented c s) {y : Standing} (hr : s.record i = some r)
    (hy : Standing.Without r.state (k r.owner) y) (hji : j ≠ i) (hx : s.record j = some x) (ho : x.owner = c) :
    (freeRecord i r .other s).record j = some x := by
  have hfree : Rests c s (freeWithin i r .other s) :=
    (freeUntested_rests hc i r).trans (.of_fields (by simp [freeWithin]))
  refine completeWake_keeps_records (freeWithin_law h hr hy .other) (hfree.unpresented hc) s.mode ?_ ho
  rwa [State.record, freeWithin_slot, if_neg hji]

theorem freeRecord_noneLost (h : StoreLaw full k s) (hc : Unpresented c s) {y : Standing} (hr : s.record i = some r)
    (hy : Standing.Without r.state (k r.owner) y) (hlose : r.owner = c → r.key.source = 41) :
    NoneLost c s (freeRecord i r .other s) := .of_kept fun j x hx ho hk => by
  refine freeRecord_keeps_records h hc hr hy (fun e => ?_) hx ho
  subst e
  rw [hr] at hx
  cases hx
  exact hk (hlose ho)

/-! ## Step 5: a return (R70) -/

theorem atFront_record (i : RecIndex) (x : Record) (s : State) (j : RecIndex) :
    (atFront i x s).record j = if j = i then some x else s.record j := record_setRecord s i (some x) j

theorem mergeFront_noneLost (h : StoreLaw full (but c .resetting) s) (hc : Unpresented c s) (hr : s.record i = some r)
    (ho : r.owner = c) (hq : r.state ≠ .queued) (hm : r.mode = .each)
    (e : sameKeyRecord (atFront i (returned r) s) r.owner r.key (some i) = some (j, o)) :
    NoneLost c s (freeRecord j o .other (merged i (returned r) o s)) := by
  obtain ⟨hmem, hne, hj, hqo, hmo, hko⟩ := sameKeyRecord_some e
  have hji : j ≠ i := fun e => hne (e ▸ rfl)
  have hroles : RoleLaw (but c .resetting) (atFront i (returned r) s) := by
    have hw : Standing.Without r.state (but c .resetting r.owner) _ := .of_resetting c (.inl ho)
    have := atFront_roleLaw (x := returned r) h.roles hr ⟨hq, rfl, rfl, rfl⟩ hw (h.roles.attached hr (by rw [ho, but_self]; nofun))
    rwa [update_eq_self] at this
  have hmerged : StoreLaw False (but c .resetting) (merged i (returned r) o s) := ⟨merged_roleLaw o hroles, False.elim⟩
  have hrests : Rests c s (merged i (returned r) o s) := .of_fields ⟨rfl, rfl, rfl⟩
  have kept : ∀ {l y}, l ≠ j → (merged i (returned r) o s).record l = some y → y.owner = c →
      (freeRecord j o .other (merged i (returned r) o s)).record l = some y := fun hlj hy hyo =>
    freeRecord_keeps_records hmerged (hrests.unpresented hc) ((merged_record hji).trans hj) (.of_resetting c (.inr hqo)) hlj hy hyo
  have hfolded := kept hji.symm ((record_setRecord ..).trans (if_pos rfl)) ho
  intro l y hy hyo _
  by_cases hli : l = i
  · rw [hli, hr] at hy
    cases hy
    exact ⟨i, _, hfolded, folded_standsFor r o⟩
  · by_cases hlj : l = j
    · rw [atFront_record, if_neg hji, ← hlj, hy] at hj
      cases hj
      exact ⟨i, _, hfolded, folded_standsFor_taken (hyo.trans ho.symm) hko (hmo.trans hm.symm)⟩
    · exact ⟨l, y, kept hlj (by rw [merged_record hli, atFront_record, if_neg hli, hy]) hyo, .refl y⟩

theorem placeAtFront_noneLost (h : StoreLaw full (but c .resetting) s) (hc : Unpresented c s) (hr : s.record i = some r)
    (ho : r.owner = c) (hq : r.state ≠ .queued) : NoneLost c s (placeAtFront i (returned r) s) := by
  have hfront : NoneLost c s (atFront i (returned r) s) := fun l y hy _ _ => by
    by_cases hli : l = i
    · rw [hli, hr] at hy
      cases hy
      exact ⟨i, returned r, (atFront_record ..).trans (if_pos rfl), returned_standsFor r⟩
    · exact ⟨l, y, by rw [atFront_record, if_neg hli, hy], .refl y⟩
  by_cases hm : r.mode = .each
  · cases e : sameKeyRecord (atFront i (returned r) s) r.owner r.key (some i) with
    | none =>
      rw [placeAtFront_of_alone (r := returned r) (.inr e)]
      exact hfront
    | some p =>
      rw [placeAtFront_of_merge (r := returned r) hm e, mergeFront_eq]
      exact mergeFront_noneLost h hc hr ho hq hm e
  · rw [placeAtFront_of_alone (r := returned r) (.inl hm)]
    exact hfront

theorem returnHeld_noneLost (h : StoreLaw full (but c .resetting) s) (hc : Unpresented c s) {st : RecState}
    (hst : st ≠ .queued) : NoneLost c s (returnHeld c st s) := by
  cases e : heldIn s c st with
  | none =>
    rw [returnHeld_of_none e]
    exact .refl c s
  | some q =>
    obtain ⟨i, r⟩ := q
    rw [returnHeld_of_some e]
    obtain ⟨-, hr, ho, hs⟩ := heldIn_some e
    by_cases hk : r.key.source = 41
    · rw [returnRecord_signal hk]
      exact .refl c s
    · rw [returnRecord_eq hk]
      have hpool : (reportPresented r (s.handleAt i) s).pool = s.pool := by simp
      exact NoneLost.trans (.of_pool c hpool) (placeAtFront_noneLost (h.framed (t := reportPresented r (s.handleAt i) s) (by simp))
        ((reportPresented_rests hc r _).unpresented hc) ((record_of_pool hpool i).trans hr) ho (hs ▸ hst))

/-! ## Step 6: the signals (R156) and the client's own posts (R152) -/

theorem freeSignal_noneLost (h : StoreLaw full (but c .resetting) s) (hc : Unpresented c s) (i : RecIndex) :
    NoneLost c s (freeSignal c s i) := by
  unfold freeSignal
  split
  · rename_i r e
    obtain ⟨hr, hp⟩ := Option.filter_eq_some_iff.1 e
    simp only [Bool.and_eq_true, decide_eq_true_iff] at hp
    obtain ⟨ho, hk⟩ := hp
    exact freeRecord_noneLost h hc hr (.of_resetting c (.inl ho)) fun _ => (isSignal_iff r.key).1 hk
  · exact .refl c s

theorem freeSignals_noneLost (l : List RecIndex) : ∀ s : State, StoreLaw full (but c .resetting) s →
    (∀ st, st ≠ .queued → OnlySignals s c st) → Unpresented c s → NoneLost c s (l.foldl (freeSignal c) s) := by
  induction l with
  | nil => exact fun s _ _ _ => .refl c s
  | cons i l ih =>
    intro s h hsig hc
    obtain ⟨hlaw, hsteady, -⟩ := freeSignal_resetting h hsig i
    exact (freeSignal_noneLost h hc i).trans (ih _ hlaw (fun st hst => (hsig st hst).steady hst hsteady)
      ((freeSignal_rests hc i).unpresented hc))

theorem clearSignals_noneLost (h : StoreLaw full (but c .resetting) s) (hsig : ∀ st, st ≠ .queued → OnlySignals s c st)
    (hc : Unpresented c s) : NoneLost c s (clearSignals c s) :=
  freeSignals_noneLost recIndexes (setPendingFlags c 0 s) (h.same (.setPendingFlags c 0 s)) hsig ⟨hc.ready, hc.hub⟩

/-- None of client c's post slots waits for a record of c. -/
def PostsElsewhere (c : Client) (s : State) : Prop := ∀ n d h, (s.postsOf c).slots.get n = .waiting d h → d ≠ c

theorem PostsElsewhere.rests (h : PostsElsewhere c s) (e : Rests c s t) : PostsElsewhere c t :=
  fun n d x hx => h n d x (e.waits n d x hx)

theorem settleOwnSlot_noneLost (h : StoreLaw full calm s) (hc : Unpresented c s) (hp : PostsElsewhere c s) (n : SlotNo) :
    NoneLost c s (settleOwnSlot c s n) := by
  unfold settleOwnSlot
  split
  · exact .refl c s
  · exact .refl c s
  · rename_i d x hw
    split
    · rename_i r e
      obtain ⟨-, hr, ho, hs⟩ := namedRecord_some e
      have hy : Standing.Without r.state (calm r.owner) (calm r.owner) := hs ▸ .queued _
      exact freeRecord_noneLost h hc hr hy fun e => absurd (ho.symm.trans e) (hp n d x hw)
    · exact .refl c s

theorem settleOwnSlot_law (h : StoreLaw full k s) (c : Client) (n : SlotNo) : StoreLaw full k (settleOwnSlot c s n) := by
  unfold settleOwnSlot
  split
  · exact h
  · exact h
  · rename_i hw
    split
    · rename_i e
      obtain ⟨-, hr, -, hs⟩ := namedRecord_some e
      exact freeRecord_queued_law h hr hs .other
    · exact setPostSlot_orphaned_law h hw

theorem settleOwnSlots_noneLost (h : StoreLaw full calm s) (hc : Unpresented c s) (hp : PostsElsewhere c s) :
    NoneLost c s (settleOwnSlots c s) := by
  have step : ∀ u, StoreLaw full calm u ∧ Rests c s u ∧ NoneLost c s u → ∀ n, StoreLaw full calm (settleOwnSlot c u n) ∧
      Rests c s (settleOwnSlot c u n) ∧ NoneLost c s (settleOwnSlot c u n) := fun u ⟨hlaw, hrests, hkept⟩ n =>
    have hu := hrests.unpresented hc
    ⟨settleOwnSlot_law hlaw c n, hrests.trans (settleOwnSlot_rests hu n),
      hkept.trans (settleOwnSlot_noneLost hlaw hu (hp.rests hrests) n)⟩
  obtain ⟨-, -, hkept⟩ := List.foldlRecOn slotNos (settleOwnSlot c) ⟨h, .refl c s, .refl c s⟩ fun u hu n _ => step u hu n
  exact hkept

/-! ## The client's signal records -/

/-- Client c has no signal record at `i`. -/
def Unsignalled (c : Client) (i : RecIndex) (s : State) : Prop := ∀ k m, holding s i = some (c, k, m) → k.source ≠ 41

/-- What `t` holds, `s` holds at the same index. -/
def HoldsNoMore (s t : State) : Prop := ∀ i x, holding t i = some x → holding s i = some x

theorem HoldsNoMore.refl (s : State) : HoldsNoMore s s := fun _ _ e => e

theorem HoldsNoMore.trans (h : HoldsNoMore s t) (h' : HoldsNoMore t u) : HoldsNoMore s u := fun i x e => h i x (h' i x e)

theorem Unsignalled.of_holdsNoMore (h : Unsignalled c i s) (e : HoldsNoMore s t) : Unsignalled c i t :=
  fun k m hk => h k m (e i _ hk)

theorem freeRecord_holdsNoMore (i : RecIndex) (r : Record) (s : State) : HoldsNoMore s (freeRecord i r .other s) := fun j x e => by
  rw [freeRecord_holding] at e
  split at e
  · cases e
  · exact e

theorem freeSignal_holdsNoMore (c : Client) (s : State) (i : RecIndex) : HoldsNoMore s (freeSignal c s i) := by
  unfold freeSignal
  split
  · exact freeRecord_holdsNoMore _ _ s
  · exact .refl s

theorem settleOwnSlot_holdsNoMore (c : Client) (s : State) (n : SlotNo) : HoldsNoMore s (settleOwnSlot c s n) := by
  unfold settleOwnSlot
  split
  · exact .refl s
  · exact .refl s
  · split
    · exact freeRecord_holdsNoMore _ _ s
    · exact .refl s

theorem foldl_holdsNoMore {α : Type} {f : State → α → State} (hf : ∀ u a, HoldsNoMore u (f u a)) (l : List α) (s : State) :
    HoldsNoMore s (l.foldl f s) :=
  List.foldlRecOn (motive := HoldsNoMore s) l f (.refl s) fun u hu a _ => hu.trans (hf u a)

theorem settleOwnSlots_holdsNoMore (c : Client) (s : State) : HoldsNoMore s (settleOwnSlots c s) :=
  foldl_holdsNoMore (settleOwnSlot_holdsNoMore c) slotNos s

theorem unsignalled_iff : Unsignalled c i s ↔ ∀ r, s.record i = some r → r.owner = c → r.key.source ≠ 41 := by
  simp only [Unsignalled, holding, Option.map_eq_some_iff, Prod.mk.injEq]
  constructor
  · exact fun h r hr ho => h r.key r.mode ⟨r, hr, ho, rfl, rfl⟩
  · rintro h k m ⟨r, hr, ho, rfl, -⟩
    exact h r hr ho

theorem freeSignal_unsignalled (c : Client) (s : State) (i : RecIndex) : Unsignalled c i (freeSignal c s i) := by
  by_cases h : Unsignalled c i s
  · exact h.of_holdsNoMore (freeSignal_holdsNoMore c s i)
  · rw [unsignalled_iff] at h
    push Not at h
    obtain ⟨r, hr, ho, hk⟩ := h
    rw [freeSignal_of_signal hr ho hk]
    intro k m e
    rw [freeRecord_holding, if_pos rfl] at e
    cases e

theorem freeSignals_unsignalled (l : List RecIndex) :
    ∀ s : State, ∀ i ∈ l, Unsignalled c i (l.foldl (freeSignal c) s) := by
  induction l with
  | nil => exact fun _ _ hi => absurd hi List.not_mem_nil
  | cons j l ih =>
    intro s
    exact List.forall_mem_cons.2
      ⟨(freeSignal_unsignalled c s j).of_holdsNoMore (foldl_holdsNoMore (freeSignal_holdsNoMore c) l _), ih _⟩

theorem clearSignals_unsignalled (c : Client) (s : State) (i : RecIndex) : Unsignalled c i (clearSignals c s) :=
  freeSignals_unsignalled recIndexes _ i (List.mem_finRange i)

end Sys2Proof.Laws
end

section
/-! PROOF. What a client reset leaves of its client (R127): what steps 1 to 4 give, and what the later steps keep of it. -/

namespace Sys2Proof.Laws

open Sys2Proof.Machine Sys2Proof.Safety

variable {c d : Client} {s : State} {cause : ResetCause}

/-! ## Steps 1 to 4 -/

theorem withDefaults_pool (c : Client) (s : State) : (withDefaults c s).pool = s.pool := by simp [withDefaults]

theorem withDefaults_posts (c : Client) (s : State) : (withDefaults c s).posts = s.posts := by simp [withDefaults]

theorem contextsToDefaults_contexts (c : Client) (s : State) : (contextsToDefaults c s).contexts =
    s.contexts.set c { contextsAtReset with holdOffTime := (s.contextsOf c).holdOffTime } := by
  unfold contextsToDefaults
  dsimp only
  split <;> simp

theorem contextsToDefaults_waiting (c : Client) (s : State) : (contextsToDefaults c s).waiting =
    (s.waiting.set (timerNo c .operate) none).set (timerNo c .service) none := by
  unfold contextsToDefaults
  dsimp only
  split <;> simp

theorem withDefaults_contexts (c : Client) (s : State) : (withDefaults c s).contexts =
    s.contexts.set c { contextsAtReset with holdOffTime := (s.contextsOf c).holdOffTime } := by
  simp [withDefaults, contextsToDefaults_contexts, State.contextsOf]

theorem withDefaults_waiting (c : Client) (s : State) : (withDefaults c s).waiting =
    (s.waiting.set (timerNo c .operate) none).set (timerNo c .service) none := by
  simp [withDefaults, contextsToDefaults_waiting]

theorem withDefaults_clientLines (c : Client) (s : State) : (withDefaults c s).clientLines = s.clientLines.set c
    { s.clientLinesOf c with resetLine := true, pulseLeft := (s.clientLinesOf c).pulseWidth } := by
  simp [withDefaults, startPulse]

theorem withDefaults_presentationOf (c : Client) (s : State) : (withDefaults c s).presentationOf c = presentationAtReset := by
  simp [withDefaults, clearReady, State.presentationOf]

/-- The frame of a change to OPERATE is placed behind the flush (R114, R128). -/
theorem withDefaults_link (c : Client) (s : State) : (withDefaults c s).link c =
    { s.link c with
      receiver := .hunt, requests := [], replies := [], tx := none,
      hub := if (s.contextsOf c).active = .service then [.context .operate .reset none] else [] } := by
  have hactive : ((clearReady c (flushLink c (startPulse c s))).contextsOf c).active = (s.contextsOf c).active := by
    simp [State.contextsOf]
  have hflush : (flushLink c (startPulse c s)).links.get c =
      { s.links.get c with receiver := .hunt, requests := [], replies := [], hub := [], tx := none } := by
    simp [flushLink, State.link]
  unfold withDefaults contextsToDefaults
  dsimp only
  rw [hactive]
  split
  · simp [placeHubFrame, State.link, hflush, placeOrUpdate]
  · simp [State.link, hflush]

theorem withDefaults_unpresented (c : Client) (s : State) : Unpresented c (withDefaults c s) where
  ready := by rw [withDefaults_presentationOf]; rfl
  hub d := by
    rw [withDefaults_link]
    dsimp only
    split <;> simp

/-! ## The steps on records -/

/-- The state after steps 1 to 5. -/
def afterReturns (c : Client) (s : State) : State := returnHeld c .suspended (returnHeld c .presented (withDefaults c s))

theorem afterReturns_rests (c : Client) (s : State) : Rests c (withDefaults c s) (afterReturns c s) :=
  have hpres := returnHeld_rests (withDefaults_unpresented c s) .presented
  hpres.trans (returnHeld_rests (hpres.unpresented (withDefaults_unpresented c s)) .suspended)

theorem afterReturns_unpresented (c : Client) (s : State) : Unpresented c (afterReturns c s) :=
  (afterReturns_rests c s).unpresented (withDefaults_unpresented c s)

/-- After the returns the client still stands as within its reset, and of its records only signals are not QUEUED. -/
theorem afterReturns_law (h : StoreLaw False calm s) (c : Client) : StoreLaw False (but c .resetting) (afterReturns c s) ∧
    (∀ st, st ≠ .queued → OnlySignals (afterReturns c s) c st) ∧ NoneLost c s (afterReturns c s) := by
  have hc := withDefaults_unpresented c s
  have hdef := withDefaults_law h c
  obtain ⟨hpres, -, honlyPres⟩ := returnHeld_resetting hdef (st := .presented) nofun
  obtain ⟨hsusp, hsteady, honlySusp⟩ := returnHeld_resetting hpres (st := .suspended) nofun
  have hkept := (returnHeld_noneLost hdef hc (st := .presented) nofun).trans
    (returnHeld_noneLost hpres ((returnHeld_rests hc .presented).unpresented hc) (st := .suspended) nofun)
  refine ⟨hsusp, fun st hst => ?_, .trans (.of_pool c (withDefaults_pool c s)) hkept⟩
  cases st with
  | queued => exact absurd rfl hst
  | presented => exact honlyPres.steady nofun hsteady
  | suspended => exact honlySusp

/-- The state after steps 1 to 6. -/
def afterSettling (c : Client) (s : State) : State := settleOwnSlots c (clearSignals c (afterReturns c s))

theorem clientResetSteps_of_afterSettling (c : Client) (cause : ResetCause) (s : State) : clientResetSteps c cause s =
    offerNotice .clientReset (16 * c.val + cause.code) (settleLines c cause (afterSettling c s)) := rfl

theorem clientResetSteps_pool (c : Client) (cause : ResetCause) (s : State) :
    (clientResetSteps c cause s).pool = (afterSettling c s).pool := by
  rw [clientResetSteps_of_afterSettling]
  simp

/-- After the returns, of the client's items only the pending set is emptied. -/
theorem clearSignals_afterReturns_rests (c : Client) (s : State) :
    Rests c (setPendingFlags c 0 (afterReturns c s)) (clearSignals c (afterReturns c s)) :=
  clearSignals_rests (afterReturns_unpresented c s)

theorem clearSignals_afterReturns_unpresented (c : Client) (s : State) : Unpresented c (clearSignals c (afterReturns c s)) :=
  (clearSignals_afterReturns_rests c s).unpresented ⟨(afterReturns_unpresented c s).ready, (afterReturns_unpresented c s).hub⟩

theorem clientResetSteps_rests (c : Client) (cause : ResetCause) (s : State) :
    Rests c (setPendingFlags c 0 (afterReturns c s)) (clientResetSteps c cause s) := by
  refine (clearSignals_afterReturns_rests c s).trans
    ((settleOwnSlots_rests (clearSignals_afterReturns_unpresented c s)).trans (.of_fields ?_))
  rw [clientResetSteps_of_afterSettling]
  simp [afterSettling]

theorem setPendingFlags_slots (c : Client) (f : FlagSet) (s : State) :
    ((setPendingFlags c f s).postsOf c).slots = (s.postsOf c).slots := by
  simp [setPendingFlags, State.postsOf]

theorem afterSettling_noneLost (h : StoreLaw False calm s) (hp : PostsElsewhere c s) : NoneLost c s (afterSettling c s) := by
  obtain ⟨hlaw, hsig, hkept⟩ := afterReturns_law h c
  have hposts : PostsElsewhere c (clearSignals c (afterReturns c s)) := by
    have hdef : PostsElsewhere c (withDefaults c s) := by
      rwa [PostsElsewhere, State.postsOf, withDefaults_posts]
    refine PostsElsewhere.rests (fun n d x e => ?_) (clearSignals_afterReturns_rests c s)
    rw [setPendingFlags_slots] at e
    exact hdef.rests (afterReturns_rests c s) n d x e
  exact (hkept.trans (clearSignals_noneLost hlaw hsig (afterReturns_unpresented c s))).trans
    (settleOwnSlots_noneLost (clearSignals_law hlaw hsig) (clearSignals_afterReturns_unpresented c s) hposts)

/-- A reset client has no signal record. -/
theorem afterSettling_unsignalled (c : Client) (s : State) (i : RecIndex) : Unsignalled c i (afterSettling c s) :=
  (clearSignals_unsignalled c _ i).of_holdsNoMore (settleOwnSlots_holdsNoMore c _)

/-- With the gate open and no suspended handle, a client's records are QUEUED. -/
theorem queued_of_open (h : RoleLaw calm s) (hg : (seen s c).gateOpen = true) (hn : (seen s c).suspended = none)
    {i : RecIndex} {r : Record} (hr : s.record i = some r) (ho : r.owner = c) : r.state = .queued := by
  obtain ⟨hgate, hnames, -⟩ := h.stands c
  have hrole : roleAt s i = some (c, r.state) := ho ▸ roleAt_of_record hr
  cases e : r.state with
  | queued => rfl
  | presented => exact absurd (e ▸ hrole) (hgate.lacks hg i)
  | suspended =>
    have := (hnames (s.handleAt i)).2 ⟨rfl, e ▸ hrole⟩
    cases hn.symm.trans this

/-! ## The items of the reset client -/

theorem clientResetSteps_presentationOf (c : Client) (cause : ResetCause) (s : State) :
    (clientResetSteps c cause s).presentationOf c = presentationAtReset :=
  (clientResetSteps_rests c cause s).presentation.trans
    ((afterReturns_rests c s).presentation.trans (withDefaults_presentationOf c s))

theorem clientResetSteps_link (c : Client) (cause : ResetCause) (s : State) :
    (clientResetSteps c cause s).link c = (withDefaults c s).link c :=
  (clientResetSteps_rests c cause s).link.trans (afterReturns_rests c s).link

theorem clientResetSteps_pendingFlags (c : Client) (cause : ResetCause) (s : State) :
    ((clientResetSteps c cause s).postsOf c).pendingFlags = 0 := by
  rw [(clientResetSteps_rests c cause s).flags]
  simp [setPendingFlags, State.postsOf]

theorem clientResetSteps_contexts (c : Client) (cause : ResetCause) (s : State) : (clientResetSteps c cause s).contexts =
    s.contexts.set c { contextsAtReset with holdOffTime := (s.contextsOf c).holdOffTime } := by
  rw [← withDefaults_contexts, clientResetSteps_eq]
  simp

theorem clientResetSteps_waiting (c : Client) (cause : ResetCause) (s : State) : (clientResetSteps c cause s).waiting =
    (s.waiting.set (timerNo c .operate) none).set (timerNo c .service) none := by
  rw [← withDefaults_waiting, clientResetSteps_eq]
  simp

theorem clientResetSteps_clientLines (c : Client) (cause : ResetCause) (s : State) : (clientResetSteps c cause s).clientLines =
    s.clientLines.set c
      ⟨false, true, (s.clientLinesOf c).pulseWidth, (s.clientLinesOf c).pulseWidth, cause⟩ := by
  have hlines : (afterReturns c s).clientLines = (withDefaults c s).clientLines := by simp [afterReturns]
  rw [clientResetSteps_of_afterSettling, afterSettling]
  simp [settleLines, State.clientLinesOf, hlines, withDefaults_clientLines]

theorem clientResetSteps_record (h : RecordLaw s) (cause : ResetCause) {i : RecIndex} {r : Record}
    (hr : (clientResetSteps c cause s).record i = some r) (ho : r.owner = c) : r.state = .queued ∧ r.key.source ≠ 41 := by
  have hlaw := clientResetSteps_law (⟨(roleLaw_calm_iff s).2 h, False.elim⟩ : StoreLaw False calm s) c cause
  constructor
  · refine queued_of_open hlaw.roles ?_ ?_ hr ho
    · rw [seen, clientResetSteps_presentationOf]
      rfl
    · rw [seen, State.contextsOf, clientResetSteps_contexts, Table.get_set_same]
      rfl
  · rw [record_of_pool (clientResetSteps_pool c cause s)] at hr
    exact unsignalled_iff.1 (afterSettling_unsignalled c s i) r hr ho

/-- Settles O32: steps 1 to 4 give the defaults, which the later steps leave; the records are left by what stands for each. -/
theorem clientResetLeavesDefaults : Obligations.ClientResetLeavesDefaults := by
  intro c cause s t ht h
  rw [ht]
  have hlink : (clientResetSteps c cause s).link c = _ := (clientResetSteps_link c cause s).trans (withDefaults_link c s)
  refine ⟨?lines, by rw [hlink], by rw [hlink], by rw [hlink], by rw [hlink], by rw [hlink],
    clientResetSteps_presentationOf c cause s, ?contexts, ?operate, ?service,
    fun i r => clientResetSteps_record h cause, fun hp i r hr ho hk => ?work, clientResetSteps_pendingFlags c cause s, by simp,
    by simp [Untouched], fun d hd => ⟨?otherContexts, ?otherLines⟩⟩
  case lines => rw [State.clientLinesOf, clientResetSteps_clientLines, Table.get_set_same]
  case contexts =>
    rw [State.contextsOf, clientResetSteps_contexts, Table.get_set_same]
    rfl
  case operate =>
    rw [clientResetSteps_waiting, Table.get_set]
    split
    · rfl
    · exact Table.get_set_same ..
  case service => rw [clientResetSteps_waiting, Table.get_set_same]
  case work =>
    obtain ⟨j, o, hj, hfor⟩ := afterSettling_noneLost ⟨(roleLaw_calm_iff s).2 h, False.elim⟩ hp i r hr ho hk
    rw [← record_of_pool (clientResetSteps_pool c cause s)] at hj
    obtain ⟨hq, -⟩ := clientResetSteps_record h cause hj (hfor.owner.trans ho)
    refine ⟨j, o, hj, hfor.owner.trans ho, hfor.key, hfor.mode, hq, hfor.priority, hfor.urgent, fun hq' => ?_⟩
    obtain ⟨-, hint, hesc⟩ := hfor.form.resolve_left fun e => hq' (e ▸ hq)
    exact ⟨hint, hesc⟩
  case otherContexts => rw [State.contextsOf, clientResetSteps_contexts, Table.get_set_ne _ hd]
  case otherLines => rw [State.clientLinesOf, clientResetSteps_clientLines, Table.get_set_ne _ hd]

end Sys2Proof.Laws
end

section
/-! PROOF. The law of health (R132, R134, R137, R141): a step writes a client's health only by a score change, a detach, a rejoin or the
spacing timer, and each of these writes health that meets the law. -/

namespace Sys2Proof.Laws

open Sys2Proof.Machine Sys2Proof.Safety

/-! ## Health that meets the law -/

/-- One client's health as the law has it: the band of a score of at most 255 while attached (R134), 255 while not (R137), and a rejoin
count and a spacing timer only while REJOINING (R141). -/
def HealthStands (x : ClientHealth) : Prop :=
  (x.health.attached = true → x.score ≤ 255 ∧ x = ⟨x.score, bandOf x.score, 0, 0⟩) ∧
  (x.health = .detached → x = ⟨255, .detached, 0, 0⟩) ∧
  (x.health = .rejoining → x.score = 255 ∧ x.rejoin < 16 ∧ x.spacingLeft ≤ 10)

theorem healthLaw_iff (s : State) : HealthLaw s ↔ ∀ c, HealthStands (s.healthOf c) := .rfl

theorem healthStands_of_score {n : Nat} (hn : n ≤ 255) : HealthStands ⟨n, healthOfScore n, 0, 0⟩ := by
  have ha := healthOfScore_attached n
  refine ⟨fun _ => ⟨hn, rfl⟩, fun e => ?_, fun e => ?_⟩
  all_goals
    rw [show healthOfScore n = _ from e] at ha
    cases ha

theorem healthStands_healthy : HealthStands ⟨0, .healthy, 0, 0⟩ := healthStands_of_score (Nat.zero_le 255)

theorem healthStands_detached : HealthStands ⟨255, .detached, 0, 0⟩ := ⟨nofun, fun _ => rfl, nofun⟩

theorem healthStands_rejoining {n left : Nat} (hn : n < 16) (hl : left ≤ 10) : HealthStands ⟨255, .rejoining, n, left⟩ :=
  ⟨nofun, nofun, fun _ => ⟨rfl, hn, hl⟩⟩

/-- An attached client has neither a rejoin count nor a spacing timer. -/
theorem HealthStands.rescored {x : ClientHealth} (h : HealthStands x) (ha : x.health.attached = true) {n : Nat}
    (hn : n ≤ 255) : HealthStands { x with score := n, health := healthOfScore n } := by
  obtain ⟨hatt, -⟩ := h
  obtain ⟨-, hx⟩ := hatt ha
  rw [hx]
  exact healthStands_of_score hn

/-- A REJOINING client may begin its count or its spacing time anew (R141 to R143). -/
theorem HealthStands.recounted {x : ClientHealth} (h : HealthStands x) (hr : x.health = .rejoining) {n left : Nat}
    (hn : n < 16) (hl : left ≤ 10) : HealthStands { x with rejoin := n, spacingLeft := left } := by
  obtain ⟨-, -, hrej⟩ := h
  obtain ⟨hs, -⟩ := hrej hr
  rw [hr, hs]
  exact healthStands_rejoining hn hl

/-- A spacing timer may be lowered: outside REJOINING it stands at 0. -/
theorem HealthStands.lowered {x : ClientHealth} (h : HealthStands x) {left : Nat} (hl : left ≤ x.spacingLeft) :
    HealthStands { x with spacingLeft := left } := by
  obtain ⟨hatt, hdet, hrej⟩ := h
  have unchanged : x.spacingLeft = 0 → { x with spacingLeft := left } = x := fun e => by
    rw [show left = x.spacingLeft by omega]
  refine ⟨fun ha => ?_, fun e => ?_, fun e => ?_⟩
  · obtain ⟨hn, hx⟩ := hatt ha
    rw [unchanged (by rw [hx])]
    exact ⟨hn, hx⟩
  · have hx := hdet e
    rw [unchanged (by rw [hx])]
    exact hx
  · obtain ⟨hs, hn, hx⟩ := hrej e
    exact ⟨hs, hn, hl.trans hx⟩

end Sys2Proof.Laws

namespace Sys2Proof.Safety

open Sys2Proof.Machine Sys2Proof.Laws

/-- The law reads HLT's items alone. -/
theorem HealthLaw.same {s t : State} (h : HealthLaw s) (e : t.health = s.health) : HealthLaw t := by
  simpa only [HealthLaw, State.attached, State.healthOf, e] using h

theorem HealthLaw.stands {s : State} (h : HealthLaw s) (c : Client) : HealthStands (s.healthOf c) := h c

/-- One client's health is written, and meets the law. -/
theorem HealthLaw.written {s t : State} (h : HealthLaw s) (c : Client) {v : ClientHealth} (hv : HealthStands v)
    (e : t.health = s.health.set c v) : HealthLaw t := by
  rw [healthLaw_iff] at h ⊢
  intro d
  rw [State.healthOf, e, Table.get_set]
  split
  · exact hv
  · exact h d

theorem HealthLaw.setHealth {s : State} (h : HealthLaw s) {c : Client} {v : ClientHealth} (hv : HealthStands v) :
    HealthLaw (s.setHealth c v) := h.written c hv rfl

end Sys2Proof.Safety

namespace Sys2Proof.Laws

open Sys2Proof.Machine Sys2Proof.Safety

section Operations

variable {s : State}

/-! ## Score changes and detach -/

theorem applyScore_healthLaw (h : HealthLaw s) {c : Client} (ha : s.attached c = true) {n : Nat} (hn : n ≤ 255) :
    HealthLaw (applyScore c n s) :=
  h.written c ((h.stands c).rescored ha hn) (applyScore_health c n s)

theorem lowerScore_healthLaw (h : HealthLaw s) (c : Client) : HealthLaw (lowerScore c s) := by
  unfold lowerScore
  split
  · rename_i ha
    obtain ⟨hatt, -⟩ := h.stands c
    obtain ⟨hscore, -⟩ := hatt ha
    exact applyScore_healthLaw h ha (by omega)
  · exact h

theorem beginDetach_healthLaw (h : HealthLaw s) (c : Client) : HealthLaw (beginDetach c s) :=
  h.written c healthStands_detached (by simp [beginDetach])

theorem raiseScore_healthLaw (h : HealthLaw s) (c : Client) (k : Nat) : HealthLaw (raiseScore c k s).1 := by
  unfold raiseScore
  split
  · split
    · exact applyScore_healthLaw h (by assumption) (by assumption)
    · exact beginDetach_healthLaw h c
  · exact h

theorem finishDetach_healthLaw (h : HealthLaw s) (c : Client) : HealthLaw (finishDetach c s) := h.same (by simp)

theorem detach_healthLaw (h : HealthLaw s) (c : Client) : HealthLaw (detach c s) :=
  finishDetach_healthLaw (beginDetach_healthLaw h c) c

theorem chargeScore_healthLaw (h : HealthLaw s) (c : Client) (k : Nat) : HealthLaw (chargeScore c k s) := by
  have hr := raiseScore_healthLaw h c k
  unfold chargeScore
  dsimp only
  split
  · exact finishDetach_healthLaw hr c
  · exact hr

theorem completeRejoin_healthLaw (h : HealthLaw s) (c : Client) : HealthLaw (completeRejoin c s) :=
  h.written c healthStands_healthy (by simp [completeRejoin])

/-! ## Resets -/

/-- After power-on and a board reset every client is HEALTHY with score 0 (R145). -/
theorem healthLaw_of_reset (e : s.health = Table.const healthAtReset) : HealthLaw s :=
  healthLaw_of_healthy fun c => by rw [State.healthOf, e, Table.get_const]; rfl

/-- A client reset leaves health as it is, and a board reset makes every client HEALTHY (R129, R145). -/
theorem clientReset_healthLaw (h : HealthLaw s) (c : Client) (cause : ResetCause) : HealthLaw (clientReset c cause s) := by
  rw [clientReset_eq]
  split
  · exact healthLaw_of_reset rfl
  · exact h.same (by simp)

/-! ## Expiries -/

theorem takeAction_healthLaw (h : HealthLaw s) (c : Client) (i : RecIndex) (r : Record) (a : Action) :
    HealthLaw (takeAction c i r a s) := by
  cases a with
  | clientReset => exact clientReset_healthLaw h c .escalation
  | boardReset => exact healthLaw_of_reset rfl
  | noteOnly => exact h.same (by simp [takeAction])
  | attention => exact h.same (by simp [takeAction])
  | attentionThenReset => exact h.same (by simp [takeAction])

theorem deadlineExpires_healthLaw (h : HealthLaw s) (c : Client) (i : RecIndex) (r : Record) :
    HealthLaw (deadlineExpires c i r s) := by
  have hr : HealthLaw (s.setRecord i (some (expiredRecord r))) := h.same (by simp)
  have hc : HealthLaw (chargedDeadline c i r s).1 := (raiseScore_healthLaw hr c 8).same (by simp [chargedDeadline])
  rw [deadlineExpires_eq]
  split
  · split
    · exact healthLaw_of_reset rfl
    · exact finishDetach_healthLaw hc c
  · exact takeAction_healthLaw hc c i _ _

theorem stageExpires_healthLaw (h : HealthLaw s) (c : Client) : HealthLaw (stageExpires c s) := by
  unfold stageExpires
  split
  · split
    · exact deadlineExpires_healthLaw h c _ _
    · exact clientReset_healthLaw h c .escalation
    all_goals exact h
  · exact h

theorem expire_healthLaw (h : HealthLaw s) (t : Timer) : HealthLaw (expire t s) := by
  cases t with
  | stage c => exact stageExpires_healthLaw h c
  | spacing c => exact h.setHealth ((h.stands c).lowered (Nat.zero_le _))
  | _ => exact h.same (by simp [expire])

theorem lower_healthLaw (h : HealthLaw s) (t : Timer) : HealthLaw (lower t s) := by
  cases t with
  | spacing c => exact h.setHealth ((h.stands c).lowered (Nat.sub_le ..))
  | _ => exact h.same (by simp [lower])

/-! ## Links -/

/-- A frame error charges an attached client, and sends a REJOINING one back to the count 0 (R133, R143). -/
theorem frameError_healthLaw (h : HealthLaw s) (c : Client) : HealthLaw (frameError c s) := by
  unfold frameError
  dsimp only
  split
  · rename_i hr
    have hx : HealthLaw (s.setLink c { s.link c with frameErrors := up16 (s.link c).frameErrors }) := h.same rfl
    exact hx.setHealth ((hx.stands c).recounted hr (by decide) (by decide))
  · exact chargeScore_healthLaw (h.same (by simp)) c 2

theorem frameFails_healthLaw (h : HealthLaw s) (c : Client) : HealthLaw (frameFails c s) :=
  frameError_healthLaw (h.same (by simp)) c

theorem gapFails_healthLaw (h : HealthLaw s) (c : Client) : HealthLaw (gapFails c s) :=
  frameFails_healthLaw (h.same (by simp)) c

theorem overrun_healthLaw (h : HealthLaw s) (c : Client) : HealthLaw (overrun c s) :=
  (chargeScore_healthLaw (h.same (t := s.setLink c { s.link c with overruns := up16 (s.link c).overruns }) rfl) c 2).same
    (by simp [overrun])

theorem frameComplete_healthLaw (h : HealthLaw s) (c : Client) (kind tag : Byte) (payload : List Byte) :
    HealthLaw (frameComplete c kind tag payload s) := by
  unfold frameComplete
  split
  · exact h
  · split
    · exact overrun_healthLaw h c
    · split
      · exact h.same (by simp)
      · exact frameError_healthLaw (h.same (by simp)) c

theorem checkFrame_healthLaw (h : HealthLaw s) (c : Client) (len : Byte) (got : List Byte) (hi lo : Byte) :
    HealthLaw (checkFrame c len got hi lo s) := by
  unfold checkFrame
  split
  · split
    · exact frameComplete_healthLaw (h.same (by simp)) _ _ _ _
    · exact frameFails_healthLaw h c
  · exact frameFails_healthLaw h c

theorem advance_healthLaw (h : HealthLaw s) (c : Client) (b : Byte) : HealthLaw (advance c b s) := by
  unfold advance
  split
  · split
    · exact h.same (by simp)
    · exact h
  · split
    · exact h.same (by simp)
    · exact frameFails_healthLaw h c
  · split <;> exact h.same (by simp)
  · exact h.same (by simp)
  · exact checkFrame_healthLaw h _ _ _ _ _

theorem receiveByte_healthLaw (h : HealthLaw s) (c : Client) (b : Byte) : HealthLaw (receiveByte c b s) := by
  have hw : HealthLaw (wakeHub s) := h.same (by simp)
  have hg : HealthLaw (if gapPassed (wakeHub s) c then gapFails c (wakeHub s) else wakeHub s) := by
    split
    · exact gapFails_healthLaw hw c
    · exact hw
  unfold receiveByte
  split
  · exact h
  · exact advance_healthLaw (hg.same (by simp)) c b

theorem frameSent_healthLaw (h : HealthLaw s) (c : Client) : HealthLaw (frameSent c s) := by
  unfold frameSent
  split
  · exact h
  · dsimp only
    split
    · split
      · exact healthLaw_of_reset rfl
      · exact h.same (by simp)
    all_goals exact h.same (by simp)

/-! ## Requests -/

theorem ackPresented_healthLaw (h : HealthLaw s) (c : Client) (i : RecIndex) (r : Record) (d : Disposition) :
    HealthLaw (ackPresented c i r d s) := by
  have hx : HealthLaw (ackEndsHoldOff c (openGate c (freeRecord i r d.cause (decideGroup i r d (setAttention c false s))))) :=
    h.same (by simp)
  unfold ackPresented
  dsimp only
  split
  · exact hx
  · exact lowerScore_healthLaw hx c

theorem ackNamed_healthLaw (h : HealthLaw s) (c : Client) (x : Handle) (d : Disposition) : HealthLaw (ackNamed c x d s).1 := by
  unfold ackNamed
  split
  · exact ackPresented_healthLaw h _ _ _ _
  · split
    · exact h.same (by simp)
    · split
      · exact h
      · exact chargeScore_healthLaw h c 4

theorem exchange_healthLaw (h : HealthLaw s) (c : Client) (k : ContextName) : HealthLaw (exchange c k s).1 := by
  unfold exchange
  split
  · exact h
  · split
    · exact h.same (by simp)
    · split
      · exact h
      · exact h.same (by simp)

theorem raiseEvent_healthLaw (h : HealthLaw s) (c : Client) (cls : BitVec 4) (code : BitVec 12) (created : Micros) :
    HealthLaw (raiseEvent c cls code created s).1 := by
  unfold raiseEvent
  split
  · exact h
  · exact h.same (by simp)

theorem post_healthLaw (h : HealthLaw s) (c : Client) (f : PostFields) (created : Micros) : HealthLaw (post c f created s).1 := by
  unfold post
  split
  · exact h
  · split
    · exact h
    · split
      · exact h
      · exact h.same (by simp)

theorem withdraw_healthLaw (h : HealthLaw s) (c : Client) (n : SlotNo) : HealthLaw (withdraw c n s).1 := by
  unfold withdraw
  split
  · exact h
  · exact h
  · split
    · exact h.same (by simp [refuse])
    · exact h

theorem signal_healthLaw (h : HealthLaw s) (f : SignalFields) (created : Micros) : HealthLaw (signal f created s).1 := by
  unfold signal
  split
  · exact h
  · split
    · exact h.same (by simp)
    · split
      · exact h.same (by simp)
      · exact h

/-- The count stays below 16: the sixteenth HEARTBEAT completes the rejoin (R142, R143). -/
theorem heartbeat_healthLaw (h : HealthLaw s) (c : Client) : HealthLaw (heartbeat c s) := by
  unfold heartbeat
  dsimp only
  split
  · rename_i hr
    obtain ⟨hr, -⟩ := hr
    split
    · exact completeRejoin_healthLaw h c
    · rename_i hn
      exact h.setHealth ((h.stands c).recounted hr (Nat.lt_of_not_le hn) (by decide))
  · exact h

theorem rejoin_healthLaw (h : HealthLaw s) (c : Client) : HealthLaw (rejoin c s).1 := by
  unfold rejoin
  dsimp only
  split
  · rename_i hd
    obtain ⟨-, hdet, -⟩ := h.stands c
    refine h.setHealth ?_
    rw [hdet hd]
    exact healthStands_rejoining (by decide) (by decide)
  · exact h

theorem rule_healthLaw {c : Client} {rule : Request → State → Answer} (hr : RuleOf c rule) (q : Request) (h : HealthLaw s) :
    HealthLaw (rule q s).1 := by
  cases hr with
  | ready => exact withFields_keeps h fun _ _ => h.same (by simp)
  | ack => exact withFields_keeps h fun _ _ => whileAttached_keeps h (ackNamed_healthLaw h _ _ _)
  | exchange => exact withFields_keeps h fun _ _ => whileAttached_keeps h (exchange_healthLaw h _ _)
  | contextSet => exact withFields_keeps h fun _ _ => whileAttached_keeps h (h.same (by simp [accept]))
  | timerSet => exact withFields_keeps h fun _ _ => whileAttached_keeps h (h.same (by simp))
  | raise =>
    exact withPrivilege_keeps h (withFields_keeps h fun _ _ => whileAttached_keeps h (raiseEvent_healthLaw h _ _ _ _))
  | post => exact withPrivilege_keeps h (withFields_keeps h fun _ _ => whileAttached_keeps h (post_healthLaw h _ _ _))
  | withdraw => exact withPrivilege_keeps h (withFields_keeps h fun _ _ => whileAttached_keeps h (withdraw_healthLaw h _ _))
  | signal => exact withPrivilege_keeps h (withFields_keeps h fun _ _ => whileAttached_keeps h (signal_healthLaw h _ _))
  | heartbeat => exact withFields_keeps h fun _ _ => heartbeat_healthLaw h c
  | rejoin => exact withFields_keeps h fun _ _ => rejoin_healthLaw h c
  | query => exact withFields_keeps h fun _ _ => h
  | routeWrite =>
    refine configure_keeps h fun _ _ => ?_
    unfold writeEntry
    split
    · exact h
    · exact h.same (by simp [accept])
  | bankSet => exact configure_keeps h fun _ _ => h.same (by simp)
  | lineSet => exact configure_keeps h fun _ _ => h.same (by simp)
  | profileSet => exact configure_keeps h fun _ _ => h.same (by simp [accept])
  | clientSet => exact configure_keeps h fun _ _ => h.same (by simp [accept, setClient, setPrivileges])
  | routeRead => exact withFields_keeps h fun _ _ => whileAttached_keeps h h
  | lineRead => exact withFields_keeps h fun _ _ => whileAttached_keeps h h
  | profileRead => exact withFields_keeps h fun _ _ => whileAttached_keeps h h
  | clientRead => exact withFields_keeps h fun _ _ => whileAttached_keeps h h
  | forceAttach =>
    refine withPrivilege_keeps h (withFields_keeps h fun d _ => whileAttached_keeps h ?_)
    unfold forceAttach
    split
    · exact h
    · exact completeRejoin_healthLaw h d
  | forceDetach =>
    refine withPrivilege_keeps h (withFields_keeps h fun d _ => whileAttached_keeps h ?_)
    unfold forceDetach
    split
    · exact detach_healthLaw h d
    · exact h
  | forceReset =>
    exact withPrivilege_keeps h (withFields_keeps h fun _ _ => whileAttached_keeps h (clientReset_healthLaw h _ _))
  | freeze =>
    exact withPrivilege_keeps h (unlessFrozen_keeps h (withFields_keeps h fun _ _ =>
      whileAttached_keeps h (h.same (by simp [accept]))))
  | sleep =>
    refine withPrivilege_keeps h (withFields_keeps h fun _ _ => whileAttached_keeps h ?_)
    unfold sleepRequest
    split
    · exact h.same (by simp [accept])
    · exact h
    · exact h
  | wake =>
    refine withPrivilege_keeps h (withFields_keeps h fun _ _ => whileAttached_keeps h ?_)
    unfold wakeRequest
    split
    · exact h.same (by simp [accept])
    · exact h
    · exact h
  | resetHub =>
    exact withPrivilege_keeps h (withFields_keeps h fun _ _ => whileAttached_keeps h (h.same (by simp [accept])))
  | noteSet => exact withPrivilege_keeps h (withFields_keeps h fun _ _ => whileAttached_keeps h (h.same (by simp)))
  | status => exact withFields_keeps h fun _ _ => whileAttached_keeps h h

/-! ## Every step -/

theorem takeRequest_healthLaw {c : Client} {rule : Request → State → Answer} (hr : RuleOf c rule)
    (wanted : Request → Bool) (h : HealthLaw s) : HealthLaw (takeRequest c wanted rule s) := by
  rcases takeRequest_cases c wanted rule s with e | ⟨q, rest, -, -, -, e⟩ <;> rw [e]
  · exact h
  · have hu : HealthLaw (withoutRequest c rest s) := h.same rfl
    exact (rule_healthLaw hr q hu).same (by simp)

theorem assertResetInput_healthLaw (h : HealthLaw s) (pins : PinLevels) : HealthLaw (assertResetInput pins s) := by
  unfold assertResetInput
  dsimp only
  split
  · exact h.same rfl
  · exact healthLaw_of_reset rfl

theorem healthLaw_keptByParts : KeptByParts HealthLaw where
  pending _ _ h := h.same rfl
  time _ _ h := h.same rfl
  settle _ h := h.same (by simp)
  lower t _ h := lower_healthLaw h t
  expire t _ h := expire_healthLaw h t
  gapFails c _ h := gapFails_healthLaw h c
  receiveByte c b _ h := receiveByte_healthLaw h c b
  frameSent c _ h := frameSent_healthLaw h c
  takeHead _ h := h.same (by simp)
  changeRawLevel l v _ h := h.same (by simp)
  powerOn _ _ _ _ := healthLaw_of_reset rfl
  assertInput pins _ h := assertResetInput_healthLaw h pins
  releaseInput _ h := h.same rfl
  take _ wanted _ _ hr h := takeRequest_healthLaw hr wanted h

end Operations

/-- Settles O59: each part of which a step is made keeps the law of health. -/
theorem everyStepKeepsTheHealthLaw : Obligations.EveryStepKeepsTheHealthLaw := healthLaw_keptByParts.kept

end Sys2Proof.Laws
end

section
/-! PROOF. A change of a score by its bands (R134), and the requests HEARTBEAT and REJOIN (R141 to R143). -/

namespace Sys2Proof.Laws

open Sys2Proof.Machine Sys2Proof.Safety

variable {c : Client} {s u : State} {a : Arrival} {q : Request}

/-! ## The bands (R134) -/

/-- The health of an attached client whose score becomes n. -/
def rescored (c : Client) (n : Nat) (s : State) : State := s.setHealth c { s.healthOf c with score := n, health := bandOf n }

theorem applyScore_within {n : Nat} (h : bandOf n = (s.healthOf c).health) : applyScore c n s = rescored c n s := if_pos h

theorem applyScore_noticed {n : Nat} (h : bandOf n ≠ (s.healthOf c).health) : applyScore c n s =
    if bandOf n = .restricted ∨ (s.healthOf c).health = .restricted then
      examine c (offerNotice .health (16 * c.val + (bandOf n).code) (rescored c n s))
    else offerNotice .health (16 * c.val + (bandOf n).code) (rescored c n s) := if_neg h

theorem chargeScore_stays {k : Nat} (ha : s.attached c = true) (hn : (s.healthOf c).score + k ≤ 255) :
    chargeScore c k s = applyScore c ((s.healthOf c).score + k) s := by
  rw [chargeScore, raiseScore_stays ha hn]
  rfl

theorem chargeScore_detaches {k : Nat} (ha : s.attached c = true) (hn : 255 < (s.healthOf c).score + k) :
    chargeScore c k s = detach c s := by
  rw [chargeScore, raiseScore_detaches ha hn]
  rfl

theorem chargeScore_unattached (ha : s.attached c = false) (k : Nat) : chargeScore c k s = s := by
  have hr : raiseScore c k s = (s, false) := if_neg (by rw [ha]; nofun)
  rw [chargeScore, hr]
  rfl

theorem lowerScore_attached (ha : s.attached c = true) : lowerScore c s = applyScore c ((s.healthOf c).score - 1) s := if_pos ha

theorem lowerScore_unattached (ha : s.attached c = false) : lowerScore c s = s := if_neg (by rw [ha]; nofun)

/-- Settles O35: by attachment, by the end of the scale at 255, and by whether the band of the new score is another. -/
theorem scoreChangesByItsBands : Obligations.ScoreChangesByItsBands := by
  intro c k s
  refine ⟨fun ha => ⟨chargeScore_unattached ha k, lowerScore_unattached ha⟩, chargeScore_detaches, chargeScore_stays,
    lowerScore_attached, fun n v hv => ⟨fun h => ?_, fun h hn hx => ?_, fun h hr => ?_⟩⟩
  · rw [hv]
    exact applyScore_within h
  · rw [hv, applyScore_noticed h, if_neg (not_or.2 ⟨hn, hx⟩)]
    rfl
  · rw [hv, applyScore_noticed h, if_pos hr]
    rfl

/-! ## HEARTBEAT and REJOIN -/

theorem exec_heartbeat (ht : Takes s c .heartbeat a q u) : exec (.heartbeat c a) s = .next (outcomeOf c q
    (withFields (parseEmpty q.payload) u fun _ => (heartbeat c u, .ok, healthFields (heartbeat c u) c))) :=
  congrArg Host.Outcome.next (serve_of_takes (ruleHeartbeat c) ht)

theorem exec_rejoin (ht : Takes s c .rejoin a q u) : exec (.rejoin c a) s = .next (outcomeOf c q
    (withFields (parseEmpty q.payload) u fun _ => rejoin c u)) :=
  congrArg Host.Outcome.next (serve_of_takes (ruleRejoin c) ht)

theorem outcomeOf_empty (c : Client) (u : State) (h : q.payload = []) (rest : Unit → Answer) :
    outcomeOf c q (withFields (parseEmpty q.payload) u rest) = outcomeOf c q (rest ()) := by
  rw [(parseEmpty_eq q.payload ()).2 h, outcomeOf_withFields_some]

theorem outcomeOf_nonempty (c : Client) (u : State) (h : q.payload ≠ []) (rest : Unit → Answer) :
    outcomeOf c q (withFields (parseEmpty q.payload) u rest) = replied c q .badField [] u :=
  outcomeOf_fields_none c q u (fun x e => h ((parseEmpty_eq q.payload x).1 e)) rest

theorem heartbeat_uncounted (h : (u.healthOf c).health ≠ .rejoining ∨ (u.healthOf c).spacingLeft ≠ 0) : heartbeat c u = u :=
  if_neg fun e => h.elim (fun hr => hr e.1) fun hs => hs e.2

theorem heartbeat_counted (hr : (u.healthOf c).health = .rejoining) (hs : (u.healthOf c).spacingLeft = 0)
    (hn : (u.healthOf c).rejoin + 1 < 16) : heartbeat c u =
      u.setHealth c { u.healthOf c with rejoin := (u.healthOf c).rejoin + 1, spacingLeft := 10 } :=
  (if_pos ⟨hr, hs⟩).trans (if_neg (Nat.not_le.2 hn))

theorem heartbeat_completes (hr : (u.healthOf c).health = .rejoining) (hs : (u.healthOf c).spacingLeft = 0)
    (hn : 16 ≤ (u.healthOf c).rejoin + 1) : heartbeat c u = completeRejoin c u := (if_pos ⟨hr, hs⟩).trans (if_pos hn)

theorem setHealth_healthOf (s : State) (c : Client) (v : ClientHealth) : (s.setHealth c v).healthOf c = v :=
  Table.get_set_same ..

theorem completeRejoin_healthOf (c : Client) (u : State) : (completeRejoin c u).healthOf c = ⟨0, .healthy, 0, 0⟩ := by
  simp [completeRejoin, State.healthOf]

theorem rejoin_detached (h : (u.healthOf c).health = .detached) :
    rejoin c u = accept (u.setHealth c ⟨(u.healthOf c).score, .rejoining, 0, 10⟩) := if_pos h

theorem rejoin_other (h : (u.healthOf c).health ≠ .detached) : rejoin c u = refuse .notDetached u := if_neg h

/-- Settles O38: the payload first, then the state of the client and, in REJOINING, the spacing timer and the count. -/
theorem heartbeatsAndRejoin : Obligations.HeartbeatsAndRejoin := by
  refine ⟨fun s u c a q ht => ⟨fun hq => ?_, fun hq => ⟨fun hn => ?_, fun hr hs => ⟨fun hn => ?_, fun hn => ?_⟩⟩⟩,
    fun s u c a q ht => ⟨fun hq => ?_, fun hq hd => ?_, fun hq hd => ?_⟩⟩
  · rw [exec_heartbeat ht, outcomeOf_nonempty c u hq]
  · rw [exec_heartbeat ht, outcomeOf_empty c u hq, heartbeat_uncounted hn]
    rfl
  · rw [exec_heartbeat ht, outcomeOf_empty c u hq, heartbeat_counted hr hs hn, healthFields,
      setHealth_healthOf, hr]
    rfl
  · rw [exec_heartbeat ht, outcomeOf_empty c u hq, heartbeat_completes hr hs hn, healthFields, completeRejoin_healthOf]
    rfl
  · rw [exec_rejoin ht, outcomeOf_nonempty c u hq]
  · rw [exec_rejoin ht, outcomeOf_empty c u hq, rejoin_other hd, outcomeOf_refuse]
  · rw [exec_rejoin ht, outcomeOf_empty c u hq, rejoin_detached hd, outcomeOf_accept]

end Sys2Proof.Laws
end

section
/-! PROOF. What a detach does with its client's records (R137, R138, R72): their order, the line of the table for each, and the
transfer to a fallback. -/

namespace Sys2Proof.Laws

open Sys2Proof.Machine Sys2Proof.Safety

variable {c f : Client} {i : RecIndex} {r : Record} {s u v : State} {fs : List Client} {p : State × List Client}

/-! ## The steps of a detach (R137) -/

/-- The fallbacks of `fs` are examined in ascending order, CTX before PRS. -/
theorem examineFallbacks_eq (fs : List Client) (s : State) : examineFallbacks fs s =
    ([0, 1, 2, 3] : List Client).foldl (fun x d => if d ∈ fs then examine d (ctxExamine d x) else x) s := by
  rw [examineFallbacks, List.foldl_filter]
  simp only [List.contains_iff_mem]
  rfl

/-- The steps of a detach, from the state `v` in which its client is DETACHED and its attention line released. -/
theorem detach_eq (hv : v = setAttention c false (beginDetach c s)) (hp : p = (recordsInOrder v c).foldl (disposeAt c) (v, [])) :
    detach c s = completeWake s.sup.mode (examineFallbacks p.2 (examine c (clearDetached c p.1))) := by
  have hm : (beginDetach c s).mode = s.sup.mode := by simp [State.mode]
  rw [detach, finishDetach, hm, disposeAll, ← hv, ← hp]

/-! ## The lines of R138's table -/

/-- The key of a record that is neither a signal's nor a post's. -/
def EventKey (k : Key) : Prop := k.isSignal = false ∧ k.isPost = false

theorem eventKey_of_source {k : Key} (h : k.source.toNat < 37 ∨ 41 < k.source.toNat) : EventKey k := by
  refine ⟨Bool.eq_false_iff.2 fun e => ?_, Bool.eq_false_iff.2 fun e => ?_⟩
  · have hs : k.source.toNat = 41 := by rw [(isSignal_iff _).1 e]; rfl
    omega
  · have hs := (isPost_iff _).1 e
    omega

theorem disposeAt_free (h : s.record i = none) : disposeAt c (s, fs) i = (s, fs) := by
  simp only [disposeAt, h]

theorem disposeAt_record (h : s.record i = some r) : disposeAt c (s, fs) i = disposeRecord c i r (s, fs) := by
  simp only [disposeAt, h]

theorem disposeRecord_signal (h : r.key.isSignal = true) (p : State × List Client) :
    disposeRecord c i r p = (freeWithin i r .other p.1, p.2) := if_pos h

theorem disposeRecord_post (h : r.key.isPost = true) (p : State × List Client) :
    disposeRecord c i r p = (dropRecord c i r p.1, p.2) := by
  have hs : r.key.isSignal ≠ true := fun e => by
    have hsrc := (isPost_iff _).1 h
    rw [(isSignal_iff _).1 e] at hsrc
    exact absurd hsrc (by decide)
  rw [disposeRecord, if_neg hs, if_pos h]

/-- No fallback can receive the record. -/
theorem disposeRecord_dropped (h : EventKey r.key) (hf : fallbackFor p.1 c r = none) :
    disposeRecord c i r p = (dropRecord c i r p.1, p.2) := by
  obtain ⟨hs, hp⟩ := h
  simp only [disposeRecord, hs, hp, hf, Bool.false_eq_true, if_false]

theorem disposeRecord_each (h : EventKey r.key) (hf : fallbackFor p.1 c r = some f) (hm : r.mode = .each) :
    disposeRecord c i r p = (transfer i r f p.1, f :: p.2) := by
  obtain ⟨hs, hp⟩ := h
  simp only [disposeRecord, hs, hp, hf, hm, Bool.false_eq_true, if_false]

theorem disposeRecord_first {g : GroupNo} (h : EventKey r.key) (hf : fallbackFor p.1 c r = some f) (hm : r.mode = .first g) :
    disposeRecord c i r p =
      if holdsCopy p.1 f g = true then (freeWithin i r .other p.1, p.2) else (transfer i r f p.1, f :: p.2) := by
  obtain ⟨hs, hp⟩ := h
  simp only [disposeRecord, hs, hp, hf, hm, Bool.false_eq_true, if_false]

theorem fallbackFor_of (h : r.fallback = some f) (ha : s.attached f = true) (hc : f ≠ c) : fallbackFor s c r = some f := by
  simp [fallbackFor, h, ha, hc]

theorem fallbackFor_none (h : ∀ f, r.fallback = some f → s.attached f = false ∨ f = c) : fallbackFor s c r = none := by
  refine Option.filter_eq_none_iff.2 fun f hf => ?_
  rcases h f hf with ha | hc
  · simp [ha]
  · simp [hc]

theorem holdsCopy_iff {g : GroupNo} :
    holdsCopy s f g = true ↔ ∃ j o, s.record j = some o ∧ o.owner = f ∧ o.mode = .first g := by
  rw [holdsCopy, holdsRecord_iff]
  simp

theorem not_holdsCopy {g : GroupNo} (h : ∀ j o, s.record j = some o → o.owner = f → o.mode ≠ .first g) :
    ¬ holdsCopy s f g = true := fun e => by
  obtain ⟨j, o, hj, ho, hm⟩ := holdsCopy_iff.1 e
  exact h j o hj ho hm

/-! ## The transfer (R72) -/

theorem handed_eq (hv : v = if r.state = .presented then s.setLink r.owner { s.link r.owner with
      hub := (s.link r.owner).hub.filter fun x => !x.delivers ⟨i, (s.slot i).gen⟩ } else s)
    {w : State} (hw : w = if r.state = .queued then v.setQueue r.owner ((v.queue r.owner).filter (· ≠ i)) else v) :
    handed i r f s = enqueue (w.setSlot i ⟨(s.slot i).gen, some { r with owner := f, state := .queued, esc := none }⟩)
      f r.priority i := by
  have hg : (w.slot i).gen = (s.slot i).gen := by
    rw [hw, hv]
    split <;> split <;> rfl
  rw [← hg, hw, hv]
  rfl

/-- Settles O37: the steps in their order, the line of the table that fits the record, and the two ways of a transfer. -/
theorem detachDisposesOfEachRecord : Obligations.DetachDisposesOfEachRecord := by
  refine ⟨fun c s u v p hu hv hp => ?_, fun c i s fs => ⟨disposeAt_free, fun r hr => ?_⟩, fun i r f s => ⟨?_, ?_⟩⟩
  · rw [detach_eq (p := p) (hv.trans (by rw [hu]; rfl)) hp, examineFallbacks_eq]
  · rw [disposeAt_record hr]
    refine ⟨fun hs => disposeRecord_signal ((isSignal_iff _).2 hs) _, fun h1 h2 => disposeRecord_post ((isPost_iff _).2 ⟨h1, h2⟩) _,
      fun hw => ⟨fun hf => disposeRecord_dropped (eventKey_of_source hw) (fallbackFor_none hf), fun f hf ha hc => ?_⟩⟩
    have hfor : fallbackFor s c r = some f := fallbackFor_of hf ha hc
    refine ⟨disposeRecord_each (eventKey_of_source hw) hfor, fun g hm => ⟨fun hg => ?_, fun hg => ?_⟩⟩ <;>
      rw [disposeRecord_first (eventKey_of_source hw) hfor hm]
    · exact if_pos (holdsCopy_iff.2 hg)
    · exact if_neg (not_holdsCopy hg)
  · intro j o v hm hj hv
    rw [transfer_of_merge hm hj, foldInto_eq, hv]
    rfl
  · intro v w hn hv hw
    rw [transfer_of_alone hn, handed_eq hv hw]

end Sys2Proof.Laws
end

section
/-! PROOF. What a detach leaves of its client (R137): none of its records, and the items that no later examination touches, since the
client is not attached any more. -/

namespace Sys2Proof.Laws

open Sys2Proof.Machine Sys2Proof.Safety Function

variable {c d f : Client} {i : RecIndex} {r : Record} {s t u : State}

/-! ## Whose record stands at an index -/

def ownerAt (s : State) (i : RecIndex) : Option Client := (s.record i).map Record.owner

theorem ownerAt_of_record (h : s.record i = some r) : ownerAt s i = some r.owner := by rw [ownerAt, h, Option.map_some]

theorem ownerAt_eq_some : ownerAt s i = some c ↔ ∃ r, s.record i = some r ∧ r.owner = c := Option.map_eq_some_iff

theorem ownerAt_of_pool (h : t.pool = s.pool) : ownerAt t = ownerAt s := funext fun i => by
  rw [ownerAt, record_of_pool h, ownerAt]

theorem ownerAt_of_holding (h : holding t = holding s) : ownerAt t = ownerAt s := by
  have hx : ∀ u : State, ownerAt u = fun i => (holding u i).map Prod.fst := fun u => funext fun i => by
    rw [ownerAt, holding, Option.map_map]
    rfl
  rw [hx t, h, ← hx s]

theorem ownerAt_eq_faceAt (s : State) : ownerAt s = fun i => (faceAt s i).map Face.owner := funext fun i => by
  rw [ownerAt, faceAt, Option.map_map]
  rfl

theorem ownerAt_of_faceAt (h : faceAt t = faceAt s) : ownerAt t = ownerAt s := by
  rw [ownerAt_eq_faceAt, h, ← ownerAt_eq_faceAt]

theorem ownerAt_update {v : Option Face} (h : faceAt t = update (faceAt s) i v) :
    ownerAt t = update (ownerAt s) i (v.map Face.owner) := by
  funext j
  simp only [ownerAt_eq_faceAt, h, update_apply]
  split <;> rfl

theorem examine_ownerAt (d : Client) (s : State) : ownerAt (examine d s) = ownerAt s := ownerAt_of_holding (examine_holding d s)

theorem completeWake_ownerAt (m : HubMode) (s : State) : ownerAt (completeWake m s) = ownerAt s :=
  ownerAt_of_holding (completeWake_holding m s)

theorem exchangeToService_ownerAt (d : Client) (cause : ContextCause) (s : State) :
    ownerAt (exchangeToService d cause s) = ownerAt s := by
  unfold exchangeToService
  split
  · rename_i i r e
    obtain ⟨-, hr, -, -⟩ := heldIn_some e
    have hs : ownerAt (suspendedFor d cause i r s) = ownerAt s := by
      rw [ownerAt_update (suspendedFor_faceAt d cause i r s)]
      exact (congrArg _ (ownerAt_of_record hr).symm).trans (update_eq_self i _)
    exact (examine_ownerAt d _).trans hs
  · exact (examine_ownerAt d _).trans (ownerAt_of_pool (by simp))

theorem entered_ownerAt (d : Client) (s : State) : ownerAt (entered d s) = ownerAt s := by
  have hx : ownerAt (ctxExamine d s) = ownerAt s := by
    unfold ctxExamine
    split
    · exact exchangeToService_ownerAt d .forced s
    · rfl
  exact (examine_ownerAt d _).trans hx

theorem examineFallbacks_ownerAt (fs : List Client) (s : State) : ownerAt (examineFallbacks fs s) = ownerAt s :=
  foldl_keeps _ ownerAt (fun u d => entered_ownerAt d u) _ s

/-! ## The disposal of a record -/

/-- One index is written, and holds no record of client c any more. -/
def Rid (c : Client) (i : RecIndex) (s t : State) : Prop := ∃ w, w ≠ some c ∧ ownerAt t = update (ownerAt s) i w

theorem Rid.of_same (h : Rid c i u t) (e : ownerAt u = ownerAt s) : Rid c i s t := by rwa [Rid, ← e]

theorem freeWithin_rid (c : Client) (i : RecIndex) (r : Record) (cause : FreeCause) (s : State) :
    Rid c i s (freeWithin i r cause s) := ⟨none, nofun, ownerAt_update (freeWithin_faceAt i r cause s)⟩

theorem dropRecord_rid (c : Client) (i : RecIndex) (r : Record) (s : State) : Rid c i s (dropRecord c i r s) :=
  (freeWithin_rid c i r .drop (dropFor c r.key s)).of_same (ownerAt_of_pool (by simp))

theorem handed_rid (hf : f ≠ c) (i : RecIndex) (r : Record) (s : State) : Rid c i s (handed i r f s) :=
  ⟨some f, fun e => hf (Option.some.inj e), ownerAt_update (handed_faceAt i r f s)⟩

/-- A transferred record has another owner, or is merged into one of another index (R72). -/
theorem transfer_rid (hf : f ≠ c) (i : RecIndex) (r : Record) (s : State) : Rid c i s (transfer i r f s) := by
  by_cases hm : r.mode = .each
  · cases e : sameKeyRecord s f r.key none with
    | none =>
      rw [transfer_of_alone (.inr e)]
      exact handed_rid hf i r s
    | some p =>
      obtain ⟨-, -, hj, -, -, -⟩ := sameKeyRecord_some e
      rw [transfer_of_merge hm e]
      exact (freeWithin_rid c i r .other _).of_same (ownerAt_of_faceAt (foldInto_faceAt hj ..))
  · rw [transfer_of_alone (.inl hm)]
    exact handed_rid hf i r s

theorem disposeRecord_rid (c : Client) (i : RecIndex) (r : Record) (p : State × List Client) :
    Rid c i p.1 (disposeRecord c i r p).1 := by
  unfold disposeRecord
  split
  · exact freeWithin_rid c i r .other p.1
  · split
    · exact dropRecord_rid c i r p.1
    · split
      · exact dropRecord_rid c i r p.1
      · rename_i f hf
        obtain ⟨-, hne⟩ := fallbackFor_some hf
        split
        · exact transfer_rid hne i r p.1
        · split
          · exact freeWithin_rid c i r .other p.1
          · exact transfer_rid hne i r p.1

theorem disposeAt_rid (c : Client) (p : State × List Client) (i : RecIndex) : Rid c i p.1 (disposeAt c p i).1 := by
  unfold disposeAt
  split
  · exact disposeRecord_rid c i _ p
  · rename_i hr
    exact ⟨none, nofun, by rw [← show ownerAt p.1 i = none by rw [ownerAt, hr]; rfl, update_eq_self]⟩

/-- What is left of client c's records after a disposal was there before, and stands at none of the indexes disposed of. -/
theorem disposeFold_ownerAt {j : RecIndex} (q : List RecIndex) : ∀ p : State × List Client,
    ownerAt (q.foldl (disposeAt c) p).1 j = some c → ownerAt p.1 j = some c ∧ j ∉ q := by
  induction q with
  | nil => exact fun p h => ⟨h, List.not_mem_nil⟩
  | cons i q ih =>
    intro p h
    obtain ⟨hj, hq⟩ := ih (disposeAt c p i) h
    obtain ⟨w, hw, e⟩ := disposeAt_rid c p i
    rw [e, update_apply] at hj
    split at hj
    · exact absurd hj hw
    · rename_i hne
      exact ⟨hj, List.not_mem_cons_of_ne_of_not_mem hne hq⟩

theorem recordIn_of_pool (h : t.pool = s.pool) (c : Client) (st : RecState) : recordIn t c st = recordIn s c st := by
  simp only [recordIn, record_of_pool h]

theorem recordsInOrder_of_store (hp : t.pool = s.pool) (hq : t.queues = s.queues) (c : Client) :
    recordsInOrder t c = recordsInOrder s c := by
  simp only [recordsInOrder, presentedOf, suspendedOf, recordIn_of_pool hp, State.queue, hq]

/-! ## The items of a client that is not attached -/

/-- Client c's own items stand: its health, its presentation, its contexts, its lines and its pending flags. -/
structure Aside (c : Client) (s t : State) : Prop where
  health : t.healthOf c = s.healthOf c
  presentation : t.presentationOf c = s.presentationOf c
  contexts : t.contextsOf c = s.contextsOf c
  lines : t.clientLinesOf c = s.clientLinesOf c
  flags : (t.postsOf c).pendingFlags = (s.postsOf c).pendingFlags

theorem Aside.refl (c : Client) (s : State) : Aside c s s := ⟨rfl, rfl, rfl, rfl, rfl⟩

theorem Aside.trans (h : Aside c s t) (h' : Aside c t u) : Aside c s u :=
  ⟨h'.health.trans h.health, h'.presentation.trans h.presentation, h'.contexts.trans h.contexts, h'.lines.trans h.lines,
    h'.flags.trans h.flags⟩

theorem Aside.attached (h : Aside c s t) (ha : s.attached c = false) : t.attached c = false := by
  rwa [State.attached, h.health]

theorem examine_aside (ha : s.attached c = false) (d : Client) : Aside c s (examine d s) := by
  rcases examine_cases d s with e | ⟨i, r, -, -, ⟨-, -, hd⟩, e⟩ <;> rw [e]
  · exact .refl c s
  · have hcd : c ≠ d := fun x => by
      subst x
      exact absurd (hd.symm.trans ha) nofun
    have hr := present_rests hcd i r s
    exact ⟨by simp [State.healthOf], hr.presentation, by simp [State.contextsOf], by simp [State.clientLinesOf], hr.flags⟩

theorem enterService_aside (hcd : c ≠ d) (h : Option Handle) (s : State) : Aside c s (enterService d h s) :=
  ⟨rfl, rfl, Table.get_set_ne _ hcd _, rfl, rfl⟩

theorem setGate_aside (hcd : c ≠ d) (isOpen : Bool) (s : State) : Aside c s (setGate d isOpen s) :=
  ⟨rfl, Table.get_set_ne _ hcd _, rfl, rfl, rfl⟩

theorem placeHubFrame_aside (c d : Client) (x : HubFrame) (s : State) : Aside c s (placeHubFrame d x s) :=
  ⟨rfl, rfl, rfl, rfl, rfl⟩

theorem suspend_aside (hcd : c ≠ d) (i : RecIndex) (r : Record) (s : State) : Aside c s (suspend d i r s) :=
  ⟨rfl, rfl, rfl, Table.get_set_ne _ hcd _, rfl⟩

theorem suspendedFor_aside (hcd : c ≠ d) (cause : ContextCause) (i : RecIndex) (r : Record) (s : State) :
    Aside c s (suspendedFor d cause i r s) :=
  (((suspend_aside hcd i r s).trans (enterService_aside hcd _ _)).trans (placeHubFrame_aside c d _ _)).trans
    (setGate_aside hcd true _)

theorem exchangeToService_aside (ha : s.attached c = false) (hcd : c ≠ d) (cause : ContextCause) :
    Aside c s (exchangeToService d cause s) := by
  unfold exchangeToService
  split
  · rename_i i r _
    have hs := suspendedFor_aside hcd cause i r s
    exact hs.trans (examine_aside (hs.attached ha) d)
  · have hs : Aside c s (placeHubFrame d (.context .service cause none) (enterService d none s)) :=
      (enterService_aside hcd none s).trans (placeHubFrame_aside c d _ _)
    exact hs.trans (examine_aside (hs.attached ha) d)

theorem ctxExamine_aside (ha : s.attached c = false) (d : Client) : Aside c s (ctxExamine d s) := by
  unfold ctxExamine
  split
  · rename_i hc
    refine exchangeToService_aside ha (fun x => ?_) .forced
    subst x
    obtain ⟨-, hatt, -⟩ := (forcedCondition_iff s c).1 hc
    exact absurd (((attached_iff s c).2 hatt).symm.trans ha) nofun
  · exact .refl c s

/-- A record that enters another client's queue leaves a client that is not attached alone (R75, R108). -/
theorem entered_aside (ha : s.attached c = false) (d : Client) : Aside c s (entered d s) :=
  have hx := ctxExamine_aside ha d
  hx.trans (examine_aside (hx.attached ha) d)

theorem examineFallbacks_aside (ha : s.attached c = false) (fs : List Client) : Aside c s (examineFallbacks fs s) :=
  List.foldlRecOn (motive := Aside c s) _ _ (.refl c s) fun _ hu d _ => hu.trans (entered_aside (hu.attached ha) d)

theorem completeWake_aside (ha : s.attached c = false) (m : HubMode) : Aside c s (completeWake m s) :=
  completeWake_keeps_of (P := Aside c s) (fun d _ hu => hu.trans (examine_aside (hu.attached ha) d)) (.refl c s) m

/-! ## The steps of a detach -/

theorem transfer_presentation (i : RecIndex) (r : Record) (f : Client) (s : State) :
    (transfer i r f s).presentation = s.presentation := by
  by_cases hn : r.mode ≠ .each ∨ sameKeyRecord s f r.key none = none
  · obtain ⟨-, hp, -⟩ := handed_fields i r f s
    rw [transfer_of_alone hn, hp]
  · obtain ⟨hm, e⟩ := not_or.1 hn
    obtain ⟨p, e⟩ := Option.ne_none_iff_exists'.1 e
    obtain ⟨-, -, hp⟩ := freeWithin_moves i r .other (foldInto p.1 p.2 r.count r.priority r.urgent s)
    rw [transfer_of_merge (not_not.1 hm) e, hp]
    simp

theorem dropRecord_presentation (c : Client) (i : RecIndex) (r : Record) (s : State) :
    (dropRecord c i r s).presentation = s.presentation := by
  obtain ⟨-, -, hp⟩ := freeWithin_moves i r .drop (dropFor c r.key s)
  rw [dropRecord, hp]
  simp

theorem disposeAt_presentation (c : Client) (p : State × List Client) (i : RecIndex) :
    (disposeAt c p i).1.presentation = p.1.presentation := by
  have hfree : ∀ r, (freeWithin i r .other p.1).presentation = p.1.presentation := fun r => by
    obtain ⟨-, -, hp⟩ := freeWithin_moves i r .other p.1
    exact hp
  unfold disposeAt
  split
  · unfold disposeRecord
    split
    · exact hfree _
    · split
      · exact dropRecord_presentation c i _ p.1
      · split
        · exact dropRecord_presentation c i _ p.1
        · split
          · exact transfer_presentation i _ _ p.1
          · split
            · exact hfree _
            · exact transfer_presentation i _ _ p.1
  · rfl

/-- Client c after the steps 1 to 4 of its detach. -/
def emptied (c : Client) (s : State) : State := clearDetached c (disposeAll c (beginDetach c s)).1

theorem detach_of_emptied (c : Client) (s : State) : detach c s = completeWake (beginDetach c s).mode
    (examineFallbacks (disposeAll c (beginDetach c s)).2 (examine c (emptied c s))) := rfl

theorem emptied_healthOf (c : Client) (s : State) : (emptied c s).healthOf c = ⟨255, .detached, 0, 0⟩ := by
  simp [emptied, beginDetach, State.healthOf]

theorem emptied_unattached (c : Client) (s : State) : (emptied c s).attached c = false := by
  rw [State.attached, emptied_healthOf]
  rfl

theorem disposeAll_presentation (c : Client) (s : State) : (disposeAll c s).1.presentation = s.presentation :=
  foldl_keeps (disposeAt c) (fun p : State × List Client => p.1.presentation) (disposeAt_presentation c) _ _

theorem disposeAll_clientLines (c : Client) (s : State) :
    (disposeAll c s).1.clientLines = (setAttention c false s).clientLines :=
  foldl_keeps (disposeAt c) (fun p : State × List Client => p.1.clientLines) (fun p i => by simp) _ _

theorem emptied_presentationOf (c : Client) (s : State) :
    (emptied c s).presentationOf c = { s.presentationOf c with gateOpen := true } := by
  have hp : (disposeAll c (beginDetach c s)).1.presentation = s.presentation := by
    rw [disposeAll_presentation]
    simp
  have hx : ∀ v : State, (clearDetached c v).presentationOf c = { v.presentationOf c with gateOpen := true } := fun v =>
    Table.get_set_same ..
  rw [emptied, hx, State.presentationOf, hp]

theorem emptied_contextsOf (c : Client) (s : State) :
    (emptied c s).contextsOf c = { s.contextsOf c with suspended := none } := by
  have hp : (disposeAll c (beginDetach c s)).1.contexts = s.contexts := by simp
  have hx : ∀ v : State, (clearDetached c v).contextsOf c = { v.contextsOf c with suspended := none } := fun v =>
    Table.get_set_same ..
  rw [emptied, hx, State.contextsOf, hp]

theorem emptied_pendingFlags (c : Client) (s : State) : ((emptied c s).postsOf c).pendingFlags = 0 := by
  simp [emptied, clearDetached, setPendingFlags, State.postsOf]

theorem emptied_attention (c : Client) (s : State) : ((emptied c s).clientLinesOf c).attention = false := by
  have hp : (emptied c s).clientLines = (setAttention c false (beginDetach c s)).clientLines := by
    rw [← disposeAll_clientLines]
    simp [emptied]
  rw [State.clientLinesOf, hp]
  exact congrArg ClientLines.attention (Table.get_set_same ..)

/-- The examinations that end a detach leave its client's items. -/
theorem detach_aside (c : Client) (s : State) : Aside c (emptied c s) (detach c s) := by
  have hx := examine_aside (emptied_unattached c s) c
  have hf := hx.trans (examineFallbacks_aside (hx.attached (emptied_unattached c s)) (disposeAll c (beginDetach c s)).2)
  exact hf.trans (completeWake_aside (hf.attached (emptied_unattached c s)) _)

theorem detach_ownerAt (c : Client) (s : State) : ownerAt (detach c s) = ownerAt (disposeAll c (beginDetach c s)).1 := by
  rw [detach_of_emptied, completeWake_ownerAt, examineFallbacks_ownerAt, examine_ownerAt]
  exact ownerAt_of_pool (by simp [emptied])

/-- Nothing is left of the client's records that are PRESENTED, SUSPENDED or in its queue. -/
theorem detach_owns_none (h : ∀ i r, s.record i = some r → r.owner = c → i ∈ recordsInOrder s c) :
    ownerAt (detach c s) i ≠ some c := fun e => by
  have hpool : (setAttention c false (beginDetach c s)).pool = s.pool := by simp
  have horder : recordsInOrder (setAttention c false (beginDetach c s)) c = recordsInOrder s c :=
    recordsInOrder_of_store hpool (by simp) c
  rw [detach_ownerAt] at e
  obtain ⟨hs, hi⟩ := disposeFold_ownerAt _ _ e
  rw [ownerAt_of_pool hpool] at hs
  obtain ⟨r, hr, ho⟩ := ownerAt_eq_some.1 hs
  exact hi (horder ▸ h i r hr ho)

theorem detach_health (c : Client) (s : State) : (detach c s).health = s.health.set c ⟨255, .detached, 0, 0⟩ := by
  simp [detach, beginDetach]

theorem mem_recordsInOrder_of (h : presentedOf s c = some i ∨ suspendedOf s c = some i ∨ i ∈ s.queue c) :
    i ∈ recordsInOrder s c := by
  simpa [recordsInOrder, or_assoc] using h

/-- Settles O36: the records by the disposal of each, the client's items by step 4 and what the examinations leave. -/
theorem detachLeavesNoRecord : Obligations.DetachLeavesNoRecord := by
  intro c s t ht h
  rw [ht]
  have ha := detach_aside c s
  refine ⟨ha.health.trans (emptied_healthOf c s), fun i r hr ho => ?_, ?_, ha.flags.trans (emptied_pendingFlags c s), ?_, ?_, ?_, ?_,
    fun d hd => ?_, by simp [Untouched]⟩
  · exact detach_owns_none (fun i r hr ho => mem_recordsInOrder_of (h i r hr ho)) (ho ▸ ownerAt_of_record hr)
  · rw [ha.contexts, emptied_contextsOf]
  · rw [ha.presentation, emptied_presentationOf]
  · rw [ha.lines, emptied_attention]
  · rw [ha.presentation, emptied_presentationOf]
  · rw [ha.contexts, emptied_contextsOf]
  · rw [State.healthOf, detach_health, Table.get_set_ne _ hd]

end Sys2Proof.Laws
end

section
/-! PROOF. The requests that make a record for another client: POST and WITHDRAW (R147, R148, R151), and SIGNAL (R154). -/

namespace Sys2Proof.Laws

open Sys2Proof.Machine Sys2Proof.Safety

variable {s u : State} {c : Client} {a : Arrival} {q : Request}

/-! ## The checks of a request under a privilege (R166, R140) -/

theorem outcomeOf_privilege (c : Client) (q : Request) (u : State) (p : Privilege) (rest : Answer) :
    outcomeOf c q (withPrivilege p c u rest) = judged c q u [(!holds u c p, .denied)] (outcomeOf c q rest) := by
  rw [outcomeOf_withPrivilege, judged_cons, judged_nil]
  cases holds u c p <;> rfl

theorem outcomeOf_privileged_some {α : Type} (c : Client) (q : Request) (u : State) (p : Privilege) {fields : Option α} {x : α}
    (h : fields = some x) (rest : α → Answer) :
    outcomeOf c q (withPrivilege p c u <| withFields fields u fun y => whileAttached c u (rest y)) =
      judged c q u [(!holds u c p, .denied), (!u.attached c, .detached)] (outcomeOf c q (rest x)) := by
  rw [outcomeOf_privilege, outcomeOf_attended_some c q u h, ← judged_append]
  rfl

theorem outcomeOf_privileged_none {α : Type} (c : Client) (q : Request) (u : State) (p : Privilege) {fields : Option α}
    (h : ∀ x, fields ≠ some x) (rest : α → Answer) :
    outcomeOf c q (withPrivilege p c u <| withFields fields u rest) =
      judged c q u [(!holds u c p, .denied)] (replied c q .badField [] u) := by
  rw [outcomeOf_privilege, outcomeOf_fields_none c q u h]

/-- The check that the target is attached, which comes after those of the sender (R147, R154). -/
theorem outcomeOf_toAttached (c : Client) (q : Request) (u : State) (d : Client) (rest : Answer) :
    outcomeOf c q (if u.attached d = false then refuse .detached u else rest) =
      judged c q u [(!u.attached d, .detached)] (outcomeOf c q rest) := by
  rw [judged_cons, judged_nil]
  cases u.attached d <;> rfl

/-! ## POST (R147, R148) -/

theorem exec_post (ht : Takes s c .post a q u) : exec (.post c a) s = .next (outcomeOf c q
    (withPrivilege .post c u <| withFields (parsePost c q.payload) u fun f => whileAttached c u (post c f q.accepted u))) :=
  congrArg Host.Outcome.next (serve_of_takes (rulePost c) ht)

theorem exec_post_badField (ht : Takes s c .post a q u)
    (hq : ∀ f : PostFields, f.target ≠ c → 1 ≤ f.payload.length → f.payload.length ≤ 32 → q.payload ≠ postBytes f) :
    exec (.post c a) s = .next (judged c q u [(!holds u c .post, .denied)] (replied c q .badField [] u)) := by
  rw [exec_post ht, outcomeOf_privileged_none c q u .post fun f hf => ?_]
  obtain ⟨htarget, hlow, hhigh, hp⟩ := (parsePost_eq c q.payload f).1 hf
  exact hq f htarget hlow hhigh hp

theorem emptySlot_eq_some (u : State) (c : Client) (n : SlotNo) : emptySlot u c = some n ↔
    (u.postsOf c).slots.get n = .empty ∧ ∀ m, m < n → (u.postsOf c).slots.get m ≠ .empty := by
  unfold emptySlot
  rw [show slotNos = List.finRange 4 from rfl, find_finRange]
  simp only [decide_eq_true_iff, decide_eq_false_iff_not]

theorem emptySlot_eq_none {u : State} {c : Client} (h : ∀ n, (u.postsOf c).slots.get n ≠ .empty) : emptySlot u c = none :=
  Option.eq_none_iff_forall_ne_some.2 fun n e => h n ((emptySlot_eq_some u c n).1 e).1

section Post

variable {f : PostFields} {n : SlotNo} {i : RecIndex}

theorem outcomeOf_post_noSlot (h : emptySlot u c = none) (created : Micros) : outcomeOf c q (post c f created u) =
    judged c q u [(!u.attached f.target, .detached)] (replied c q .noSlot [] u) := by
  unfold post
  rw [outcomeOf_toAttached, h]
  rfl

theorem outcomeOf_post_poolFull (h : emptySlot u c = some n) (hg : grantedIndex u f.target = none) (created : Micros) :
    outcomeOf c q (post c f created u) =
      judged c q u [(!u.attached f.target, .detached)] (replied c q .poolFull [] u) := by
  unfold post
  rw [outcomeOf_toAttached, h, hg]
  rfl

/-- The slot holds the handle of the new record, whose generation is one above that of the place before. -/
theorem outcomeOf_post_made (h : emptySlot u c = some n) (hg : grantedIndex u f.target = some i) (created : Micros) :
    outcomeOf c q (post c f created u) = judged c q u [(!u.attached f.target, .detached)] (replied c q .ok [byte n.val]
      (entered f.target (setPostSlot c n (.waiting f.target ⟨i, (u.slot i).gen + 1⟩)
        (makeAt i (postRequest c n f created u) u)))) := by
  unfold post
  rw [outcomeOf_toAttached, h, hg, ← makeAt_gen i (postRequest c n f created u) u]
  rfl

/-- A POST whose payload reads: the checks of the sender, then those of the post. -/
theorem exec_post_fields (ht : Takes s c .post a q u) (htarget : f.target ≠ c) (hlow : 1 ≤ f.payload.length)
    (hhigh : f.payload.length ≤ 32) (hq : q.payload = postBytes f) : exec (.post c a) s = .next (judged c q u
      [(!holds u c .post, .denied), (!u.attached c, .detached)] (outcomeOf c q (post c f q.accepted u))) := by
  rw [exec_post ht, outcomeOf_privileged_some c q u .post ((parsePost_eq c q.payload f).2 ⟨htarget, hlow, hhigh, hq⟩)]

end Post

/-! ## WITHDRAW (R151) -/

theorem exec_withdraw (ht : Takes s c .withdraw a q u) : exec (.withdraw c a) s = .next (outcomeOf c q
    (withPrivilege .post c u <| withFields (parseIndex 4 q.payload) u fun n => whileAttached c u (withdraw c n u))) :=
  congrArg Host.Outcome.next (serve_of_takes (ruleWithdraw c) ht)

section Withdraw

variable {n : SlotNo} {t : Client} {h : Handle} {r : Record}

theorem exec_withdraw_slot (ht : Takes s c .withdraw a q u) (hq : q.payload = [byte n.val]) :
    exec (.withdraw c a) s = .next (judged c q u
      [(!holds u c .post, .denied), (!u.attached c, .detached)] (outcomeOf c q (withdraw c n u))) := by
  rw [exec_withdraw ht, outcomeOf_privileged_some c q u .post ((parseIndex_eq (by omega) q.payload n).2 hq)]

theorem withdraw_idle (hs : ∀ t h, (u.postsOf c).slots.get n ≠ .waiting t h) : withdraw c n u = refuse .notWaiting u := by
  unfold withdraw
  split
  · rfl
  · rfl
  · rename_i t h e
    exact absurd e (hs t h)

theorem withdraw_late (hs : (u.postsOf c).slots.get n = .waiting t h) (hn : namedRecord u t .queued h = none) :
    withdraw c n u = refuse .tooLate u := by
  unfold withdraw
  rw [hs]
  dsimp only
  rw [hn]

theorem withdraw_queued (hs : (u.postsOf c).slots.get n = .waiting t h) (hr : namedRecord u t .queued h = some r) :
    withdraw c n u = (freeRecord h.index r .other u, .withdrawn, []) := by
  unfold withdraw
  rw [hs]
  dsimp only
  rw [hr]
  rfl

end Withdraw

/-! ## What the free of a withdrawn post leaves (R149, R151) -/

theorem takenBy_examine (d : Client) (s : State) (p : Client) (n : SlotNo) : takenBy (examine d s) p n = takenBy s p n := by
  rcases examine_cases d s with e | ⟨i, r, -, -, -, e⟩ <;> rw [e]
  exact takenBy_present d i r s p n

/-- A free, and the examinations of a wake that it may bring, leave each slot as its report to PST does. -/
theorem takenBy_freeRecord (i : RecIndex) (r : Record) (cause : FreeCause) (s : State) (p : Client) (n : SlotNo) :
    takenBy (freeRecord i r cause s) p n = takenBy (freeUntested i r cause s) p n := by
  have hfree : takenBy (freeWithin i r cause s) p n = takenBy (freeUntested i r cause s) p n :=
    takenBy_of_posts (by simp [freeWithin]) p n
  exact completeWake_keeps_of (P := fun t => takenBy t p n = takenBy (freeUntested i r cause s) p n)
    (fun d t ht => (takenBy_examine d t p n).trans ht) hfree s.mode

theorem slot_empty_of_takenBy {s : State} {p : Client} {n : SlotNo} (h : takenBy s p n = none) :
    (s.postsOf p).slots.get n = .empty := by
  unfold takenBy at h
  cases e : (s.postsOf p).slots.get n with
  | empty => rfl
  | waiting t x => rw [e] at h; cases h
  | orphaned t x => rw [e] at h; cases h

/-- The free of a post's record empties the WAITING slot that holds its handle. -/
theorem freeRecord_empties_slot {n : SlotNo} {t : Client} {h : Handle} {r : Record}
    (hs : (u.postsOf c).slots.get n = .waiting t h) (hg : (u.slot h.index).gen = h.gen) (hk : r.key = postKey c n)
    (cause : FreeCause) : ((freeRecord h.index r cause u).postsOf c).slots.get n = .empty := by
  have hhandle : u.handleAt h.index = h := congrArg (Handle.mk h.index) hg
  have htaken : takenBy u c n = some (t, h) := by rw [takenBy, hs]; rfl
  obtain ⟨hpost, hsender, hslot⟩ := postKey_reads c n
  apply slot_empty_of_takenBy
  rw [takenBy_freeRecord, takenBy_freeUntested, hk, hpost, hsender, hslot, if_pos ⟨rfl, rfl, rfl⟩, htaken, hhandle]
  exact Option.filter_some_neg (by simp)

/-- A free that is no outcome of its post places no SLOTS frame (R149). -/
theorem reportPost_other_links (r : Record) (h : Handle) (s : State) : (reportPost r h .other s).links = s.links := by
  unfold reportPost settlePost
  split
  · split
    · rfl
    · split <;> rfl
    · split <;> rfl
  · rfl

/-- Outside SLEEP the free of a QUEUED post places no frame and removes none. -/
theorem freeRecord_post_links {i : RecIndex} {r : Record} (hpost : r.key.isPost = true) (hq : r.state = .queued)
    (hm : u.sup.mode ≠ .sleep) : (freeRecord i r .other u).links = u.links := by
  have hline : ∀ v : State, reportDisposed r.key.source v = v := fun v =>
    (reportDisposed_eq r.key.source v).1 (by have := ((isPost_iff r.key).1 hpost).1; omega)
  have hpresented : ∀ v : State, reportPresented r (u.handleAt i) v = v := fun v => by
    unfold reportPresented
    rw [hq]
    rfl
  have hfree : freeUntested i r .other u = reportPost r (u.handleAt i) .other (reportCopy r (release i r u)) := by
    unfold freeUntested
    dsimp only
    rw [hline, hpresented]
  have hwake : freeRecord i r .other u = poolRearmTest (freeUntested i r .other u) := completeWake_awake hm _
  calc (freeRecord i r .other u).links
      = (freeUntested i r .other u).links := by rw [hwake]; simp
    _ = (reportCopy r (release i r u)).links := by rw [hfree, reportPost_other_links]
    _ = u.links := by simp

/-- Settles O41: POST by the slot and the index it finds, WITHDRAW by what its slot holds, and the free of the withdrawn record by
its report to PST. -/
theorem postMakesARecord : Obligations.PostMakesARecord := by
  refine ⟨fun s u c a q ht => ⟨exec_post_badField ht, fun f htarget hlow hhigh hq => ⟨fun hs => ?_, fun n hn hm =>
    ⟨fun hg => ?_, fun i w hg hw => ?_⟩⟩⟩, fun s u c a q ht => ⟨fun hq => ?_, fun n hq => ⟨fun hs => ?_, fun t h hs =>
    ⟨fun hr => ?_, fun r hr => ⟨?_, fun hk => ?_⟩⟩⟩⟩⟩
  · rw [exec_post_fields ht htarget hlow hhigh hq, outcomeOf_post_noSlot (emptySlot_eq_none hs), ← judged_append]
    rfl
  · rw [exec_post_fields ht htarget hlow hhigh hq,
      outcomeOf_post_poolFull ((emptySlot_eq_some u c n).2 ⟨hn, hm⟩) hg, ← judged_append]
    rfl
  · rw [exec_post_fields ht htarget hlow hhigh hq,
      outcomeOf_post_made ((emptySlot_eq_some u c n).2 ⟨hn, hm⟩) hg, ← judged_append, hw]
    rfl
  · rw [exec_withdraw ht, outcomeOf_privileged_none c q u .post (parseIndex_ne (by omega) hq)]
  · rw [exec_withdraw_slot ht hq, withdraw_idle hs, outcomeOf_refuse]
  · rw [exec_withdraw_slot ht hq, withdraw_late hs hr, outcomeOf_refuse]
  · rw [exec_withdraw_slot ht hq, withdraw_queued hs hr, outcomeOf_mk]
  · obtain ⟨hg, -, -, hst⟩ := namedRecord_some hr
    have hpost : r.key.isPost = true := isPost_of_isKeyOfPost ⟨c, n, hk⟩
    exact ⟨freeRecord_empties_slot hs hg hk .other, freeRecord_post_links hpost hst⟩

/-! ## SIGNAL (R154) -/

theorem exec_signal (ht : Takes s c .signal a q u) : exec (.signal c a) s = .next (outcomeOf c q
    (withPrivilege .post c u <| withFields (parseSignal c q.payload) u fun f => whileAttached c u (signal f q.accepted u))) :=
  congrArg Host.Outcome.next (serve_of_takes (ruleSignal c) ht)

theorem exec_signal_badField (ht : Takes s c .signal a q u)
    (hq : ∀ f : SignalFields, f.target ≠ c → f.flags ≠ 0 → q.payload ≠ signalBytes f) :
    exec (.signal c a) s = .next (judged c q u [(!holds u c .post, .denied)] (replied c q .badField [] u)) := by
  rw [exec_signal ht, outcomeOf_privileged_none c q u .post fun f hf => ?_]
  obtain ⟨htarget, hflags, hp⟩ := (parseSignal_eq c q.payload f).1 hf
  exact hq f htarget hflags hp

section Signal

variable {f : SignalFields} {i : RecIndex}

/-- A SIGNAL whose payload reads: the checks of the sender, then those of the signal. -/
theorem exec_signal_fields (ht : Takes s c .signal a q u) (htarget : f.target ≠ c) (hflags : f.flags ≠ 0)
    (hq : q.payload = signalBytes f) : exec (.signal c a) s = .next (judged c q u
      [(!holds u c .post, .denied), (!u.attached c, .detached)] (outcomeOf c q (signal f q.accepted u))) := by
  rw [exec_signal ht, outcomeOf_privileged_some c q u .post ((parseSignal_eq c q.payload f).2 ⟨htarget, hflags, hq⟩)]

/-- The flags join before the rise of the record is reported (log entry 19). -/
theorem outcomeOf_signal_joins {r : Record} (h : sameKeyRecord u f.target signalKey none = some (i, r)) (created : Micros) :
    outcomeOf c q (signal f created u) = judged c q u [(!u.attached f.target, .detached)]
      (replied c q .ok [1] (coalesce i r f.priority f.urgent (joinFlags f.target f.flags u))) := by
  unfold signal
  rw [outcomeOf_toAttached, h]
  rfl

theorem outcomeOf_signal_poolFull (h : sameKeyRecord u f.target signalKey none = none) (hg : grantedIndex u f.target = none)
    (created : Micros) : outcomeOf c q (signal f created u) =
      judged c q u [(!u.attached f.target, .detached)] (replied c q .poolFull [] u) := by
  unfold signal
  rw [outcomeOf_toAttached, h, hg]
  rfl

theorem outcomeOf_signal_made (h : sameKeyRecord u f.target signalKey none = none) (hg : grantedIndex u f.target = some i)
    (created : Micros) : outcomeOf c q (signal f created u) = judged c q u [(!u.attached f.target, .detached)]
      (replied c q .ok [0] (entered f.target
        (setPendingFlags f.target f.flags (makeAt i (signalRequest f created u) u)))) := by
  unfold signal
  rw [outcomeOf_toAttached, h, hg]
  rfl

end Signal

/-- Settles O42: SIGNAL by whether the target has a QUEUED signal record, and without one by the index it finds. -/
theorem signalJoinsOrMakesARecord : Obligations.SignalJoinsOrMakesARecord := by
  refine fun s u c a q ht => ⟨exec_signal_badField ht, fun f htarget hflags hq => ⟨fun i r hr => ?_, fun hn =>
    ⟨fun hg => ?_, fun i w hg hw => ?_⟩⟩⟩
  · rw [exec_signal_fields ht htarget hflags hq, outcomeOf_signal_joins hr, ← judged_append]
    rfl
  · rw [exec_signal_fields ht htarget hflags hq, outcomeOf_signal_poolFull hn hg, ← judged_append]
    rfl
  · rw [exec_signal_fields ht htarget hflags hq, outcomeOf_signal_made hn hg, ← judged_append, hw]
    rfl

end Sys2Proof.Laws
end

section
/-! PROOF. The law of the supervising client's privileges (R166): only CLIENT_SET and a reset of the hub write privileges, and only a
reset samples the SUPSEL strap (R174). -/

namespace Sys2Proof.Safety

open Sys2Proof.Machine

/-- The law reads the privileges and the straps alone. -/
theorem SupervisorLaw.same {s t : State} (h : SupervisorLaw s)
    (e : t.sup.privileges = s.sup.privileges ∧ t.sup.straps = s.sup.straps) : SupervisorLaw t := by
  obtain ⟨hp, hs⟩ := e
  simpa only [SupervisorLaw, hp, hs] using h

theorem SupervisorLaw.untouched {s t : State} (h : SupervisorLaw s) (e : Untouched s t) : SupervisorLaw t := by
  simp only [Untouched] at e
  exact h.same (by simp only [e, and_self])

end Sys2Proof.Safety

namespace Sys2Proof.Laws

open Sys2Proof.Machine Sys2Proof.Safety

section Operations

variable {s : State}

/-! ## Resets -/

/-- Power-on and a board reset give all four privileges to the client that the SUPSEL strap names (R166, R175). -/
theorem hubReset_supervisorLaw (pins : PinLevels) (raw : LineNo → Bool) (board : BoardLines) (cause : CauseRecord)
    (note : BitVec 32) (resetInput : Bool) (pending : List Instr) :
    SupervisorLaw (hubReset pins raw board cause note resetInput pending) := by
  obtain ⟨-, -, h, -⟩ := laws_hubReset pins raw board cause note resetInput pending
  exact h

theorem clientReset_supervisorLaw (h : SupervisorLaw s) (c : Client) (cause : ResetCause) :
    SupervisorLaw (clientReset c cause s) := by
  rw [clientReset_eq]
  split
  · exact hubReset_supervisorLaw ..
  · exact h.same (by simp)

/-! ## Expiries and links -/

theorem takeAction_supervisorLaw (h : SupervisorLaw s) (c : Client) (i : RecIndex) (r : Record) (a : Action) :
    SupervisorLaw (takeAction c i r a s) := by
  cases a with
  | clientReset => exact clientReset_supervisorLaw h c .escalation
  | boardReset => exact hubReset_supervisorLaw ..
  | noteOnly => exact h.same (by simp [takeAction])
  | attention => exact h.same (by simp [takeAction])
  | attentionThenReset => exact h.same (by simp [takeAction])

theorem deadlineExpires_supervisorLaw (h : SupervisorLaw s) (c : Client) (i : RecIndex) (r : Record) :
    SupervisorLaw (deadlineExpires c i r s) := by
  have hc : SupervisorLaw (chargedDeadline c i r s).1 := h.same (by simp [chargedDeadline])
  rw [deadlineExpires_eq]
  split
  · split
    · exact hubReset_supervisorLaw ..
    · exact hc.same (by simp)
  · exact takeAction_supervisorLaw hc c i _ _

theorem stageExpires_supervisorLaw (h : SupervisorLaw s) (c : Client) : SupervisorLaw (stageExpires c s) := by
  unfold stageExpires
  split
  · split
    · exact deadlineExpires_supervisorLaw h c _ _
    · exact clientReset_supervisorLaw h c .escalation
    all_goals exact h
  · exact h

theorem expire_supervisorLaw (h : SupervisorLaw s) (t : Timer) : SupervisorLaw (expire t s) := by
  cases t with
  | stage c => exact stageExpires_supervisorLaw h c
  | _ => exact h.same (by simp [expire])

theorem frameSent_supervisorLaw (h : SupervisorLaw s) (c : Client) : SupervisorLaw (frameSent c s) := by
  unfold frameSent
  split
  · exact h
  · dsimp only
    split
    · split
      · exact hubReset_supervisorLaw ..
      · exact h.same (by simp)
    all_goals exact h.same (by simp)

theorem assertResetInput_supervisorLaw (h : SupervisorLaw s) (pins : PinLevels) : SupervisorLaw (assertResetInput pins s) := by
  unfold assertResetInput
  dsimp only
  split
  · exact h.same ⟨rfl, rfl⟩
  · exact hubReset_supervisorLaw ..

/-! ## Requests -/

/-- CLIENT_SET takes no privilege from the supervising client: a payload that would is answered BAD_FIELD (R167). -/
theorem setClient_supervisorLaw (h : SupervisorLaw s) {f : ClientSetFields} {p : List Byte}
    (hp : parseClientSet s.sup.straps.supsel p = some f) : SupervisorLaw (setClient f s) := by
  obtain ⟨⟨-, -, -, hall⟩, -⟩ := (parseClientSet_eq _ p f).1 hp
  show (s.sup.privileges.set f.client f.privileges).get s.sup.straps.supsel = _
  rw [Table.get_set]
  split
  · rename_i e
    exact hall e.symm
  · exact h

theorem writeEntry_supervisorLaw (h : SupervisorLaw s) (e : EntryNo) (x : RouteEntry) : SupervisorLaw (writeEntry e x s).1 := by
  unfold writeEntry
  split
  · exact h
  · exact h.same ⟨rfl, rfl⟩

theorem rule_supervisorLaw {c : Client} {rule : Request → State → Answer} (hr : RuleOf c rule) (q : Request)
    (h : SupervisorLaw s) : SupervisorLaw (rule q s).1 := by
  cases hr with
  | ready => exact withFields_keeps h fun _ _ => h.same (by simp)
  | ack => exact withFields_keeps h fun _ _ => whileAttached_keeps h (h.untouched (ackNamed_untouched ..))
  | exchange => exact withFields_keeps h fun _ _ => whileAttached_keeps h (h.untouched (exchange_untouched ..))
  | contextSet => exact withFields_keeps h fun _ _ => whileAttached_keeps h (h.same (by simp [accept]))
  | timerSet => exact withFields_keeps h fun _ _ => whileAttached_keeps h (h.same (by simp))
  | raise =>
    exact withPrivilege_keeps h (withFields_keeps h fun _ _ => whileAttached_keeps h (h.untouched (raiseEvent_untouched ..)))
  | post => exact withPrivilege_keeps h (withFields_keeps h fun _ _ => whileAttached_keeps h (h.untouched (post_untouched ..)))
  | withdraw =>
    exact withPrivilege_keeps h (withFields_keeps h fun _ _ => whileAttached_keeps h (h.untouched (withdraw_untouched ..)))
  | signal =>
    exact withPrivilege_keeps h (withFields_keeps h fun _ _ => whileAttached_keeps h (h.untouched (signal_untouched ..)))
  | heartbeat => exact withFields_keeps h fun _ _ => h.same (by simp)
  | rejoin => exact withFields_keeps h fun _ _ => h.untouched (rejoin_untouched ..)
  | query => exact withFields_keeps h fun _ _ => h
  | routeWrite => exact configure_keeps h fun _ _ => writeEntry_supervisorLaw h _ _
  | bankSet => exact configure_keeps h fun _ _ => h.same ⟨rfl, rfl⟩
  | lineSet => exact configure_keeps h fun _ _ => h.same (by simp)
  | profileSet => exact configure_keeps h fun _ _ => h.same ⟨rfl, rfl⟩
  | clientSet => exact configure_keeps h fun _ hf => setClient_supervisorLaw h hf
  | routeRead => exact withFields_keeps h fun _ _ => whileAttached_keeps h h
  | lineRead => exact withFields_keeps h fun _ _ => whileAttached_keeps h h
  | profileRead => exact withFields_keeps h fun _ _ => whileAttached_keeps h h
  | clientRead => exact withFields_keeps h fun _ _ => whileAttached_keeps h h
  | forceAttach =>
    exact withPrivilege_keeps h (withFields_keeps h fun _ _ => whileAttached_keeps h (h.untouched (forceAttach_untouched ..)))
  | forceDetach =>
    exact withPrivilege_keeps h (withFields_keeps h fun _ _ => whileAttached_keeps h (h.untouched (forceDetach_untouched ..)))
  | forceReset =>
    exact withPrivilege_keeps h (withFields_keeps h fun _ _ => whileAttached_keeps h (clientReset_supervisorLaw h _ _))
  | freeze =>
    exact withPrivilege_keeps h (unlessFrozen_keeps h (withFields_keeps h fun _ _ => whileAttached_keeps h (h.same ⟨rfl, rfl⟩)))
  | sleep =>
    exact withPrivilege_keeps h (withFields_keeps h fun _ _ => whileAttached_keeps h (h.untouched (sleepRequest_untouched s)))
  | wake =>
    exact withPrivilege_keeps h (withFields_keeps h fun _ _ => whileAttached_keeps h (h.untouched (wakeRequest_untouched s)))
  | resetHub => exact withPrivilege_keeps h (withFields_keeps h fun _ _ => whileAttached_keeps h (h.same ⟨rfl, rfl⟩))
  | noteSet => exact withPrivilege_keeps h (withFields_keeps h fun _ _ => whileAttached_keeps h (h.same ⟨rfl, rfl⟩))
  | status => exact withFields_keeps h fun _ _ => whileAttached_keeps h h

/-! ## Every step -/

theorem takeRequest_supervisorLaw {c : Client} {rule : Request → State → Answer} (hr : RuleOf c rule)
    (wanted : Request → Bool) (h : SupervisorLaw s) : SupervisorLaw (takeRequest c wanted rule s) := by
  rcases takeRequest_cases c wanted rule s with e | ⟨q, rest, -, -, -, e⟩ <;> rw [e]
  · exact h
  · have hu : SupervisorLaw (withoutRequest c rest s) := h.same ⟨rfl, rfl⟩
    exact (rule_supervisorLaw hr q hu).untouched (placeReply_untouched ..)

theorem supervisorLaw_keptByParts : KeptByParts SupervisorLaw where
  pending _ _ h := h.same ⟨rfl, rfl⟩
  time _ _ h := h.same ⟨rfl, rfl⟩
  settle s h := h.untouched (settle_untouched s)
  lower t _ h := h.same (by cases t <;> simp [lower])
  expire t _ h := expire_supervisorLaw h t
  gapFails c _ h := h.same (by simp)
  receiveByte c b _ h := h.same (by simp)
  frameSent c _ h := frameSent_supervisorLaw h c
  takeHead _ h := h.same (by simp)
  changeRawLevel l v _ h := h.same (by simp)
  powerOn _ _ _ _ := hubReset_supervisorLaw ..
  assertInput pins _ h := assertResetInput_supervisorLaw h pins
  releaseInput _ h := h.same ⟨rfl, rfl⟩
  take _ wanted _ _ hr h := takeRequest_supervisorLaw hr wanted h

end Operations

/-- Settles O56: each part of which a step is made leaves all four privileges with the supervising client. -/
theorem everyStepKeepsTheSupervisorsPrivileges : Obligations.EveryStepKeepsTheSupervisorsPrivileges :=
  supervisorLaw_keptByParts.kept

end Sys2Proof.Laws
end

section
/-! PROOF. The law of the links' outbound queues (R162, R164): hub frames are placed, updated in place and removed; a link takes a
request into a free place only, and a reply stands in the place of its request. The law is proved with a bound of its own for each
link, so that the rule of a request is known to leave the place free that the reply then takes. -/

namespace Sys2Proof.Safety

open Sys2Proof.Machine

/-! ## One link, and all links, within a bound -/

/-- A link holds at most `n` requests and replies together, and at most one unsent frame of each hub-initiated kind. -/
def LinkWithin (n : Nat) (k : Link) : Prop :=
  k.requests.length + k.replies.length ≤ n ∧ (k.hub.map HubFrame.kindByte).Nodup

/-- Every link stands within the bound that `b` gives it. -/
def LinksWithin (b : Client → Nat) (s : State) : Prop := ∀ c, LinkWithin (b c) (s.link c)

theorem linkLaw_iff (s : State) : LinkLaw s ↔ LinksWithin (fun _ => 2) s := .rfl

variable {b b' : Client → Nat} {s t : State} {c : Client} {k : Link}

theorem LinksWithin.same (h : LinksWithin b s) (e : t.links = s.links) : LinksWithin b t := by
  simpa only [LinksWithin, State.link, e] using h

/-- One link is written, within its bound; the bounds of the other links are no lower than before. -/
theorem LinksWithin.write (h : LinksWithin b s) (hk : LinkWithin (b' c) k) (hb : ∀ d, d ≠ c → b d ≤ b' d) :
    LinksWithin b' (s.setLink c k) := by
  intro d
  rw [State.link, State.setLink_links, Table.get_set]
  split
  · rename_i hd
    exact hd ▸ hk
  · rename_i hd
    obtain ⟨hplaces, hkinds⟩ := h d
    exact ⟨hplaces.trans (hb d hd), hkinds⟩

theorem LinksWithin.setLink (h : LinksWithin b s) (hk : LinkWithin (b c) k) : LinksWithin b (s.setLink c k) :=
  h.write hk fun _ _ => le_rfl

/-- A link is written whose requests, replies and hub frames stay. -/
theorem LinksWithin.rewrite (h : LinksWithin b s)
    (e : k.requests = (s.link c).requests ∧ k.replies = (s.link c).replies ∧ k.hub = (s.link c).hub) :
    LinksWithin b (s.setLink c k) := by
  obtain ⟨hq, hr, hh⟩ := e
  refine h.setLink ?_
  simpa only [LinkWithin, hq, hr, hh] using h c

end Sys2Proof.Safety

namespace Sys2Proof.Laws

open Sys2Proof.Machine Sys2Proof.Safety

section Operations

variable {b : Client → Nat} {s : State}

/-! ## Hub frames (R80, R150, R164) -/

/-- A frame of a kind that waits takes the place of the one that waits; of another kind, it is the only one. -/
theorem placeOrUpdate_nodup {q : List HubFrame} (h : (q.map HubFrame.kindByte).Nodup) (f : HubFrame) :
    ((placeOrUpdate f q).map HubFrame.kindByte).Nodup := by
  unfold placeOrUpdate
  split
  · have hsame : HubFrame.kindByte ∘ (fun g => if g.kindByte = f.kindByte then f else g) = HubFrame.kindByte := by
      funext g
      simp only [Function.comp_apply]
      split
      · rename_i e
        exact e.symm
      · rfl
    rw [List.map_map, hsame]
    exact h
  · rename_i hnew
    simp only [List.any_eq_true, decide_eq_true_eq, not_exists, not_and] at hnew
    rw [List.map_append, List.map_singleton, List.nodup_append]
    refine ⟨h, List.nodup_singleton _, fun x hx y hy => ?_⟩
    obtain ⟨g, hg, rfl⟩ := List.mem_map.1 hx
    rw [List.mem_singleton.1 hy]
    exact hnew g hg

theorem placeHubFrame_linksWithin (h : LinksWithin b s) (c : Client) (f : HubFrame) : LinksWithin b (placeHubFrame c f s) := by
  obtain ⟨hplaces, hkinds⟩ := h c
  exact h.setLink ⟨hplaces, placeOrUpdate_nodup hkinds f⟩

theorem removeDeliver_linksWithin (h : LinksWithin b s) (c : Client) (x : Handle) : LinksWithin b (removeDeliver c x s) := by
  obtain ⟨hplaces, hkinds⟩ := h c
  exact h.setLink ⟨hplaces, hkinds.sublist (List.filter_sublist.map _)⟩

theorem reportOutcome_linksWithin (h : LinksWithin b s) (p : Client) (n : SlotNo) (o : PostOutcome) :
    LinksWithin b (reportOutcome p n o s) := by
  unfold reportOutcome
  split <;> exact placeHubFrame_linksWithin h p _

/-! ## Examinations and wakes -/

theorem present_linksWithin (h : LinksWithin b s) (c : Client) (i : RecIndex) (r : Record) :
    LinksWithin b (present c i r s) := by
  unfold present
  dsimp only
  refine placeHubFrame_linksWithin ?_ c _
  split <;> exact h.same (by simp)

theorem examine_linksWithin (h : LinksWithin b s) (c : Client) : LinksWithin b (examine c s) := by
  rcases examine_cases c s with e | ⟨i, r, -, -, -, e⟩ <;> rw [e]
  · exact h
  · exact present_linksWithin h c i r

theorem completeWake_linksWithin (h : LinksWithin b s) (m : HubMode) : LinksWithin b (completeWake m s) :=
  completeWake_keeps_of (P := LinksWithin b) (fun c _ hu => examine_linksWithin hu c) h m

theorem examineAll_linksWithin (h : LinksWithin b s) : LinksWithin b (examineAll s) :=
  List.foldlRecOn _ _ h fun _ hu c _ => examine_linksWithin hu c

theorem wakeHub_linksWithin (h : LinksWithin b s) : LinksWithin b (wakeHub s) := completeWake_linksWithin (h.same (by simp)) _

theorem openGate_linksWithin (h : LinksWithin b s) (c : Client) : LinksWithin b (openGate c s) :=
  examine_linksWithin (h.same (by simp)) c

/-! ## Field lines: a raise may wake the hub (R31) -/

theorem raiseLine_linksWithin (h : LinksWithin b s) (l : LineNo) : LinksWithin b (raiseLine l s) :=
  wakeHub_linksWithin (h.same (by simp))

theorem raiseIfArmed_linksWithin (h : LinksWithin b s) (l : LineNo) : LinksWithin b (raiseIfArmed l s) := by
  unfold raiseIfArmed
  split
  · exact raiseLine_linksWithin h l
  · exact h
  · exact h

theorem activation_linksWithin (h : LinksWithin b s) (l : LineNo) : LinksWithin b (activation l s) := by
  unfold activation
  split
  · exact h
  · exact raiseIfArmed_linksWithin h l
  · exact raiseIfArmed_linksWithin h l
  · split
    · exact h.same (by simp)
    · exact raiseIfArmed_linksWithin h l

theorem activityChange_linksWithin (h : LinksWithin b s) (l : LineNo) (before : Bool) :
    LinksWithin b (activityChange l before s) := by
  unfold activityChange
  split
  · exact h
  · split
    · exact h.same (by simp)
    · exact activation_linksWithin h l

theorem acceptLevel_linksWithin (h : LinksWithin b s) (l : LineNo) : LinksWithin b (acceptLevel l s) :=
  activityChange_linksWithin (h.same (by simp)) l _

theorem changeRawLevel_linksWithin (h : LinksWithin b s) (l : LineNo) (v : Bool) : LinksWithin b (changeRawLevel l v s) := by
  have hx : ∀ x, LinksWithin b (s.setLine l x) := fun x => h.same (by simp)
  unfold changeRawLevel
  dsimp only
  split
  · exact h
  · split
    · exact hx _
    · split
      · exact hx _
      · split
        · exact acceptLevel_linksWithin (hx _) l
        · exact hx _

theorem repeatRunsOut_linksWithin (h : LinksWithin b s) (l : LineNo) : LinksWithin b (repeatRunsOut l s) := by
  have hx : ∀ x, LinksWithin b (s.setLine l x) := fun x => h.same (by simp)
  unfold repeatRunsOut reRaise
  dsimp only
  split
  · exact raiseLine_linksWithin (hx _) l
  · exact hx _

theorem retimeLine_linksWithin (h : LinksWithin b s) (l : LineNo) (old : LineConfig) : LinksWithin b (retimeLine l old s) := by
  have hd : LinksWithin b (lineRetimeDebounce l old s) := h.same (by simp)
  unfold retimeLine lineRetimeRepeat
  dsimp only
  split
  · exact hd
  · split
    · exact repeatRunsOut_linksWithin hd l
    · exact hd.same (by simp)

theorem configureLine_linksWithin (h : LinksWithin b s) (l : LineNo) (cfg : LineConfig) (clear : Bool) :
    LinksWithin b (configureLine l cfg clear s) := by
  have h0 : LinksWithin b (newlyConfigured l cfg clear s) := by
    unfold newlyConfigured
    split <;> exact h.same (by simp)
  by_cases hm : cfg.mode = (s.line l).config.mode
  · rw [configureLine_of_same_mode clear hm]
    exact activityChange_linksWithin (retimeLine_linksWithin h0 l _) l _
  · have hv : LinksWithin b (retimeLine l (s.line l).config (lineModeChange l (newlyConfigured l cfg clear s))) :=
      retimeLine_linksWithin (h0.same (by simp)) l _
    rw [configureLine_of_new_mode clear hm rfl]
    split
    · exact raiseLine_linksWithin hv l
    · exact hv

/-! ## Contexts -/

theorem exchangeToService_linksWithin (h : LinksWithin b s) (c : Client) (cause : ContextCause) :
    LinksWithin b (exchangeToService c cause s) := by
  unfold exchangeToService
  split
  · rename_i i r _
    have hs : LinksWithin b (suspend c i r s) :=
      removeDeliver_linksWithin (h.same (t := (setAttention c false s).setRecord i (some { r with state := .suspended }))
        (by simp)) c _
    exact openGate_linksWithin (placeHubFrame_linksWithin (hs.same (by simp)) c _) c
  · exact examine_linksWithin (placeHubFrame_linksWithin (h.same (by simp)) c _) c

theorem ctxExamine_linksWithin (h : LinksWithin b s) (c : Client) : LinksWithin b (ctxExamine c s) := by
  unfold ctxExamine
  split
  · exact exchangeToService_linksWithin h c .forced
  · exact h

theorem entered_linksWithin (h : LinksWithin b s) (c : Client) : LinksWithin b (entered c s) :=
  examine_linksWithin (ctxExamine_linksWithin h c) c

theorem endHoldOff_linksWithin (h : LinksWithin b s) (c : Client) : LinksWithin b (endHoldOff c s) :=
  ctxExamine_linksWithin (h.same (by simp)) c

/-! ## Frees (R68, R69) -/

/-- A settled slot may report an outcome to its sender (R149, R150). -/
theorem reportPost_linksWithin (h : LinksWithin b s) (r : Record) (x : Handle) (cause : FreeCause) :
    LinksWithin b (reportPost r x cause s) := by
  have hx : ∀ p n v, LinksWithin b (setPostSlot p n v s) := fun p n v => h.same (by simp)
  unfold reportPost settlePost
  split
  · split
    · exact h
    · split
      · dsimp only
        split
        · exact hx _ _ _
        · exact reportOutcome_linksWithin (hx _ _ _) _ _ _
      · exact h
    · split
      · exact hx _ _ _
      · exact h
  · exact h

theorem reportPresented_linksWithin (h : LinksWithin b s) (r : Record) (x : Handle) :
    LinksWithin b (reportPresented r x s) := by
  unfold reportPresented
  split
  · exact removeDeliver_linksWithin h _ _
  · exact h

theorem freeUntested_linksWithin (h : LinksWithin b s) (i : RecIndex) (r : Record) (cause : FreeCause) :
    LinksWithin b (freeUntested i r cause s) := by
  have hc : LinksWithin b (reportCopy r (release i r s)) := h.same (by simp)
  have hp := reportPost_linksWithin hc r (s.handleAt i) cause
  exact reportPresented_linksWithin (hp.same (by simp)) r _

theorem freeWithin_linksWithin (h : LinksWithin b s) (i : RecIndex) (r : Record) (cause : FreeCause) :
    LinksWithin b (freeWithin i r cause s) := (freeUntested_linksWithin h i r cause).same (by simp [freeWithin])

theorem freeRecord_linksWithin (h : LinksWithin b s) (i : RecIndex) (r : Record) (cause : FreeCause) :
    LinksWithin b (freeRecord i r cause s) := completeWake_linksWithin (freeWithin_linksWithin h i r cause) _

/-! ## Requests to the store -/

theorem makeAt_linksWithin (h : LinksWithin b s) (i : RecIndex) (q : StoreRequest) : LinksWithin b (makeAt i q s) :=
  h.same (by simp)

theorem coalesce_linksWithin (h : LinksWithin b s) (i : RecIndex) (r : Record) (p : Priority) (u : Bool) :
    LinksWithin b (coalesce i r p u s) := by
  have hf : LinksWithin b (foldInto i r 1 p u s) := h.same (by simp)
  unfold coalesce
  dsimp only
  split
  · exact entered_linksWithin hf _
  · exact hf

theorem displace_linksWithin (h : LinksWithin b s) (i : RecIndex) (r : Record) (q : StoreRequest) :
    LinksWithin b (displace i r q s) :=
  makeAt_linksWithin (freeUntested_linksWithin (h.same (by simp)) i r .drop) i q

theorem makeOrDrop_linksWithin (h : LinksWithin b s) (q : StoreRequest) : LinksWithin b (makeOrDrop q s) := by
  unfold makeOrDrop
  split
  · exact entered_linksWithin (makeAt_linksWithin h _ q) _
  · split
    · exact entered_linksWithin (displace_linksWithin h _ _ q) _
    · exact h.same (by simp)

theorem routingRequest_linksWithin (h : LinksWithin b s) (q : StoreRequest) : LinksWithin b (routingRequest q s) := by
  unfold routingRequest
  split
  · exact coalesce_linksWithin h _ _ _ _
  · exact makeOrDrop_linksWithin h q

/-! ## Return, resumption and transfer -/

theorem placeAtFront_linksWithin (h : LinksWithin b s) (i : RecIndex) (r : Record) : LinksWithin b (placeAtFront i r s) := by
  have hf : LinksWithin b (enqueueFront (s.setRecord i (some r)) r.owner i) := h.same (by simp)
  unfold placeAtFront mergeFront
  dsimp only
  split
  · split
    · exact freeRecord_linksWithin (hf.same (by simp)) _ _ _
    · exact hf
  · exact hf

theorem returnHeld_linksWithin (h : LinksWithin b s) (c : Client) (st : RecState) : LinksWithin b (returnHeld c st s) := by
  unfold returnHeld
  split
  · unfold returnRecord
    split
    · exact h
    · exact placeAtFront_linksWithin (reportPresented_linksWithin h _ _) _ _
  · exact h

theorem transfer_linksWithin (h : LinksWithin b s) (i : RecIndex) (r : Record) (f : Client) :
    LinksWithin b (transfer i r f s) := by
  have hp := reportPresented_linksWithin h r (s.handleAt i)
  unfold transfer
  split
  · exact freeWithin_linksWithin (h.same (by simp)) i r .other
  · dsimp only
    split <;> exact hp.same (by simp)

theorem resume_linksWithin (h : LinksWithin b s) (c : Client) : LinksWithin b (resume c s) := by
  unfold resume
  split
  · rename_i i r _
    have hp : LinksWithin b (placeAtFront i { r with state := .queued, resumed := true, flags := 0 } (returnFlags c r s)) :=
      placeAtFront_linksWithin (h.same (by simp)) i _
    exact hp.same (by simp)
  · exact h

theorem exchangeToOperate_linksWithin (h : LinksWithin b s) (c : Client) : LinksWithin b (exchangeToOperate c s) := by
  have hr : LinksWithin b (resume c (startHoldOff c (enterOperate c s))) := resume_linksWithin (h.same (by simp)) c
  exact ctxExamine_linksWithin (examine_linksWithin (placeHubFrame_linksWithin hr c _) c) c

/-! ## Health and detach -/

theorem applyScore_linksWithin (h : LinksWithin b s) (c : Client) (n : Nat) : LinksWithin b (applyScore c n s) := by
  have hs : LinksWithin b (scored c n s) := h.same (by simp [scored])
  rcases applyScore_cases c n s with e | e | e <;> rw [e]
  · exact h.same (by simp)
  · exact hs
  · exact examine_linksWithin hs c

theorem lowerScore_linksWithin (h : LinksWithin b s) (c : Client) : LinksWithin b (lowerScore c s) := by
  unfold lowerScore
  split
  · exact applyScore_linksWithin h c _
  · exact h

theorem raiseScore_linksWithin (h : LinksWithin b s) (c : Client) (k : Nat) : LinksWithin b (raiseScore c k s).1 := by
  unfold raiseScore
  split
  · split
    · exact applyScore_linksWithin h c _
    · exact h.same (by simp)
  · exact h

theorem dropRecord_linksWithin (h : LinksWithin b s) (c : Client) (i : RecIndex) (r : Record) :
    LinksWithin b (dropRecord c i r s) := freeWithin_linksWithin (h.same (by simp)) i r .drop

theorem disposeAt_linksWithin (c : Client) {p : State × List Client} (h : LinksWithin b p.1) (i : RecIndex) :
    LinksWithin b (disposeAt c p i).1 := by
  unfold disposeAt disposeRecord
  split
  · split
    · exact freeWithin_linksWithin h _ _ _
    · split
      · exact dropRecord_linksWithin h _ _ _
      · split
        · exact dropRecord_linksWithin h _ _ _
        · split
          · exact transfer_linksWithin h _ _ _
          · split
            · exact freeWithin_linksWithin h _ _ _
            · exact transfer_linksWithin h _ _ _
  · exact h

theorem finishDetach_linksWithin (h : LinksWithin b s) (c : Client) : LinksWithin b (finishDetach c s) := by
  have hd : LinksWithin b (disposeAll c s).1 :=
    List.foldlRecOn (motive := fun p : State × List Client => LinksWithin b p.1) _ _
      (show LinksWithin b (setAttention c false s) from h.same (by simp)) fun p hp i _ => disposeAt_linksWithin c hp i
  have he : LinksWithin b (examine c (clearDetached c (disposeAll c s).1)) := examine_linksWithin (hd.same (by simp)) c
  exact completeWake_linksWithin (List.foldlRecOn _ _ he fun _ hu f _ => entered_linksWithin hu f) _

theorem chargeScore_linksWithin (h : LinksWithin b s) (c : Client) (k : Nat) : LinksWithin b (chargeScore c k s) := by
  have hr := raiseScore_linksWithin h c k
  unfold chargeScore
  dsimp only
  split
  · exact finishDetach_linksWithin hr c
  · exact hr

theorem detach_linksWithin (h : LinksWithin b s) (c : Client) : LinksWithin b (detach c s) :=
  finishDetach_linksWithin (h.same (by simp)) c

theorem completeRejoin_linksWithin (h : LinksWithin b s) (c : Client) : LinksWithin b (completeRejoin c s) :=
  entered_linksWithin (h.same (by simp)) c

/-! ## Resets: the links are empty, or the client's own is (R128, R173) -/

theorem linksWithin_of_reset (e : s.links = Table.const linkAtReset) : LinksWithin b s := by
  intro c
  rw [State.link, e, Table.get_const]
  exact ⟨Nat.zero_le _, List.nodup_nil⟩

theorem flushLink_linksWithin (h : LinksWithin b s) (c : Client) : LinksWithin b (flushLink c s) :=
  h.setLink ⟨Nat.zero_le _, List.nodup_nil⟩

theorem contextsToDefaults_linksWithin (h : LinksWithin b s) (c : Client) : LinksWithin b (contextsToDefaults c s) := by
  unfold contextsToDefaults
  dsimp only
  split
  · exact placeHubFrame_linksWithin (h.same (by simp)) c _
  · exact h.same (by simp)

theorem clearSignals_linksWithin (h : LinksWithin b s) (c : Client) : LinksWithin b (clearSignals c s) := by
  refine List.foldlRecOn _ _ (h.same (t := setPendingFlags c 0 s) (by simp)) fun u hu i _ => ?_
  unfold freeSignal
  split
  · exact freeRecord_linksWithin hu _ _ _
  · exact hu

theorem settleOwnSlots_linksWithin (h : LinksWithin b s) (c : Client) : LinksWithin b (settleOwnSlots c s) := by
  refine List.foldlRecOn _ _ h fun u hu n _ => ?_
  unfold settleOwnSlot
  split
  · exact hu
  · exact hu
  · split
    · exact freeRecord_linksWithin hu _ _ _
    · exact hu.same (by simp)

theorem clientResetSteps_linksWithin (h : LinksWithin b s) (c : Client) (cause : ResetCause) :
    LinksWithin b (clientResetSteps c cause s) := by
  have h2 : LinksWithin b (flushLink c (startPulse c s)) := flushLink_linksWithin (h.same (by simp)) c
  have h4 := contextsToDefaults_linksWithin (h2.same (t := clearReady c (flushLink c (startPulse c s))) (by simp)) c
  have h5 := returnHeld_linksWithin (returnHeld_linksWithin h4 c .presented) c .suspended
  have h6 := settleOwnSlots_linksWithin (clearSignals_linksWithin h5 c) c
  exact h6.same (by simp [clientResetSteps])

theorem clientReset_linksWithin (h : LinksWithin b s) (c : Client) (cause : ResetCause) :
    LinksWithin b (clientReset c cause s) := by
  rw [clientReset_eq]
  split
  · exact linksWithin_of_reset rfl
  · exact clientResetSteps_linksWithin h c cause

/-! ## Expiries -/

theorem takeAction_linksWithin (h : LinksWithin b s) (c : Client) (i : RecIndex) (r : Record) (a : Action) :
    LinksWithin b (takeAction c i r a s) := by
  cases a with
  | clientReset => exact clientReset_linksWithin h c .escalation
  | boardReset => exact linksWithin_of_reset rfl
  | noteOnly => exact h.same (by simp [takeAction])
  | attention => exact h.same (by simp [takeAction])
  | attentionThenReset => exact h.same (by simp [takeAction])

theorem deadlineExpires_linksWithin (h : LinksWithin b s) (c : Client) (i : RecIndex) (r : Record) :
    LinksWithin b (deadlineExpires c i r s) := by
  have hr : LinksWithin b (s.setRecord i (some (expiredRecord r))) := h.same (by simp)
  have hc : LinksWithin b (chargedDeadline c i r s).1 := (raiseScore_linksWithin hr c 8).same (by simp [chargedDeadline])
  rw [deadlineExpires_eq]
  split
  · split
    · exact linksWithin_of_reset rfl
    · exact finishDetach_linksWithin hc c
  · exact takeAction_linksWithin hc c i _ _

theorem stageExpires_linksWithin (h : LinksWithin b s) (c : Client) : LinksWithin b (stageExpires c s) := by
  unfold stageExpires
  split
  · split
    · exact deadlineExpires_linksWithin h c _ _
    · exact clientReset_linksWithin h c .escalation
    all_goals exact h
  · exact h

theorem expire_linksWithin (h : LinksWithin b s) (t : Timer) : LinksWithin b (expire t s) := by
  cases t with
  | debounce l => exact acceptLevel_linksWithin h l
  | repeatInterval l => exact repeatRunsOut_linksWithin h l
  | holdOff c => exact endHoldOff_linksWithin h c
  | stage c => exact stageExpires_linksWithin h c
  | _ => exact h.same (by simp [expire])

/-! ## The take and the routing -/

theorem decideTargets_linksWithin (h : LinksWithin b s) (x : RouteEntry) (k : Key) :
    LinksWithin b (decideTargets x k s).1 := by
  refine List.foldlRecOn (motive := fun p : State × List Client => LinksWithin b p.1) clients (decideTarget x k) h
    fun p hp t _ => ?_
  unfold decideTarget
  split
  · split
    · exact hp
    · exact hp.same (by simp)
  · exact hp

theorem sendRequests_linksWithin (h : LinksWithin b s) (d : Descriptor) (x : RouteEntry) (hit : Hit) (m : RecMode)
    (rs : List Client) : LinksWithin b (sendRequests d x hit m rs s) :=
  List.foldlRecOn _ _ h fun _ hu _ _ => routingRequest_linksWithin hu _

theorem routeFirst_linksWithin (h : LinksWithin b s) (d : Descriptor) (x : RouteEntry) (e : EntryNo) (rs : List Client) :
    LinksWithin b (routeFirst d x e rs s) := by
  unfold routeFirst
  split
  · split
    · rename_i g _
      have hg : LinksWithin b (s.setGroup g (some ⟨0, false, e⟩)) := h.same (by simp)
      exact (sendRequests_linksWithin hg d x (.entry e) (.first g) rs).same (by simp)
    · exact sendRequests_linksWithin h _ _ _ _ _
  · exact sendRequests_linksWithin h _ _ _ _ _

theorem routeByEntry_linksWithin (h : LinksWithin b s) (d : Descriptor) (e : EntryNo) :
    LinksWithin b (routeByEntry d e s) := by
  unfold routeByEntry
  dsimp only
  split
  · exact sendRequests_linksWithin (decideTargets_linksWithin h _ _) _ _ _ _ _
  · exact routeFirst_linksWithin (decideTargets_linksWithin h _ _) _ _ _ _

theorem routeUnrouted_linksWithin (h : LinksWithin b s) (d : Descriptor) : LinksWithin b (routeUnrouted d s) := by
  unfold routeUnrouted
  split
  · split <;> exact h.same (by simp)
  · exact sendRequests_linksWithin (decideTargets_linksWithin h _ _) _ _ _ _ _

theorem takeHead_linksWithin (h : LinksWithin b s) : LinksWithin b (takeHead s) := by
  unfold takeHead
  split
  · rename_i d rest _
    have ht : LinksWithin b (reportTaken d.key.source (givePlace (s.setIntake rest))) := h.same (by simp)
    refine completeWake_linksWithin ?_ _
    unfold routeEvent
    dsimp only
    split
    · rename_i e _
      exact (routeByEntry_linksWithin ht d e).same (by simp)
    · exact (routeUnrouted_linksWithin ht d).same (by simp)
  · exact h

/-! ## ACK and the win of a group -/

theorem withdrawCopy_linksWithin (h : LinksWithin b s) (d : Client) (j : RecIndex) (r : Record) :
    LinksWithin b (withdrawCopy d j r s) := by
  cases e : r.state with
  | queued =>
    rw [withdrawCopy_queued e]
    exact freeRecord_linksWithin h j r .other
  | presented =>
    have hf : LinksWithin b (freeRecord j r .other (setAttention d false s)) :=
      freeRecord_linksWithin (h.same (by simp)) j r .other
    have ho : LinksWithin b (openGate d (setLastRecalled d (some (s.handleAt j))
        (freeRecord j r .other (setAttention d false s)))) := openGate_linksWithin (hf.same (by simp)) d
    rw [withdrawCopy_presented e]
    split
    · exact ho
    · exact placeHubFrame_linksWithin ho d _
  | suspended =>
    rw [withdrawCopy_suspended e]
    exact placeHubFrame_linksWithin ((freeRecord_linksWithin h j r .other).same (by simp)) d _

theorem decideGroup_linksWithin (h : LinksWithin b s) (i : RecIndex) (r : Record) (d : Disposition) :
    LinksWithin b (decideGroup i r d s) :=
  decideGroup_keeps_of (P := LinksWithin b) (fun _ _ _ hu => hu.same (by simp))
    (fun k j o _ hu => withdrawCopy_linksWithin hu k j o) h i r d

theorem ackPresented_linksWithin (h : LinksWithin b s) (c : Client) (i : RecIndex) (r : Record) (d : Disposition) :
    LinksWithin b (ackPresented c i r d s) := by
  have hf : LinksWithin b (ackFreed c i r d s) :=
    freeRecord_linksWithin (decideGroup_linksWithin (h.same (by simp)) i r d) i r d.cause
  have ho := openGate_linksWithin hf c
  have hh : LinksWithin b (ackEndsHoldOff c (openGate c (ackFreed c i r d s))) := by
    unfold ackEndsHoldOff
    split
    · exact endHoldOff_linksWithin ho c
    · exact ho
  rw [ackPresented_eq]
  unfold scoreAnswered
  split
  · exact hh
  · exact lowerScore_linksWithin hh c

theorem ackSuspended_linksWithin (h : LinksWithin b s) (c : Client) (i : RecIndex) (r : Record) (d : Disposition) :
    LinksWithin b (ackSuspended c i r d s) :=
  (freeRecord_linksWithin (decideGroup_linksWithin h i r d) i r d.cause).same (by simp [ackSuspended])

theorem ackNamed_linksWithin (h : LinksWithin b s) (c : Client) (x : Handle) (d : Disposition) :
    LinksWithin b (ackNamed c x d s).1 := by
  unfold ackNamed
  split
  · exact ackPresented_linksWithin h c _ _ d
  · split
    · exact ackSuspended_linksWithin h c _ _ d
    · split
      · exact h
      · exact chargeScore_linksWithin h c 4

/-! ## The rules of requests -/

theorem declareReady_linksWithin (h : LinksWithin b s) (c : Client) : LinksWithin b (declareReady c s) :=
  entered_linksWithin (h.same (by simp)) c

theorem exchange_linksWithin (h : LinksWithin b s) (c : Client) (k : ContextName) : LinksWithin b (exchange c k s).1 := by
  unfold exchange
  split
  · exact h
  · split
    · exact exchangeToService_linksWithin h c .request
    · split
      · exact h
      · exact exchangeToOperate_linksWithin h c

theorem setFilter_linksWithin (h : LinksWithin b s) (c : Client) (k : ContextName) (classes : FlagSet) (p : Priority) :
    LinksWithin b (setFilter c k classes p s) := by
  have hx : ∀ x, LinksWithin b (s.setContexts c x) := fun x => h.same (by simp)
  unfold setFilter
  dsimp only
  refine ctxExamine_linksWithin ?_ c
  split
  · exact examine_linksWithin (hx _) c
  · exact hx _

theorem raiseEvent_linksWithin (h : LinksWithin b s) (c : Client) (cls : BitVec 4) (code : BitVec 12) (created : Micros) :
    LinksWithin b (raiseEvent c cls code created s).1 := by
  unfold raiseEvent
  split
  · exact h
  · exact h.same (by simp)

theorem post_linksWithin (h : LinksWithin b s) (c : Client) (f : PostFields) (created : Micros) :
    LinksWithin b (post c f created s).1 := by
  unfold post
  split
  · exact h
  · split
    · exact h
    · split
      · exact h
      · rename_i n _ _ i _
        have hm := makeAt_linksWithin h i (postRequest c n f created s)
        exact entered_linksWithin (hm.same (by simp)) f.target

theorem withdraw_linksWithin (h : LinksWithin b s) (c : Client) (n : SlotNo) : LinksWithin b (withdraw c n s).1 := by
  unfold withdraw
  split
  · exact h
  · exact h
  · split
    · exact freeRecord_linksWithin h _ _ _
    · exact h

theorem signal_linksWithin (h : LinksWithin b s) (f : SignalFields) (created : Micros) :
    LinksWithin b (signal f created s).1 := by
  unfold signal
  split
  · exact h
  · split
    · exact coalesce_linksWithin (h.same (by simp)) _ _ _ _
    · split
      · rename_i i _
        have hm := makeAt_linksWithin h i (signalRequest f created s)
        exact entered_linksWithin (hm.same (by simp)) f.target
      · exact h

theorem heartbeat_linksWithin (h : LinksWithin b s) (c : Client) : LinksWithin b (heartbeat c s) := by
  unfold heartbeat
  dsimp only
  split
  · split
    · exact completeRejoin_linksWithin h c
    · exact h.same (by simp)
  · exact h

theorem rejoin_linksWithin (h : LinksWithin b s) (c : Client) : LinksWithin b (rejoin c s).1 := by
  unfold rejoin
  dsimp only
  split
  · exact h.same (by simp [accept])
  · exact h

theorem writeEntry_linksWithin (h : LinksWithin b s) (e : EntryNo) (x : RouteEntry) : LinksWithin b (writeEntry e x s).1 := by
  unfold writeEntry
  split
  · exact h
  · exact h.same (by simp [accept])

theorem forceAttach_linksWithin (h : LinksWithin b s) (d : Client) : LinksWithin b (forceAttach d s).1 := by
  unfold forceAttach
  split
  · exact h
  · exact completeRejoin_linksWithin h d

theorem forceDetach_linksWithin (h : LinksWithin b s) (d : Client) : LinksWithin b (forceDetach d s).1 := by
  unfold forceDetach
  split
  · exact detach_linksWithin h d
  · exact h

theorem sleepRequest_linksWithin (h : LinksWithin b s) : LinksWithin b (sleepRequest s).1 := by
  unfold sleepRequest
  split
  · exact h.same (by simp [accept])
  · exact h
  · exact h

theorem wakeRequest_linksWithin (h : LinksWithin b s) : LinksWithin b (wakeRequest s).1 := by
  unfold wakeRequest
  split
  · exact examineAll_linksWithin (h.same (by simp))
  · exact h
  · exact h

/-- No rule accepts a request or places a reply. -/
theorem rule_linksWithin {c : Client} {rule : Request → State → Answer} (hr : RuleOf c rule) (q : Request)
    (h : LinksWithin b s) : LinksWithin b (rule q s).1 := by
  cases hr with
  | ready => exact withFields_keeps h fun _ _ => declareReady_linksWithin h c
  | ack => exact withFields_keeps h fun _ _ => whileAttached_keeps h (ackNamed_linksWithin h _ _ _)
  | exchange => exact withFields_keeps h fun _ _ => whileAttached_keeps h (exchange_linksWithin h _ _)
  | contextSet => exact withFields_keeps h fun _ _ => whileAttached_keeps h (setFilter_linksWithin h _ _ _ _)
  | timerSet => exact withFields_keeps h fun _ _ => whileAttached_keeps h (h.same (by simp))
  | raise =>
    exact withPrivilege_keeps h (withFields_keeps h fun _ _ => whileAttached_keeps h (raiseEvent_linksWithin h _ _ _ _))
  | post => exact withPrivilege_keeps h (withFields_keeps h fun _ _ => whileAttached_keeps h (post_linksWithin h _ _ _))
  | withdraw => exact withPrivilege_keeps h (withFields_keeps h fun _ _ => whileAttached_keeps h (withdraw_linksWithin h _ _))
  | signal => exact withPrivilege_keeps h (withFields_keeps h fun _ _ => whileAttached_keeps h (signal_linksWithin h _ _))
  | heartbeat => exact withFields_keeps h fun _ _ => heartbeat_linksWithin h c
  | rejoin => exact withFields_keeps h fun _ _ => rejoin_linksWithin h c
  | query => exact withFields_keeps h fun _ _ => h
  | routeWrite => exact configure_keeps h fun _ _ => writeEntry_linksWithin h _ _
  | bankSet => exact configure_keeps h fun _ _ => h.same (by simp)
  | lineSet => exact configure_keeps h fun _ _ => configureLine_linksWithin h _ _ _
  | profileSet => exact configure_keeps h fun _ _ => h.same (by simp [accept])
  | clientSet => exact configure_keeps h fun _ _ => h.same (by simp [accept, setClient, setPrivileges])
  | routeRead => exact withFields_keeps h fun _ _ => whileAttached_keeps h h
  | lineRead => exact withFields_keeps h fun _ _ => whileAttached_keeps h h
  | profileRead => exact withFields_keeps h fun _ _ => whileAttached_keeps h h
  | clientRead => exact withFields_keeps h fun _ _ => whileAttached_keeps h h
  | forceAttach =>
    exact withPrivilege_keeps h (withFields_keeps h fun _ _ => whileAttached_keeps h (forceAttach_linksWithin h _))
  | forceDetach =>
    exact withPrivilege_keeps h (withFields_keeps h fun _ _ => whileAttached_keeps h (forceDetach_linksWithin h _))
  | forceReset =>
    exact withPrivilege_keeps h (withFields_keeps h fun _ _ => whileAttached_keeps h (clientReset_linksWithin h _ _))
  | freeze =>
    exact withPrivilege_keeps h (unlessFrozen_keeps h (withFields_keeps h fun _ _ =>
      whileAttached_keeps h (h.same (by simp [accept]))))
  | sleep => exact withPrivilege_keeps h (withFields_keeps h fun _ _ => whileAttached_keeps h (sleepRequest_linksWithin h))
  | wake => exact withPrivilege_keeps h (withFields_keeps h fun _ _ => whileAttached_keeps h (wakeRequest_linksWithin h))
  | resetHub =>
    exact withPrivilege_keeps h (withFields_keeps h fun _ _ => whileAttached_keeps h (h.same (by simp [accept])))
  | noteSet => exact withPrivilege_keeps h (withFields_keeps h fun _ _ => whileAttached_keeps h (h.same (by simp)))
  | status => exact withFields_keeps h fun _ _ => whileAttached_keeps h h

/-! ## The receiver (R160 to R162) -/

theorem setReceiver_linksWithin (h : LinksWithin b s) (c : Client) (r : Receiver) : LinksWithin b (setReceiver c r s) :=
  h.rewrite ⟨rfl, rfl, rfl⟩

theorem frameError_linksWithin (h : LinksWithin b s) (c : Client) : LinksWithin b (frameError c s) := by
  have hx : LinksWithin b (s.setLink c { s.link c with frameErrors := up16 (s.link c).frameErrors }) :=
    h.rewrite ⟨rfl, rfl, rfl⟩
  unfold frameError
  dsimp only
  split
  · exact hx.same (by simp)
  · exact chargeScore_linksWithin hx c 2

theorem frameFails_linksWithin (h : LinksWithin b s) (c : Client) : LinksWithin b (frameFails c s) :=
  frameError_linksWithin (setReceiver_linksWithin h c .hunt) c

theorem gapFails_linksWithin (h : LinksWithin b s) (c : Client) : LinksWithin b (gapFails c s) := by
  have hx : LinksWithin b (s.setLink c { s.link c with gaps := up16 (s.link c).gaps }) := h.rewrite ⟨rfl, rfl, rfl⟩
  exact frameFails_linksWithin hx c

theorem overrun_linksWithin (h : LinksWithin b s) (c : Client) : LinksWithin b (overrun c s) := by
  have hx : LinksWithin b (s.setLink c { s.link c with overruns := up16 (s.link c).overruns }) := h.rewrite ⟨rfl, rfl, rfl⟩
  exact (chargeScore_linksWithin hx c 2).same (by simp [overrun])

theorem placesHeld_iff {c : Client} : placesHeld s c = true ↔ 2 ≤ (s.link c).requests.length + (s.link c).replies.length :=
  decide_eq_true_iff

theorem placesHeld_false {c : Client} :
    placesHeld s c = false ↔ (s.link c).requests.length + (s.link c).replies.length < 2 :=
  decide_eq_false_iff_not.trans Nat.not_le

theorem pushRequest_linkLaw {c : Client} (h : LinkLaw s)
    (hfree : (s.link c).requests.length + (s.link c).replies.length < 2) (q : Request) : LinkLaw (pushRequest c q s) := by
  obtain ⟨-, hkinds⟩ := h c
  refine LinksWithin.setLink h ⟨?_, hkinds⟩
  simp only [List.length_append, List.length_singleton]
  omega

theorem placeReply_linkLaw {c : Client} (h : LinkLaw s)
    (hfree : (s.link c).requests.length + (s.link c).replies.length < 2) (r : Reply) : LinkLaw (placeReply c r s) := by
  obtain ⟨-, hkinds⟩ := h c
  refine LinksWithin.setLink h ⟨?_, hkinds⟩
  simp only [List.length_append, List.length_singleton]
  omega

/-- A frame takes a place only where both are not held: as a request, or as the reply to an unknown kind (R162). -/
theorem frameComplete_linkLaw (h : LinkLaw s) (c : Client) (kind tag : Byte) (payload : List Byte) :
    LinkLaw (frameComplete c kind tag payload s) := by
  rw [linkLaw_iff] at h ⊢
  unfold frameComplete
  split
  · exact h
  · split
    · exact overrun_linksWithin h c
    · rename_i hfree
      have hfree := placesHeld_false.1 (Bool.eq_false_of_not_eq_true hfree)
      split
      · exact pushRequest_linkLaw h hfree _
      · exact frameError_linksWithin (placeReply_linkLaw h hfree _) c

theorem checkFrame_linkLaw (h : LinkLaw s) (c : Client) (len : Byte) (got : List Byte) (hi lo : Byte) :
    LinkLaw (checkFrame c len got hi lo s) := by
  have hx : LinkLaw (setReceiver c .hunt s) := setReceiver_linksWithin h c .hunt
  unfold checkFrame
  split
  · split
    · exact frameComplete_linkLaw hx _ _ _ _
    · exact frameFails_linksWithin h c
  · exact frameFails_linksWithin h c

theorem advance_linkLaw (h : LinkLaw s) (c : Client) (x : Byte) : LinkLaw (advance c x s) := by
  have hr : ∀ r, LinkLaw (setReceiver c r s) := setReceiver_linksWithin h c
  unfold advance
  split
  · split
    · exact hr _
    · exact h
  · split
    · exact hr _
    · exact frameFails_linksWithin h c
  · split <;> exact hr _
  · exact hr _
  · exact checkFrame_linkLaw h _ _ _ _ _

theorem receiveByte_linkLaw (h : LinkLaw s) (c : Client) (x : Byte) : LinkLaw (receiveByte c x s) := by
  have hw : LinkLaw (wakeHub s) := wakeHub_linksWithin h
  have hm : LinkLaw (byteMeets c s) := by
    unfold byteMeets
    split
    · exact gapFails_linksWithin hw c
    · exact hw
  have hs : LinkLaw (stampByte c (byteMeets c s)) := LinksWithin.rewrite hm ⟨rfl, rfl, rfl⟩
  cases hl : (s.clientLinesOf c).resetLine with
  | true =>
    rw [receiveByte_held hl]
    exact h
  | false =>
    rw [receiveByte_released hl]
    exact advance_linkLaw hs c x

/-! ## The transmitter (R165) -/

theorem begun_linkWithin {n : Nat} {k : Link} (h : LinkWithin n k) (held : Bool) : LinkWithin n (begun held k) := by
  obtain ⟨hplaces, hkinds⟩ := h
  unfold begun
  split
  · exact ⟨hplaces, hkinds⟩
  · split
    · exact ⟨hplaces, hkinds⟩
    · split
      · rename_i e
        rw [e, List.length_cons] at hplaces
        exact ⟨(Nat.le_succ _).trans hplaces, hkinds⟩
      · split
        · rename_i e
          rw [e, List.map_cons] at hkinds
          exact ⟨hplaces, hkinds.of_cons⟩
        · exact ⟨hplaces, hkinds⟩

theorem settle_linksWithin (h : LinksWithin b s) : LinksWithin b (settle s) := by
  have hb : LinksWithin b (beginAll s) := List.foldlRecOn _ _ h fun u hu c _ => by
    rw [beginTransmission_eq]
    exact hu.setLink (begun_linkWithin (hu c) _)
  exact hb.same (by simp [settle])

theorem deliverSent_linksWithin (h : LinksWithin b s) (c : Client) (x : Handle) : LinksWithin b (deliverSent c x s) := by
  unfold deliverSent
  split
  · refine examine_linksWithin ?_ c
    split
    · exact h.same (by simp)
    · exact h
  · exact examine_linksWithin h c

theorem frameSent_linksWithin (h : LinksWithin b s) (c : Client) : LinksWithin b (frameSent c s) := by
  have hx : LinksWithin b (s.setLink c { s.link c with tx := none }) := h.rewrite ⟨rfl, rfl, rfl⟩
  unfold frameSent
  split
  · exact h
  · dsimp only
    split
    · split
      · exact linksWithin_of_reset rfl
      · exact hx
    · exact deliverSent_linksWithin hx c _
    all_goals exact hx

/-! ## Every step -/

/-- A request that is taken frees its place, which its rule leaves free and its reply takes (R162, R163). -/
theorem takeRequest_linkLaw {c : Client} {rule : Request → State → Answer} (hr : RuleOf c rule) (wanted : Request → Bool)
    (h : LinkLaw s) : LinkLaw (takeRequest c wanted rule s) := by
  rcases takeRequest_cases c wanted rule s with e | ⟨q, rest, -, hq, -, e⟩ <;> rw [e]
  · exact h
  · have hfree : LinksWithin (Function.update (fun _ => 2) c 1) (withoutRequest c rest s) := by
      obtain ⟨hplaces, hkinds⟩ := h c
      rw [hq, List.length_cons] at hplaces
      refine LinksWithin.write h ⟨?_, hkinds⟩ fun d hd => ?_
      · rw [Function.update_self]
        dsimp only
        omega
      · rw [Function.update_of_ne hd]
    have hrule := rule_linksWithin hr q hfree
    obtain ⟨hplaces, hkinds⟩ := hrule c
    rw [Function.update_self] at hplaces
    refine (linkLaw_iff _).2 (hrule.write ⟨?_, hkinds⟩ fun d hd => ?_)
    · simp only [List.length_append, List.length_singleton]
      omega
    · rw [Function.update_of_ne hd]

theorem assertResetInput_linksWithin (h : LinksWithin b s) (pins : PinLevels) : LinksWithin b (assertResetInput pins s) := by
  unfold assertResetInput
  dsimp only
  split
  · exact h.same rfl
  · exact linksWithin_of_reset rfl

theorem linkLaw_keptByParts : KeptByParts LinkLaw where
  pending _ _ h := LinksWithin.same h rfl
  time _ _ h := LinksWithin.same h rfl
  settle _ h := settle_linksWithin h
  lower t _ h := LinksWithin.same h (by cases t <;> simp [lower])
  expire t _ h := expire_linksWithin h t
  gapFails c _ h := gapFails_linksWithin h c
  receiveByte c x _ h := receiveByte_linkLaw h c x
  frameSent c _ h := frameSent_linksWithin h c
  takeHead _ h := takeHead_linksWithin h
  changeRawLevel l v _ h := changeRawLevel_linksWithin h l v
  powerOn _ _ _ _ := linksWithin_of_reset rfl
  assertInput pins _ h := assertResetInput_linksWithin h pins
  releaseInput _ h := LinksWithin.same h rfl
  take _ wanted _ _ hr h := takeRequest_linkLaw hr wanted h

end Operations

/-- Settles O55: each part of which a step is made keeps the law of the links' outbound queues. -/
theorem everyStepKeepsTheLinkLaw : Obligations.EveryStepKeepsTheLinkLaw := linkLaw_keptByParts.kept

end Sys2Proof.Laws
end

section
/-! PROOF. Received frames: a frame error is counted and charged (R161), a well-formed frame is discarded, counted as an overrun,
answered or accepted (R162, R178), and the bytes of a request frame spell that request (R159, R160). -/

namespace Sys2Proof.Laws

open Sys2Proof.Machine Sys2Proof.Safety

variable {c : Client} {s : State}

/-! ## A frame error (R161) -/

/-- The frame error is counted at its link (R161). -/
def errorCounted (c : Client) (s : State) : State :=
  s.setLink c { s.link c with frameErrors := min 65535 ((s.link c).frameErrors + 1) }

theorem frameError_eq (c : Client) (s : State) : frameError c s =
    if (s.healthOf c).health = .rejoining then
      (errorCounted c s).setHealth c { s.healthOf c with rejoin := 0, spacingLeft := 10 }
    else chargeScore c 2 (errorCounted c s) := rfl

theorem frameError_attached (h : s.attached c = true) : frameError c s = chargeScore c 2 (errorCounted c s) := by
  rw [frameError_eq, if_neg fun e => ?_]
  rw [State.attached, e] at h
  cases h

theorem frameError_detached (h : (s.healthOf c).health = .detached) : frameError c s = errorCounted c s := by
  have ha : (errorCounted c s).attached c = false := congrArg Health.attached h
  rw [frameError_eq, if_neg (by rw [h]; nofun), chargeScore_unattached ha]

theorem frameError_rejoining (h : (s.healthOf c).health = .rejoining) : frameError c s =
    (errorCounted c s).setHealth c { s.healthOf c with rejoin := 0, spacingLeft := 10 } := by
  rw [frameError_eq, if_pos h]

/-! ## A well-formed frame (R162, R178) -/

theorem kindOfByte_kindByte (k : RequestKind) : kindOfByte (kindByte k) = some k := by cases k <;> rfl

theorem kindOfByte_unknown {b : Byte} (h : ∀ k, kindByte k ≠ b) : kindOfByte b = none :=
  List.find?_eq_none.2 fun k _ => by simpa using h k

variable (kind tag : Byte) (payload : List Byte)

theorem frameComplete_pending (h : s.sup.resetPending ≠ none) : frameComplete c kind tag payload s = s :=
  if_pos (Option.isSome_iff_ne_none.2 h)

theorem frameComplete_taken (hp : s.sup.resetPending = none)
    (h : 2 ≤ (s.link c).requests.length + (s.link c).replies.length) : frameComplete c kind tag payload s = overrun c s := by
  unfold frameComplete
  rw [hp, placesHeld_iff.2 h]
  rfl

theorem frameComplete_unknown (hp : s.sup.resetPending = none)
    (h : (s.link c).requests.length + (s.link c).replies.length < 2) (hk : ∀ k, kindByte k ≠ kind) :
    frameComplete c kind tag payload s = frameError c (placeReply c ⟨tag, kind, .badKind, []⟩ s) := by
  unfold frameComplete
  rw [hp, placesHeld_false.2 h, kindOfByte_unknown hk]
  rfl

theorem frameComplete_request (hp : s.sup.resetPending = none)
    (h : (s.link c).requests.length + (s.link c).replies.length < 2) (k : RequestKind) :
    frameComplete c (kindByte k) tag payload s = pushRequest c ⟨k, tag, payload, s.now⟩ s := by
  unfold frameComplete
  rw [hp, placesHeld_false.2 h, kindOfByte_kindByte]
  rfl

/-- Settles O44: a frame error by the client's health, a well-formed frame by the pending reset, the held places and its kind. -/
theorem framesAreAcceptedOrCounted : Obligations.FramesAreAcceptedOrCounted := by
  intro c kind tag payload s v
  refine ⟨fun hv => ?_, frameComplete_pending kind tag payload, fun hp => ⟨frameComplete_taken kind tag payload hp, fun hfree =>
    ⟨frameComplete_unknown kind tag payload hp hfree, fun k hk => ?_⟩⟩⟩
  · subst hv
    exact ⟨frameError_attached, frameError_detached, frameError_rejoining⟩
  · subst hk
    exact frameComplete_request tag payload hp hfree k

/-! ## A settled state stays settled while a receiver moves -/

theorem begun_eq_self_iff (held : Bool) (k : Link) : begun held k = k ↔
    held = true ∨ k.tx ≠ none ∨ k.replies = [] ∧ k.hub = [] := by
  obtain ⟨receiver, stamp, requests, replies, hub, tx, errors, overruns, gaps⟩ := k
  cases held with
  | true => simp [begun]
  | false => cases tx <;> cases replies <;> cases hub <;> simp [begun]

/-- Outside SLEEP a settled state has no transmission to begin, and does not meet the conditions of SLEEP. -/
theorem settled_parts (hs : settle s = s) (hm : s.sup.mode ≠ .sleep) :
    (∀ d, begun (s.clientLinesOf d).resetLine (s.link d) = s.link d) ∧ sleepReady s = false := by
  have hn : sleepReady (beginAll s) = false := by
    refine Bool.eq_false_of_not_eq_true fun hr => hm ?_
    rw [← hs, settle, enterSleep, if_pos hr]
    rfl
  have hb : beginAll s = s := by
    rw [settle, enterSleep, hn] at hs
    exact hs
  refine ⟨fun d => ?_, hb ▸ hn⟩
  have hd : (beginAll s).link d = s.link d := by rw [hb]
  rw [beginAll_eq] at hd
  simpa only [State.link, Table.get_build] using hd

/-- A link of a settled state is written: what it has to send stays, and no request leaves it. -/
theorem settle_setLink (hs : settle s = s) (hm : s.sup.mode ≠ .sleep) {k : Link}
    (he : k.tx = (s.link c).tx ∧ k.replies = (s.link c).replies ∧ k.hub = (s.link c).hub)
    (hq : k.requests = [] → (s.link c).requests = []) : settle (s.setLink c k) = s.setLink c k := by
  obtain ⟨hbegun, hready⟩ := settled_parts hs hm
  obtain ⟨htx, hreplies, hhub⟩ := he
  have hb : beginAll (s.setLink c k) = s.setLink c k := by
    rw [beginAll_eq]
    refine congrArg (fun t => { s.setLink c k with links := t }) (Table.ext_get fun d => ?_)
    simp only [Table.get_build, State.link, State.clientLinesOf, State.setLink_clientLines, State.setLink_links, Table.get_set]
    split
    · rename_i hd
      subst hd
      refine (begun_eq_self_iff _ _).2 ?_
      rw [htx, hreplies, hhub]
      exact (begun_eq_self_iff _ _).1 (hbegun d)
    · exact hbegun d
  have hn : sleepReady (s.setLink c k) = false := by
    refine Bool.eq_false_of_not_eq_true fun hr => Bool.eq_false_iff.1 hready ?_
    obtain ⟨hmode, hrec, hintake, hlinks, hlines⟩ := (sleepReady_iff _).1 hr
    refine (sleepReady_iff s).2 ⟨hmode, hrec, hintake, fun d => ?_, hlines⟩
    have hd := hlinks d
    simp only [State.link, State.setLink_links, Table.get_set] at hd
    split at hd
    · rename_i e
      subst e
      rw [htx, hreplies, hhub] at hd
      exact ⟨hq hd.1, hd.2⟩
    · exact hd
  rw [settle, hb, enterSleep, hn]
  rfl

/-! ## The bytes of a frame, one after another (R160) -/

/-- Link c's receiver is in the state `r`, its last byte having come now. -/
def receiverAt (c : Client) (r : Receiver) (s : State) : State :=
  s.setLink c { s.link c with receiver := r, stamp := s.time.counter }

theorem receiverAt_link (c : Client) (r : Receiver) (s : State) :
    (receiverAt c r s).link c = { s.link c with receiver := r, stamp := s.time.counter } := by
  rw [receiverAt, State.link, State.setLink_links, Table.get_set_same]

theorem setReceiver_receiverAt (c : Client) (r r' : Receiver) (s : State) :
    setReceiver c r' (receiverAt c r s) = receiverAt c r' s := by
  rw [setReceiver, receiverAt_link, receiverAt, setLink_setLink, receiverAt]

/-- A link that takes bytes: its client's reset line is released, the hub is awake, and nothing is left to begin. -/
structure Receives (c : Client) (s : State) : Prop where
  released : (s.clientLinesOf c).resetLine = false
  awake : s.sup.mode ≠ .sleep
  settled : settle s = s

theorem receiverAt_settled (h : Receives c s) (r : Receiver) : settle (receiverAt c r s) = receiverAt c r s :=
  settle_setLink h.settled h.awake ⟨rfl, rfl, rfl⟩ id

/-- A byte that comes to a link in HUNT, or at the moment of the byte before it, finds no gap (R160). -/
theorem takeByte_eq {u : State} (hl : (u.clientLinesOf c).resetLine = false) (hm : u.sup.mode ≠ .sleep)
    (hg : (u.link c).receiver = .hunt ∨ (u.link c).stamp = u.time.counter) (b : Byte) :
    takeByte c u b = settle (advance c b (stampByte c u)) := by
  have hmeets : byteMeets c u = u := by
    unfold byteMeets
    rw [wakeHub_awake hm]
    refine if_neg fun hx => ?_
    obtain ⟨hmid, hlate⟩ := hx
    rcases hg with hg | hg
    · exact hmid hg
    · rw [hg, BitVec.sub_self] at hlate
      exact Nat.not_lt_zero _ hlate
  rw [takeByte, receiveByte_released hl, hmeets]

/-- A byte of a frame in reception advances the receiver, and nothing else. -/
theorem takeByte_receiverAt (h : Receives c s) (r : Receiver) (b : Byte) :
    takeByte c (receiverAt c r s) b = settle (advance c b (receiverAt c r s)) := by
  have hstamp : stampByte c (receiverAt c r s) = receiverAt c r s := by
    rw [stampByte, receiverAt_link, receiverAt, setLink_setLink]
    rfl
  have hnow : ((receiverAt c r s).link c).stamp = (receiverAt c r s).time.counter := by
    rw [receiverAt_link]
    rfl
  rw [takeByte_eq (u := receiverAt c r s) h.released h.awake (.inr hnow), hstamp]

theorem receiver_receiverAt (c : Client) (r : Receiver) (s : State) : ((receiverAt c r s).link c).receiver = r := by
  rw [receiverAt_link]

/-- The byte SYNC takes a link out of HUNT. -/
theorem takeByte_sync (h : Receives c s) (hr : (s.link c).receiver = .hunt) :
    takeByte c s 0xD4#8 = receiverAt c .length s := by
  have hstamp : stampByte c s = receiverAt c .hunt s := by
    rw [stampByte, receiverAt, ← hr]
  rw [takeByte_eq h.released h.awake (.inl hr), hstamp, advance_sync (b := 0xD4#8) (receiver_receiverAt c .hunt s) rfl,
    setReceiver_receiverAt, receiverAt_settled h]

theorem takeByte_length (h : Receives c s) {len : Byte} (hlen : len.toNat ≤ 48) :
    takeByte c (receiverAt c .length s) len = receiverAt c (.body len []) s := by
  rw [takeByte_receiverAt h, advance_length (receiver_receiverAt c .length s) hlen, setReceiver_receiverAt,
    receiverAt_settled h]

theorem receiveAll_cons (c : Client) (b : Byte) (rest : List Byte) (s : State) :
    receiveAll c (b :: rest) s = receiveAll c rest (takeByte c s b) := rfl

theorem receiveAll_append (c : Client) (bytes rest : List Byte) (s : State) :
    receiveAll c (bytes ++ rest) s = receiveAll c rest (receiveAll c bytes s) := List.foldl_append

/-- The bytes of the body are kept in their order, up to the last that LEN announces. -/
theorem receiveAll_body (h : Receives c s) {len : Byte} (rest : List Byte) : ∀ got : List Byte, rest ≠ [] →
    got.length + rest.length = len.toNat + 2 →
    receiveAll c rest (receiverAt c (.body len got) s) = receiverAt c (.check len (got ++ rest) none) s := by
  induction rest with
  | nil => exact fun _ hne => absurd rfl hne
  | cons b rest ih =>
    intro got _ hlen
    rw [List.length_cons] at hlen
    have hbyte := takeByte_receiverAt h (.body len got) b
    rw [advance_body (receiver_receiverAt c _ s), setReceiver_receiverAt, receiverAt_settled h] at hbyte
    rw [receiveAll_cons, hbyte]
    cases rest with
    | nil =>
      rw [List.length_nil] at hlen
      rw [if_neg (by omega)]
      rfl
    | cons b' rest =>
      rw [if_pos (by rw [List.length_cons] at hlen; omega), List.append_cons got b (b' :: rest)]
      refine ih (got ++ [b]) nofun ?_
      rw [List.length_append, List.length_singleton]
      omega

theorem takeByte_firstCheck (h : Receives c s) (len : Byte) (got : List Byte) (b : Byte) :
    takeByte c (receiverAt c (.check len got none) s) b = receiverAt c (.check len got (some b)) s := by
  rw [takeByte_receiverAt h, advance_firstCheck (receiver_receiverAt c _ s), setReceiver_receiverAt, receiverAt_settled h]

/-- With the second CHECK byte the frame whose check agrees is complete. -/
theorem takeByte_secondCheck (h : Receives c s) (len kind tag : Byte) (payload : List Byte) {hi lo : Byte}
    (hcrc : (crc16 (len :: kind :: tag :: payload)).toNat = 256 * hi.toNat + lo.toNat) :
    takeByte c (receiverAt c (.check len (kind :: tag :: payload) (some hi)) s) lo =
      settle (frameComplete c kind tag payload (receiverAt c .hunt s)) := by
  rw [takeByte_receiverAt h, advance_secondCheck (receiver_receiverAt c _ s), if_pos hcrc, setReceiver_receiverAt]

theorem check_bytes (x : BitVec 16) : x.toNat = 256 * (byte (x.toNat / 256)).toNat + (byte x.toNat).toNat := by
  rw [Nat.mul_comm]
  exact (num16_byte x.isLt).symm

/-- The bytes of a frame, received in order by a link in HUNT, complete that frame (R159, R160). -/
theorem receiveAll_frameBytes (h : Receives c s) (hr : (s.link c).receiver = .hunt) (hlen : payload.length ≤ 48) :
    receiveAll c (frameBytes kind tag payload) s = settle (frameComplete c kind tag payload (receiverAt c .hunt s)) := by
  have hbyte : (byte payload.length).toNat = payload.length := by
    rw [byte, BitVec.toNat_ofNat]
    omega
  have hbody := receiveAll_body h (len := byte payload.length) (kind :: tag :: payload) [] nofun (by
    simp only [List.length_nil, List.length_cons, hbyte]
    omega)
  have hsplit : frameBytes kind tag payload = 0xD4#8 :: byte payload.length :: ((kind :: tag :: payload) ++
      be16 (crc16 (byte payload.length :: kind :: tag :: payload)).toNat) := rfl
  rw [hsplit, receiveAll_cons, takeByte_sync h hr, receiveAll_cons, takeByte_length h (hbyte.trans_le hlen),
    receiveAll_append, hbody, List.nil_append, be16, receiveAll_cons, takeByte_firstCheck h, receiveAll_cons,
    takeByte_secondCheck h _ kind tag payload (check_bytes _)]
  rfl

/-- Settles O47: the bytes complete their frame, and the frame is accepted as that request. -/
theorem frameBytesSpellTheirRequest : Obligations.FrameBytesSpellTheirRequest := by
  intro c k tag payload s hlen hr hl hp hfree hm hs
  have h : Receives c s := ⟨hl, hm, hs⟩
  have hlink := receiverAt_link c .hunt s
  have hdone : frameComplete c (kindByte k) tag payload (receiverAt c .hunt s) = s.setLink c { s.link c with
      stamp := s.time.counter
      requests := (s.link c).requests ++ [⟨k, tag, payload, s.time.counter⟩] } := by
    rw [frameComplete_request (s := receiverAt c .hunt s) tag payload hp (by rw [hlink]; exact hfree), pushRequest, hlink,
      receiverAt, setLink_setLink, ← hr]
    rfl
  rw [receiveAll_frameBytes (kindByte k) tag payload h hr hlen, hdone]
  exact settle_setLink hs hm ⟨rfl, rfl, rfl⟩ fun e => absurd e (List.append_ne_nil_of_right_ne_nil _ (List.cons_ne_nil _ _))

/-! ## Request commands (R159, R170; log entry 6) -/

/-- A request that is sent arrives as the bytes of its frame, and is then a request that waits. -/
theorem serve_sent (c : Client) (k : RequestKind) (rule : Request → State → Answer) (tag : Byte) (p : List Byte) (s : State) :
    Host.Outcome.next (φ := Fault) (ρ := Refusal) (serve c k (.sent tag p) rule s) =
      .next (serve c k .waiting rule (receiveAll c (frameBytes (kindByte k) tag p) s)) := rfl

theorem serveForce_sent (c : Client) (op : Byte) (rule : Request → State → Answer) (tag : Byte) (p : List Byte) (s : State) :
    Host.Outcome.next (φ := Fault) (ρ := Refusal) (serveForce c op (.sent tag p) rule s) =
      .next (serveForce c op .waiting rule (receiveAll c (frameBytes 0x40 tag p) s)) := rfl

/-- Settles O46: row by row, by the kind byte of the row. -/
theorem requestCommandsAreFrames : Obligations.RequestCommandsAreFrames := by
  intro c tag p s
  exact ⟨serve_sent c .ready _ tag p s, serve_sent c .ack _ tag p s, serve_sent c .exchange _ tag p s,
    serve_sent c .contextSet _ tag p s, serve_sent c .timerSet _ tag p s, serve_sent c .raise _ tag p s,
    serve_sent c .post _ tag p s, serve_sent c .withdraw _ tag p s, serve_sent c .signal _ tag p s,
    serve_sent c .heartbeat _ tag p s, serve_sent c .rejoin _ tag p s, serve_sent c .query _ tag p s,
    serve_sent c .routeWrite _ tag p s, serve_sent c .bankSet _ tag p s, serve_sent c .lineSet _ tag p s,
    serve_sent c .profileSet _ tag p s, serve_sent c .clientSet _ tag p s, serve_sent c .routeRead _ tag p s,
    serve_sent c .lineRead _ tag p s, serve_sent c .profileRead _ tag p s, serve_sent c .clientRead _ tag p s,
    serveForce_sent c 0 _ tag p s, serveForce_sent c 1 _ tag p s, serveForce_sent c 2 _ tag p s,
    serve_sent c .freeze _ tag p s, serve_sent c .sleep _ tag p s, serve_sent c .wake _ tag p s,
    serve_sent c .resetHub _ tag p s, serve_sent c .noteSet _ tag p s, serve_sent c .status _ tag p s⟩

end Sys2Proof.Laws
end

section
/-! PROOF. The transmitter: what it begins (R165), what the end of a frame leaves (R165, R178), and the bytes of the frames it sends
(R159, R163, R170 to R172). -/

namespace Sys2Proof.Laws

open Sys2Proof.Machine Sys2Proof.Safety

section Transmitter

variable {c : Client} {s : State}

/-! ## The beginning of a transmission (R165) -/

theorem beginTransmission_kept (h : (s.clientLinesOf c).resetLine = true ∨ (s.link c).tx ≠ none) :
    beginTransmission s c = s := by
  rw [beginTransmission_eq, (begun_eq_self_iff _ _).2 (h.imp_right .inl), State.link, setLink_self]

theorem beginTransmission_idle (h : (s.link c).replies = []) (hf : (s.link c).hub = []) : beginTransmission s c = s := by
  rw [beginTransmission_eq, (begun_eq_self_iff _ _).2 (.inr (.inr ⟨h, hf⟩)), State.link, setLink_self]

theorem beginTransmission_reply (hl : (s.clientLinesOf c).resetLine = false) (ht : (s.link c).tx = none) {r : Reply}
    {rest : List Reply} (h : (s.link c).replies = r :: rest) :
    beginTransmission s c = s.setLink c { s.link c with tx := some (.reply r), replies := rest } := by
  rw [beginTransmission_eq]
  simp [begun, hl, ht, h]

theorem beginTransmission_hub (hl : (s.clientLinesOf c).resetLine = false) (ht : (s.link c).tx = none)
    (h : (s.link c).replies = []) {f : HubFrame} {rest : List HubFrame} (hf : (s.link c).hub = f :: rest) :
    beginTransmission s c = s.setLink c { s.link c with tx := some (.hub f), hub := rest } := by
  rw [beginTransmission_eq]
  simp [begun, hl, ht, h, hf]

/-! ## The end of a frame (R165, R178) -/

theorem exec_transmissionEnd (c : Client) (s : State) : exec (.transmissionEnd c) s = .next (settle (frameSent c s)) := rfl

theorem frameSent_idle (h : (s.link c).tx = none) : frameSent c s = s := by
  unfold frameSent
  rw [h]

/-- The reply that ends a pending RESET_HUB is the OK reply to it (R178). -/
theorem endsReset_iff (s : State) (c : Client) (r : Reply) : endsReset s c r = true ↔
    r.kind = 0x44 ∧ r.status = .ok ∧ s.sup.resetPending = some c := by
  simp only [endsReset, Bool.and_eq_true, decide_eq_true_eq, and_assoc]
  rfl

theorem frameSent_reply {r : Reply} (h : (s.link c).tx = some (.reply r)) {v : State}
    (hv : v = s.setLink c { s.link c with tx := none }) : frameSent c s =
      if r.kind = 0x44 ∧ r.status = .ok ∧ s.sup.resetPending = some c then boardReset .request (some c) v else v := by
  have hends : endsReset v c r = true ↔ r.kind = 0x44 ∧ r.status = .ok ∧ s.sup.resetPending = some c := by
    rw [endsReset_iff, hv]
    rfl
  unfold frameSent
  rw [h, ← if_congr hends rfl rfl, hv]

theorem frameSent_hub {f : HubFrame} (h : (s.link c).tx = some (.hub f)) (hf : ∀ d, f ≠ .deliver d) :
    frameSent c s = s.setLink c { s.link c with tx := none } := by
  unfold frameSent
  rw [h]
  match f, hf with
  | .deliver d, hf => exact absurd rfl (hf d)
  | .recall _, _ => rfl
  | .context _ _ _, _ => rfl
  | .slots _, _ => rfl

end Transmitter

/-! ## The CHECK of a frame (R159) -/

/-- One byte more: eight positions of the polynomial, the most significant bit first. -/
theorem crc16_snoc (p : List Byte) (b : Byte) : crc16 (p ++ [b]) = [0, 1, 2, 3, 4, 5, 6, 7].foldl
    (fun (x : BitVec 16) (_ : Nat) => if x.getLsbD 15 then (x <<< 1) ^^^ 0x1021#16 else x <<< 1)
    (crc16 p ^^^ ((b.zeroExtend 16) <<< 8)) := by
  rw [crc16, List.foldl_append]
  rfl

/-! ## The payloads of the frames the hub sends (R163, R170 to R172) -/

/-- The DELIVER payload ends with the body: two bytes of a signal's flags, or the payload of the record (R172). -/
theorem deliverPayload_length (h : Handle) (r : Record) : (deliverPayload (deliverOf h r)).length =
    if r.key.source = 41 then 17 else 15 + r.payload.length := by
  simp only [deliverPayload, deliverOf, be16, be32, List.length_append, List.length_cons, List.length_nil]
  split
  · rfl
  · omega

theorem deliverPayload_eq (d : DeliverFields) : deliverPayload d =
    [byte d.handle.index.val, d.handle.gen, byte d.key.source.toNat, byte d.key.cls.toNat, byte (d.key.code.toNat / 256),
      byte d.key.code.toNat, byte (d.priority.val + if d.urgent then 128 else 0), byte d.count,
      byte ((if d.interrupted then 1 else 0) + if d.resumed then 2 else 0), byte (d.created.toNat / 16777216),
      byte (d.created.toNat / 65536), byte (d.created.toNat / 256), byte d.created.toNat,
      match d.hit with | .entry e => byte e.val | .unrouted => 64 | .direct => 65, byte d.body.length] ++ d.body := by
  unfold deliverPayload
  cases d.hit <;> rfl

theorem contextPayload_eq (k : ContextName) (cause : ContextCause) (h : Option Handle) :
    (HubFrame.context k cause h).payload = [(match k with | .operate => 0 | .service => 1 : Byte),
      match cause with | .request => 0 | .forced => 1 | .reset => 2] ++
      match h with | some x => [byte x.index.val, x.gen] | none => [255, 255] := by
  cases k <;> cases cause <;> cases h <;> rfl

theorem outcomeByte_eq (o : PostOutcome) :
    byte o.code = (match o with | .none => 0 | .taken => 1 | .declined => 2 | .lost => 3 : Byte) := by
  cases o <;> rfl

theorem slotsPayload_eq (x : Table 4 SlotsEntry) : slotsPayload x = ([0, 1, 2, 3] : List SlotNo).flatMap fun n =>
    [(match (x.get n).outcome with | .none => 0 | .taken => 1 | .declined => 2 | .lost => 3 : Byte), byte (x.get n).number] := by
  have hn : List.finRange 4 = ([0, 1, 2, 3] : List SlotNo) := rfl
  rw [slotsPayload, table_data, hn, List.flatMap_map]
  simp only [outcomeByte_eq]

/-- Settles O45: the beginning of a transmission by what the link holds, the end of a frame by the frame in transmission, and the bytes
of each frame by its kind. -/
theorem transmitterTakesRepliesFirst : Obligations.TransmitterTakesRepliesFirst := by
  refine ⟨fun c s v hv => ⟨beginTransmission_kept, fun hl ht => ⟨fun r rest => beginTransmission_reply hl ht, fun h =>
      ⟨fun f rest => beginTransmission_hub hl ht h, beginTransmission_idle h⟩⟩,
    fun ht => ?_, fun r ht => ?_, fun f ht hf => ?_, rfl⟩,
    fun k tag p => rfl, by decide +kernel, rfl, crc16_snoc, rfl, fun r => rfl, fun d => ?_, deliverPayload_length,
    fun h => rfl, fun k cause h => ?_, fun x => ?_⟩
  · rw [exec_transmissionEnd, frameSent_idle ht]
  · rw [exec_transmissionEnd, frameSent_reply ht hv]
  · rw [exec_transmissionEnd, frameSent_hub ht hf, hv]
  · exact congrArg (frameBytes 0x81 0) (deliverPayload_eq d)
  · exact congrArg (frameBytes 0x83 0) (contextPayload_eq k cause h)
  · exact congrArg (frameBytes 0x84 0) (slotsPayload_eq x)

end Sys2Proof.Laws
end

section
/-! PROOF. Power-on (R175; log entries 10 and 35), and the requests FREEZE (R182), NOTE_SET (R179) and RESET_HUB (R178). -/

namespace Sys2Proof.Laws

open Sys2Proof.Machine Sys2Proof.Safety

/-! ## Power-on (R175) -/

theorem exec_powerOn (pins : PinLevels) (raw : BitVec 24) (s : State) :
    exec (.powerOn pins raw) s = .next (powerOnReset pins raw s) := by
  show Host.Outcome.next (settle (powerOnReset pins raw s)) = _
  rw [powerOnReset, settle_hubReset]

/-- Settles O3: power-on leaves a hub fresh from a reset, in which no transmission begins and no SLEEP is entered. -/
theorem powerOnGivesEveryResetValue : Obligations.PowerOnGivesEveryResetValue := fun pins raw s =>
  ⟨_, exec_powerOn pins raw s, freshHub_hubReset .., rfl, rfl⟩

/-! ## FREEZE, NOTE_SET and RESET_HUB -/

section Requests

variable {s u : State} {c : Client} {a : Arrival} {q : Request}

theorem exec_freeze (ht : Takes s c .freeze a q u) : exec (.freeze c a) s = .next (outcomeOf c q
    (configure c (parseEmpty q.payload) u fun _ => accept (u.setSup { u.sup with frozen := true }))) :=
  congrArg Host.Outcome.next (serve_of_takes (ruleFreeze c) ht)

theorem exec_noteSet (ht : Takes s c .noteSet a q u) : exec (.noteSet c a) s = .next (outcomeOf c q
    (withPrivilege .control c u <| withFields (parseNoteSet q.payload) u fun v =>
      whileAttached c u (u.setSup { u.sup with note := v }, .ok, be32 u.sup.note.toNat))) :=
  congrArg Host.Outcome.next (serve_of_takes (ruleNoteSet c) ht)

theorem exec_resetHub (ht : Takes s c .resetHub a q u) : exec (.resetHub c a) s = .next (outcomeOf c q
    (withPrivilege .control c u <| withFields (parseEmpty q.payload) u fun _ =>
      whileAttached c u (accept (u.setSup { u.sup with resetPending := some c })))) :=
  congrArg Host.Outcome.next (serve_of_takes (ruleResetHub c) ht)

/-- A configuration request that has no fields (R166). -/
theorem outcomeOf_configure_empty (c : Client) (q : Request) (u : State) (rest : Answer) :
    outcomeOf c q (configure c (parseEmpty q.payload) u fun _ => rest) = judged c q u
      [(!holds u c .configure, .denied), (u.sup.frozen, .frozen), (q.payload ≠ [], .badField), (!u.attached c, .detached)]
      (outcomeOf c q rest) := by
  by_cases hq : q.payload = []
  · rw [outcomeOf_configure_some c q u ((parseEmpty_eq q.payload ()).2 hq)]
    simp [hq]
  · rw [outcomeOf_configure_none c q u (Option.eq_none_iff_forall_ne_some.2 (parseEmpty_ne hq))]
    simp [hq]

end Requests

/-- Settles O51: each request by the checks of its rule in their order. -/
theorem freezeNoteAndResetRequests : Obligations.FreezeNoteAndResetRequests := by
  refine ⟨fun s u c a q ht => ?_, fun s u c a q ht => ⟨fun h => ?_, fun v hq => ?_⟩, fun s u c a q ht => ?_⟩
  · rw [exec_freeze ht, outcomeOf_configure_empty, outcomeOf_accept]
  · have hf : ∀ v, parseNoteSet q.payload ≠ some v := fun v e => h v ((parseNoteSet_eq q.payload v).1 e)
    rw [exec_noteSet ht, outcomeOf_privileged_none c q u .control hf]
  · rw [exec_noteSet ht, outcomeOf_privileged_some c q u .control ((parseNoteSet_eq q.payload v).2 hq), outcomeOf_mk]
  · rw [exec_resetHub ht, outcomeOf_control, outcomeOf_accept]

end Sys2Proof.Laws
end

section
/-! PROOF. What FROZEN locks (R182) is kept by every operation that is neither a reset of the hub nor a configuration request: one
equation for each operation that writes a line, a client's contexts, its lines or its posts, and for each operation that these use. -/

namespace Sys2Proof.Safety

open Sys2Proof.Machine

/-- FROZEN, and what it locks (R182): route entries, bank states, line configurations, profiles, privileges and client settings. -/
structure LockedItems where
  frozen : Bool
  entries : Table 48 RouteEntry
  banks : Table 6 BankState
  lineConfig : LineNo → LineConfig
  profiles : Table 4 Profile
  privileges : Table 4 PrivilegeSet
  holdOffTime : Client → Nat
  pulseWidth : Client → Nat
  postProfile : Client → ProfileNo
  signalProfile : Client → ProfileNo

/-- The locked items of a state. -/
def locked (s : State) : LockedItems where
  frozen := s.sup.frozen
  entries := s.entries
  banks := s.banks
  lineConfig l := (s.line l).config
  profiles := s.profiles
  privileges := s.sup.privileges
  holdOffTime c := (s.contextsOf c).holdOffTime
  pulseWidth c := (s.clientLinesOf c).pulseWidth
  postProfile c := (s.postsOf c).postProfile
  signalProfile c := (s.postsOf c).signalProfile

theorem sameConfiguration_of_locked {s t : State} (h : locked t = locked s) : SameConfiguration s t := by
  simp only [locked, LockedItems.mk.injEq, funext_iff] at h
  obtain ⟨-, hentries, hbanks, hlines, hprofiles, hprivileges, hholdOff, hpulse, hpost, hsignal⟩ := h
  exact ⟨hentries, hbanks, hlines, hprofiles, hprivileges, fun c => ⟨hholdOff c, hpulse c, hpost c, hsignal c⟩⟩

/-- An operation that leaves the fields of the locked items as they are leaves the locked items. -/
theorem locked_of_fields {s t : State} (e : t.sup.frozen = s.sup.frozen ∧ t.sup.privileges = s.sup.privileges ∧
    t.entries = s.entries ∧ t.banks = s.banks ∧ t.profiles = s.profiles ∧ t.lines = s.lines ∧ t.contexts = s.contexts ∧
    t.clientLines = s.clientLines ∧ t.posts = s.posts) : locked t = locked s := by
  obtain ⟨hfrozen, hprivileges, hentries, hbanks, hprofiles, hlines, hcontexts, hclientLines, hposts⟩ := e
  simp only [locked, State.line, State.contextsOf, State.clientLinesOf, State.postsOf, hfrozen, hprivileges, hentries, hbanks,
    hprofiles, hlines, hcontexts, hclientLines, hposts]

end Sys2Proof.Safety

namespace Sys2Proof.Laws

open Sys2Proof.Machine Sys2Proof.Safety

/-! ## Updates of the state -/

section Updates

variable (s : State)

@[simp] theorem locked_setTime (v : TimeBase) : locked (s.setTime v) = locked s := rfl
@[simp] theorem locked_setMasked (g : LineGroup) (v : Nat) : locked (s.setMasked g v) = locked s := rfl
@[simp] theorem locked_setIntake (v : List Descriptor) : locked (s.setIntake v) = locked s := rfl
@[simp] theorem locked_setWaiting (n : Fin 8) (v : Option Descriptor) : locked (s.setWaiting n v) = locked s := rfl
@[simp] theorem locked_setUnrouted (v : Nat) : locked (s.setUnrouted v) = locked s := rfl
@[simp] theorem locked_setGroup (g : GroupNo) (v : Option FirstGroup) : locked (s.setGroup g v) = locked s := rfl
@[simp] theorem locked_setRecord (i : RecIndex) (v : Option Record) : locked (s.setRecord i v) = locked s := rfl
@[simp] theorem locked_setDrops (c : Client) (v : DropCounts) : locked (s.setDrops c v) = locked s := rfl
@[simp] theorem locked_setPresentation (c : Client) (v : Presentation) : locked (s.setPresentation c v) = locked s := rfl
@[simp] theorem locked_setBoard (v : BoardLines) : locked (s.setBoard v) = locked s := rfl
@[simp] theorem locked_setHealth (c : Client) (v : ClientHealth) : locked (s.setHealth c v) = locked s := rfl
@[simp] theorem locked_setLink (c : Client) (v : Link) : locked (s.setLink c v) = locked s := rfl
@[simp] theorem locked_setPending (v : List Instr) : locked (s.setPending v) = locked s := rfl

/-- What an entry holds is left by a write that leaves it. -/
theorem get_set_keeps {n : Nat} {α β : Type} (p : α → β) (t : Table n α) (i : Fin n) {v : α} (h : p v = p (t.get i)) :
    (fun j => p ((t.set i v).get j)) = fun j => p (t.get j) := by
  funext j
  rw [Table.get_set]
  split
  · rename_i hj
    rw [h, hj]
  · rfl

@[simp] theorem locked_setLine (l : LineNo) (x : Line) (h : x.config = (s.line l).config) : locked (s.setLine l x) = locked s := by
  have hx := get_set_keeps Line.config s.lines l h
  simp only [locked, State.line, State.setLine_lines, hx]
  rfl

@[simp] theorem locked_setContexts (c : Client) (x : ClientContexts) (h : x.holdOffTime = (s.contextsOf c).holdOffTime) :
    locked (s.setContexts c x) = locked s := by
  have hx := get_set_keeps ClientContexts.holdOffTime s.contexts c h
  simp only [locked, State.contextsOf, State.setContexts_contexts, hx]
  rfl

@[simp] theorem locked_setClientLines (c : Client) (x : ClientLines) (h : x.pulseWidth = (s.clientLinesOf c).pulseWidth) :
    locked (s.setClientLines c x) = locked s := by
  have hx := get_set_keeps ClientLines.pulseWidth s.clientLines c h
  simp only [locked, State.clientLinesOf, State.setClientLines_clientLines, hx]
  rfl

@[simp] theorem locked_setPosts (c : Client) (x : ClientPosts) (hp : x.postProfile = (s.postsOf c).postProfile)
    (hs : x.signalProfile = (s.postsOf c).signalProfile) : locked (s.setPosts c x) = locked s := by
  have hpost := get_set_keeps ClientPosts.postProfile s.posts c hp
  have hsignal := get_set_keeps ClientPosts.signalProfile s.posts c hs
  simp only [locked, State.postsOf, State.setPosts_posts, hpost, hsignal]
  rfl

@[simp] theorem locked_setSup (x : Supervisor) (hf : x.frozen = s.sup.frozen) (hp : x.privileges = s.sup.privileges) :
    locked (s.setSup x) = locked s := by
  simp only [locked, State.setSup_sup, hf, hp]
  rfl

end Updates

@[simp] theorem holdOffTime_set (x : ClientContexts) (k : ContextName) (v : ContextState) :
    (x.set k v).holdOffTime = x.holdOffTime := by cases k <;> rfl

end Sys2Proof.Laws

namespace Sys2Proof.Laws

open Sys2Proof.Machine Sys2Proof.Safety

section Operations

variable (s : State)

/-! ## The intake queue, hub frames and queues of records: these write no field of a locked item -/

@[simp] theorem locked_placeEvent (d : Descriptor) : locked (placeEvent s d) = locked s := rfl

@[simp] theorem locked_loseNotice : locked (loseNotice s) = locked s := rfl

@[simp] theorem locked_offerNotice (t : NoticeType) (n : Nat) : locked (offerNotice t n s) = locked s :=
  locked_of_fields (by simp)

@[simp] theorem locked_offerTimerEvent (c : Client) (k : ContextName) : locked (offerTimerEvent c k s) = locked s :=
  locked_of_fields (by simp)

@[simp] theorem locked_dropFor (c : Client) (k : Key) : locked (dropFor c k s) = locked s := locked_of_fields (by simp)

@[simp] theorem locked_poolRearmTest : locked (poolRearmTest s) = locked s := locked_of_fields (by simp)

@[simp] theorem locked_dequeue (c : Client) (i : RecIndex) : locked (dequeue s c i) = locked s := rfl

@[simp] theorem locked_enqueue (c : Client) (p : Priority) (i : RecIndex) : locked (enqueue s c p i) = locked s := rfl

@[simp] theorem locked_enqueueFront (c : Client) (i : RecIndex) : locked (enqueueFront s c i) = locked s := rfl

@[simp] theorem locked_placeHubFrame (c : Client) (f : HubFrame) : locked (placeHubFrame c f s) = locked s := rfl

@[simp] theorem locked_removeDeliver (c : Client) (h : Handle) : locked (removeDeliver c h s) = locked s := rfl

@[simp] theorem locked_reportOutcome (p : Client) (n : SlotNo) (o : PostOutcome) : locked (reportOutcome p n o s) = locked s :=
  locked_of_fields (by simp)

/-! ## Examinations and wakes (R75 to R81, R95, R181) -/

@[simp] theorem locked_setGate (c : Client) (isOpen : Bool) : locked (setGate c isOpen s) = locked s := rfl

@[simp] theorem locked_setPendingFlags (c : Client) (f : FlagSet) : locked (setPendingFlags c f s) = locked s := by
  simp [setPendingFlags]

@[simp] theorem locked_setMode (m : HubMode) : locked (setMode m s) = locked s := by simp [setMode]

@[simp] theorem locked_rouse : locked (rouse s) = locked s := by
  unfold rouse
  split <;> simp

@[simp] theorem locked_present (c : Client) (i : RecIndex) (r : Record) : locked (present c i r s) = locked s := by
  unfold present
  dsimp only
  split <;> simp

@[simp] theorem locked_examine (c : Client) : locked (examine c s) = locked s := by
  rcases examine_cases c s with e | ⟨i, r, -, -, -, e⟩ <;> rw [e]
  exact locked_present s c i r

@[simp] theorem locked_openGate (c : Client) : locked (openGate c s) = locked s := by simp [openGate]

@[simp] theorem locked_examineAll : locked (examineAll s) = locked s := foldl_keeps _ locked (fun u c => locked_examine u c) _ s

@[simp] theorem locked_completeWake (m : HubMode) : locked (completeWake m s) = locked s := by
  unfold completeWake
  split <;> simp

@[simp] theorem locked_wakeHub : locked (wakeHub s) = locked s := by simp [wakeHub]

/-! ## Exchanges and entries (R59, R103 to R111) -/

@[simp] theorem locked_setAttention (c : Client) (on : Bool) : locked (setAttention c on s) = locked s := by simp [setAttention]

@[simp] theorem locked_suspend (c : Client) (i : RecIndex) (r : Record) : locked (suspend c i r s) = locked s := by
  simp [suspend]

@[simp] theorem locked_enterService (c : Client) (h : Option Handle) : locked (enterService c h s) = locked s := by
  simp [enterService]

@[simp] theorem locked_exchangeToService (c : Client) (cause : ContextCause) :
    locked (exchangeToService c cause s) = locked s := by
  unfold exchangeToService
  split <;> simp

@[simp] theorem locked_ctxExamine (c : Client) : locked (ctxExamine c s) = locked s := by
  unfold ctxExamine
  split <;> simp

@[simp] theorem locked_entered (c : Client) : locked (entered c s) = locked s := by simp [entered]

@[simp] theorem locked_clearSuspended (c : Client) : locked (clearSuspended c s) = locked s := by simp [clearSuspended]

@[simp] theorem locked_endHoldOff (c : Client) : locked (endHoldOff c s) = locked s := by simp [endHoldOff]

/-! ## Field lines (R18 to R26) -/

@[simp] theorem locked_placeLineEvent (l : LineNo) (d : Descriptor) : locked (placeLineEvent l d s) = locked s := by
  unfold placeLineEvent
  split <;> simp [State.line]

@[simp] theorem locked_startRaise (l : LineNo) : locked (startRaise l s) = locked s := by simp [startRaise]

@[simp] theorem locked_raiseLine (l : LineNo) : locked (raiseLine l s) = locked s := by simp [raiseLine, offerLineEvent]

@[simp] theorem locked_raiseWithin (l : LineNo) : locked (raiseWithin l s) = locked s := by simp [raiseWithin]

@[simp] theorem locked_raiseIfArmed (l : LineNo) : locked (raiseIfArmed l s) = locked s := by
  unfold raiseIfArmed
  split <;> simp

@[simp] theorem locked_activation (l : LineNo) : locked (activation l s) = locked s := by
  unfold activation
  split
  · rfl
  · exact locked_raiseIfArmed s l
  · exact locked_raiseIfArmed s l
  · split <;> simp

@[simp] theorem locked_rearmLevel (l : LineNo) : locked (rearmLevel l s) = locked s := by
  unfold rearmLevel
  dsimp only
  split <;> simp

@[simp] theorem locked_activityChange (l : LineNo) (before : Bool) : locked (activityChange l before s) = locked s := by
  unfold activityChange deactivation
  split
  · rfl
  · split <;> simp

@[simp] theorem locked_acceptLevel (l : LineNo) : locked (acceptLevel l s) = locked s := by simp [acceptLevel]

@[simp] theorem locked_changeRawLevel (l : LineNo) (v : Bool) : locked (changeRawLevel l v s) = locked s := by
  unfold changeRawLevel
  dsimp only
  split
  · rfl
  · split
    · simp
    · split
      · simp
      · split <;> simp

@[simp] theorem locked_repeatRunsOut (l : LineNo) : locked (repeatRunsOut l s) = locked s := by
  unfold repeatRunsOut reRaise
  dsimp only
  split <;> simp

@[simp] theorem locked_lineTaken (l : LineNo) : locked (lineTaken l s) = locked s := by simp [lineTaken]

@[simp] theorem locked_lineDisposed (l : LineNo) : locked (lineDisposed l s) = locked s := by
  unfold lineDisposed
  dsimp only
  split
  · split
    · simp
    · split <;> simp
  · rfl

@[simp] theorem locked_reportDisposed (src : BitVec 6) : locked (reportDisposed src s) = locked s := by
  unfold reportDisposed
  split
  · split <;> simp
  · rfl

/-! ## Frees (R68, R69, R149) -/

@[simp] theorem locked_release (i : RecIndex) (r : Record) : locked (release i r s) = locked s := locked_of_fields (by simp)

@[simp] theorem locked_reportCopy (r : Record) : locked (reportCopy r s) = locked s := locked_of_fields (by simp)

@[simp] theorem locked_setPostSlot (p : Client) (n : SlotNo) (v : PostSlot) : locked (setPostSlot p n v s) = locked s := by
  simp [setPostSlot]

@[simp] theorem locked_settlePost (k : Key) (h : Handle) (cause : FreeCause) : locked (settlePost k h cause s) = locked s := by
  unfold settlePost
  split
  · rfl
  · split
    · dsimp only
      split <;> simp
    · rfl
  · split <;> simp

@[simp] theorem locked_reportPost (r : Record) (h : Handle) (cause : FreeCause) : locked (reportPost r h cause s) = locked s := by
  unfold reportPost
  split <;> simp

@[simp] theorem locked_reportPresented (r : Record) (h : Handle) : locked (reportPresented r h s) = locked s :=
  locked_of_fields (by simp)

@[simp] theorem locked_freeUntested (i : RecIndex) (r : Record) (cause : FreeCause) :
    locked (freeUntested i r cause s) = locked s := by
  simp [freeUntested]

@[simp] theorem locked_freeWithin (i : RecIndex) (r : Record) (cause : FreeCause) : locked (freeWithin i r cause s) = locked s := by
  simp [freeWithin]

@[simp] theorem locked_freeRecord (i : RecIndex) (r : Record) (cause : FreeCause) : locked (freeRecord i r cause s) = locked s := by
  simp [freeRecord]

/-! ## Requests to the store (R60 to R65) -/

@[simp] theorem locked_makeAt (i : RecIndex) (q : StoreRequest) : locked (makeAt i q s) = locked s := locked_of_fields (by simp)

@[simp] theorem locked_foldInto (i : RecIndex) (r : Record) (n : Nat) (p : Priority) (u : Bool) :
    locked (foldInto i r n p u s) = locked s := locked_of_fields (by simp)

@[simp] theorem locked_coalesce (i : RecIndex) (r : Record) (p : Priority) (u : Bool) : locked (coalesce i r p u s) = locked s := by
  unfold coalesce
  dsimp only
  split <;> simp

@[simp] theorem locked_displace (i : RecIndex) (r : Record) (q : StoreRequest) : locked (displace i r q s) = locked s := by
  simp [displace]

@[simp] theorem locked_makeOrDrop (q : StoreRequest) : locked (makeOrDrop q s) = locked s := by
  unfold makeOrDrop
  split
  · simp
  · split <;> simp

@[simp] theorem locked_routingRequest (q : StoreRequest) : locked (routingRequest q s) = locked s := by
  unfold routingRequest
  split <;> simp

/-! ## Return, resumption and transfer (R70 to R72, R105) -/

@[simp] theorem locked_placeAtFront (i : RecIndex) (r : Record) : locked (placeAtFront i r s) = locked s := by
  unfold placeAtFront mergeFront
  dsimp only
  split
  · split <;> simp
  · simp

@[simp] theorem locked_returnHeld (c : Client) (st : RecState) : locked (returnHeld c st s) = locked s := by
  unfold returnHeld returnRecord
  split
  · split <;> simp
  · rfl

@[simp] theorem locked_transfer (i : RecIndex) (r : Record) (f : Client) : locked (transfer i r f s) = locked s := by
  unfold transfer
  split
  · simp
  · dsimp only
    split <;> simp

@[simp] theorem locked_startHoldOff (c : Client) : locked (startHoldOff c s) = locked s := by
  unfold startHoldOff
  dsimp only
  split <;> simp

@[simp] theorem locked_enterOperate (c : Client) : locked (enterOperate c s) = locked s := by simp [enterOperate]

@[simp] theorem locked_returnFlags (c : Client) (r : Record) : locked (returnFlags c r s) = locked s := by
  unfold returnFlags
  split <;> simp

@[simp] theorem locked_resume (c : Client) : locked (resume c s) = locked s := by
  unfold resume
  split <;> simp

@[simp] theorem locked_exchangeToOperate (c : Client) : locked (exchangeToOperate c s) = locked s := by
  simp [exchangeToOperate]

/-! ## Health and detach (R134 to R144) -/

@[simp] theorem locked_applyScore (c : Client) (n : Nat) : locked (applyScore c n s) = locked s := by
  rcases applyScore_cases c n s with e | e | e <;> rw [e] <;> simp [scored]

@[simp] theorem locked_lowerScore (c : Client) : locked (lowerScore c s) = locked s := by
  unfold lowerScore
  split <;> simp

@[simp] theorem locked_raiseScore (c : Client) (k : Nat) : locked (raiseScore c k s).1 = locked s := by
  unfold raiseScore beginDetach
  split
  · split <;> simp
  · rfl

@[simp] theorem locked_disposeAt (c : Client) (p : State × List Client) (i : RecIndex) :
    locked (disposeAt c p i).1 = locked p.1 := by
  unfold disposeAt disposeRecord dropRecord
  split
  · split
    · simp
    · split
      · simp
      · split
        · simp
        · split
          · simp
          · split <;> simp
  · rfl

@[simp] theorem locked_disposeAll (c : Client) : locked (disposeAll c s).1 = locked s := by
  unfold disposeAll
  rw [foldl_keeps _ (fun p : State × List Client => locked p.1) fun p i => locked_disposeAt c p i]
  exact locked_setAttention s c false

@[simp] theorem locked_examineFallbacks (fs : List Client) : locked (examineFallbacks fs s) = locked s :=
  foldl_keeps _ locked (fun u c => locked_entered u c) _ s

@[simp] theorem locked_finishDetach (c : Client) : locked (finishDetach c s) = locked s := by
  simp [finishDetach, clearDetached]

@[simp] theorem locked_detach (c : Client) : locked (detach c s) = locked s := by simp [detach, beginDetach]

@[simp] theorem locked_chargeScore (c : Client) (k : Nat) : locked (chargeScore c k s) = locked s := by
  unfold chargeScore
  dsimp only
  split <;> simp

@[simp] theorem locked_completeRejoin (c : Client) : locked (completeRejoin c s) = locked s := by simp [completeRejoin]

@[simp] theorem locked_heartbeat (c : Client) : locked (heartbeat c s) = locked s := by
  unfold heartbeat
  dsimp only
  split
  · split <;> simp
  · rfl

/-! ## The client reset (R127): the client's own settings outlive it -/

@[simp] theorem locked_contextsToDefaults (c : Client) : locked (contextsToDefaults c s) = locked s := by
  unfold contextsToDefaults
  dsimp only
  split <;> simp

@[simp] theorem locked_clearSignals (c : Client) : locked (clearSignals c s) = locked s := by
  refine (foldl_keeps _ locked (fun u i => ?_) recIndexes (setPendingFlags c 0 s)).trans (locked_setPendingFlags s c 0)
  unfold freeSignal
  split <;> simp

@[simp] theorem locked_settleOwnSlots (c : Client) : locked (settleOwnSlots c s) = locked s := by
  refine foldl_keeps _ locked (fun u n => ?_) slotNos s
  unfold settleOwnSlot
  split
  · rfl
  · rfl
  · split <;> simp

@[simp] theorem locked_clientResetSteps (c : Client) (cause : ResetCause) : locked (clientResetSteps c cause s) = locked s := by
  simp [clientResetSteps, startPulse, flushLink, clearReady, settleLines]

/-! ## Links (R160 to R165, R181) -/

@[simp] theorem locked_frameError (c : Client) : locked (frameError c s) = locked s := by
  unfold frameError
  dsimp only
  split <;> simp

@[simp] theorem locked_frameFails (c : Client) : locked (frameFails c s) = locked s := by simp [frameFails, setReceiver]

@[simp] theorem locked_gapFails (c : Client) : locked (gapFails c s) = locked s := by simp [gapFails]

@[simp] theorem locked_frameComplete (c : Client) (kind tag : Byte) (p : List Byte) :
    locked (frameComplete c kind tag p s) = locked s := by
  unfold frameComplete overrun pushRequest placeReply
  split
  · rfl
  · split
    · simp
    · split <;> simp

@[simp] theorem locked_advance (c : Client) (b : Byte) : locked (advance c b s) = locked s := by
  unfold advance checkFrame setReceiver
  split
  · split <;> simp
  · split <;> simp
  · split <;> simp
  · simp
  · split
    · split <;> simp
    · simp

@[simp] theorem locked_receiveByte (c : Client) (b : Byte) : locked (receiveByte c b s) = locked s := by
  unfold receiveByte stampByte
  split
  · rfl
  · dsimp only
    split <;> simp

@[simp] theorem locked_settle : locked (settle s) = locked s := locked_of_fields (by simp)

@[simp] theorem locked_deliverSent (c : Client) (h : Handle) : locked (deliverSent c h s) = locked s := by
  unfold deliverSent beginStage
  split
  · split
    · split
      · simp [beginDeadline, setEsc]
      · split
        · simp [beginDeadline, setEsc]
        · split <;> simp
    · simp
  · simp

@[simp] theorem locked_arrive (c : Client) (k : RequestKind) (a : Arrival) : locked (arrive c k a s) = locked s := by
  cases a with
  | sent tag p => exact foldl_keeps _ locked (fun u b => (locked_settle _).trans (locked_receiveByte u c b)) _ s
  | waiting => rfl

/-! ## The take and the routing (R9, R10, R39 to R50) -/

@[simp] theorem locked_givePlace : locked (givePlace s) = locked s := by
  unfold givePlace
  split
  · simp
  · split <;> simp

@[simp] theorem locked_reportTaken (src : BitVec 6) : locked (reportTaken src s) = locked s := by
  unfold reportTaken
  split <;> simp

@[simp] theorem locked_decideTargets (x : RouteEntry) (k : Key) : locked (decideTargets x k s).1 = locked s :=
  locked_of_fields (by simp)

@[simp] theorem locked_sendRequests (d : Descriptor) (x : RouteEntry) (hit : Hit) (m : RecMode) (rs : List Client) :
    locked (sendRequests d x hit m rs s) = locked s := foldl_keeps _ locked (fun u _ => locked_routingRequest u _) rs s

@[simp] theorem locked_closeGroup (g : GroupNo) (k : Key) : locked (closeGroup g k s) = locked s := locked_of_fields (by simp)

@[simp] theorem locked_routeFirst (d : Descriptor) (x : RouteEntry) (e : EntryNo) (rs : List Client) :
    locked (routeFirst d x e rs s) = locked s := by
  unfold routeFirst
  split
  · split <;> simp
  · simp

@[simp] theorem locked_routeByEntry (d : Descriptor) (e : EntryNo) : locked (routeByEntry d e s) = locked s := by
  unfold routeByEntry
  dsimp only
  split <;> simp

@[simp] theorem locked_routeUnrouted (d : Descriptor) : locked (routeUnrouted d s) = locked s := by
  unfold routeUnrouted
  split
  · split <;> simp
  · simp

@[simp] theorem locked_takeHead : locked (takeHead s) = locked s := by
  unfold takeHead routeEvent
  split
  · dsimp only
    split <;> simp
  · rfl

/-! ## ACK and the win of a group (R86 to R91) -/

@[simp] theorem locked_withdrawCopy (d : Client) (j : RecIndex) (r : Record) : locked (withdrawCopy d j r s) = locked s := by
  unfold withdrawCopy setLastRecalled
  dsimp only
  split
  · simp
  · split <;> simp
  · simp

@[simp] theorem locked_decideGroup (i : RecIndex) (r : Record) (d : Disposition) : locked (decideGroup i r d s) = locked s :=
  decideGroup_keeps_of (P := fun u => locked u = locked s) (fun _ _ _ hu => hu)
    (fun k j o u hu => (locked_withdrawCopy u k j o).trans hu) rfl i r d

@[simp] theorem locked_ackEndsHoldOff (c : Client) : locked (ackEndsHoldOff c s) = locked s := by
  unfold ackEndsHoldOff
  split <;> simp

@[simp] theorem locked_scoreAnswered (c : Client) (r : Record) : locked (scoreAnswered c r s) = locked s := by
  unfold scoreAnswered
  split <;> simp

@[simp] theorem locked_ackPresented (c : Client) (i : RecIndex) (r : Record) (d : Disposition) :
    locked (ackPresented c i r d s) = locked s := by
  simp [ackPresented_eq, ackFreed]

@[simp] theorem locked_ackNamed (c : Client) (h : Handle) (d : Disposition) : locked (ackNamed c h d s).1 = locked s := by
  unfold ackNamed ackSuspended
  split
  · simp
  · split
    · simp
    · split <;> simp [refuse]

/-! ## The other requests -/

@[simp] theorem locked_declareReady (c : Client) : locked (declareReady c s) = locked s := by simp [declareReady]

@[simp] theorem locked_exchange (c : Client) (k : ContextName) : locked (exchange c k s).1 = locked s := by
  unfold exchange
  split
  · rfl
  · split
    · simp
    · split <;> simp [refuse]

@[simp] theorem locked_setFilter (c : Client) (k : ContextName) (classes : FlagSet) (p : Priority) :
    locked (setFilter c k classes p s) = locked s := by
  unfold setFilter
  dsimp only
  split <;> simp

@[simp] theorem locked_setTimer (c : Client) (k : ContextName) (t : TimerSetting) : locked (setTimer c k t s) = locked s := by
  simp [setTimer]

@[simp] theorem locked_raiseEvent (c : Client) (cls : BitVec 4) (code : BitVec 12) (created : Micros) :
    locked (raiseEvent c cls code created s).1 = locked s := by
  unfold raiseEvent
  split <;> simp [refuse]

@[simp] theorem locked_post (c : Client) (f : PostFields) (created : Micros) : locked (post c f created s).1 = locked s := by
  unfold post
  split
  · rfl
  · split
    · rfl
    · split <;> simp [refuse]

@[simp] theorem locked_withdraw (c : Client) (n : SlotNo) : locked (withdraw c n s).1 = locked s := by
  unfold withdraw
  split
  · rfl
  · rfl
  · split <;> simp [refuse]

@[simp] theorem locked_signal (f : SignalFields) (created : Micros) : locked (signal f created s).1 = locked s := by
  unfold signal
  split
  · rfl
  · split
    · simp [joinFlags]
    · split <;> simp [refuse]

@[simp] theorem locked_rejoin (c : Client) : locked (rejoin c s).1 = locked s := by
  unfold rejoin
  dsimp only
  split <;> simp [accept, refuse]

@[simp] theorem locked_forceAttach (d : Client) : locked (forceAttach d s).1 = locked s := by
  unfold forceAttach
  split <;> simp [accept, refuse]

@[simp] theorem locked_forceDetach (d : Client) : locked (forceDetach d s).1 = locked s := by
  unfold forceDetach
  split <;> simp [accept, refuse]

@[simp] theorem locked_sleepRequest : locked (sleepRequest s).1 = locked s := by
  unfold sleepRequest
  split <;> simp [accept, refuse]

@[simp] theorem locked_wakeRequest : locked (wakeRequest s).1 = locked s := by
  unfold wakeRequest
  split <;> simp [accept, refuse]

end Operations

end Sys2Proof.Laws
end

section
/-! PROOF. While FROZEN stands, no step changes the configuration (R182): time and the events of the hub leave the locked items, or end
in a reset that clears FROZEN (R175), and a configuration request is refused (R166). -/

namespace Sys2Proof.Laws

open Sys2Proof.Machine Sys2Proof.Safety

/-- The locked items are `v` if FROZEN is set. A reset meets this by clearing FROZEN. -/
def LockStands (v : LockedItems) (s : State) : Prop := s.sup.frozen = true → locked s = v

variable {v : LockedItems} {s t : State}

theorem LockStands.same (h : LockStands v s) (e : locked t = locked s) : LockStands v t := fun hf =>
  e.trans (h ((congrArg LockedItems.frozen e).symm.trans hf))

theorem lockStands_of_eq (e : locked t = locked s) : LockStands (locked s) t := fun _ => e

/-! ## Resets (R175): FROZEN is clear -/

theorem lockStands_of_clear (h : s.sup.frozen = false) : LockStands v s := fun hf =>
  absurd (h.symm.trans hf) Bool.false_ne_true

theorem assertResetInput_lockStands (h : LockStands v s) (pins : PinLevels) : LockStands v (assertResetInput pins s) := by
  unfold assertResetInput
  dsimp only
  split
  · exact h.same (by simp)
  · exact lockStands_of_clear rfl

theorem clientReset_lockStands (h : LockStands v s) (c : Client) (cause : ResetCause) :
    LockStands v (clientReset c cause s) := by
  rw [clientReset_eq]
  split
  · exact lockStands_of_clear rfl
  · exact h.same (by simp)

/-! ## Expiries and the end of a frame -/

theorem takeAction_lockStands (h : LockStands v s) (c : Client) (i : RecIndex) (r : Record) (a : Action) :
    LockStands v (takeAction c i r a s) := by
  cases a with
  | clientReset => exact clientReset_lockStands h c .escalation
  | boardReset => exact lockStands_of_clear rfl
  | noteOnly => exact h.same (by simp [takeAction, setEsc])
  | attention => exact h.same (by simp [takeAction, setEsc])
  | attentionThenReset => exact h.same (by simp [takeAction, setEsc])

theorem deadlineExpires_lockStands (h : LockStands v s) (c : Client) (i : RecIndex) (r : Record) :
    LockStands v (deadlineExpires c i r s) := by
  have hc : LockStands v (chargedDeadline c i r s).1 := h.same (by simp [chargedDeadline])
  rw [deadlineExpires_eq]
  split
  · split
    · exact lockStands_of_clear rfl
    · exact hc.same (by simp)
  · exact takeAction_lockStands hc c i _ _

theorem stageExpires_lockStands (h : LockStands v s) (c : Client) : LockStands v (stageExpires c s) := by
  unfold stageExpires
  split
  · split
    · exact deadlineExpires_lockStands h c _ _
    · exact clientReset_lockStands h c .escalation
    all_goals exact h
  · exact h

theorem locked_contextTimerExpires (c : Client) (k : ContextName) (s : State) :
    locked (contextTimerExpires c k s) = locked s := by
  simp [contextTimerExpires]

theorem locked_boardPulseExpires (s : State) : locked (boardPulseExpires s) = locked s := by
  refine (foldl_keeps _ locked (fun u c => ?_) clients _).trans (locked_setBoard s _)
  unfold releaseLine pulseExpires
  split <;> simp

theorem expire_lockStands (h : LockStands v s) (t : Timer) : LockStands v (expire t s) := by
  cases t with
  | debounce l => exact h.same (locked_acceptLevel s l)
  | repeatInterval l => exact h.same (locked_repeatRunsOut s l)
  | context c k => exact h.same (locked_contextTimerExpires c k s)
  | holdOff c => exact h.same (locked_endHoldOff s c)
  | stage c => exact stageExpires_lockStands h c
  | pulse c => exact h.same (by simp [expire, pulseExpires])
  | boardPulse => exact h.same (locked_boardPulseExpires s)
  | boardOutput => exact h.same (locked_setBoard s _)
  | spacing c => exact h.same (locked_setHealth s c _)

/-- The end of the reply that ends a pending RESET_HUB takes a board reset (R178). -/
theorem frameSent_lockStands (h : LockStands v s) (c : Client) : LockStands v (frameSent c s) := by
  unfold frameSent
  split
  · exact h
  · dsimp only
    split
    · split
      · exact lockStands_of_clear rfl
      · exact h.same (by simp)
    all_goals exact h.same (by simp)

/-! ## The passing of time (R4) -/

theorem locked_lower (t : Timer) (s : State) : locked (lower t s) = locked s := by
  cases t with
  | stage c => exact locked_of_fields (by simp [lower])
  | _ => simp [lower]

@[simp] theorem locked_passWithin (fuel n : Nat) (s : State) : locked (passWithin fuel n s) = locked s := by
  induction fuel generalizing n s with
  | zero => rfl
  | succ fuel ih =>
    unfold passWithin advanceTime
    split
    · rw [ih]
      simp
    · simp

@[simp] theorem locked_tickMoment (s : State) : locked (tickMoment s) = locked s := by
  unfold tickMoment reachTick
  split <;> simp

theorem takeTick_lockStands (h : LockStands v s) : LockStands v (takeTick s) := by
  have hl : LockStands v (lowerTimers s) := h.same (foldl_keeps _ locked (fun u t => locked_lower t u) _ s)
  have he : LockStands v ((expiring s).foldl expireNow (lowerTimers s)) := List.foldlRecOn _ _ hl fun u hu t _ => by
    unfold expireNow
    split
    · exact (expire_lockStands hu t).same (locked_settle _)
    · exact hu
  exact he.same (locked_setTime _ _)

theorem nextTick_lockStands (h : LockStands v s) : LockStands v (nextTick s) := takeTick_lockStands (h.same (locked_tickMoment s))

theorem pass_lockStands (fuel n : Nat) (h : LockStands v s) : LockStands v (Machine.pass fuel n s) := by
  induction fuel generalizing n s with
  | zero => exact h
  | succ fuel ih =>
    unfold Machine.pass
    split
    · exact h
    · split
      · exact ih _ (takeTick_lockStands h)
      · split
        · exact h.same (locked_passWithin 4 n s)
        · exact ih _ (nextTick_lockStands h)

theorem gapTimeout_lockStands (h : LockStands v s) (c : Client) : LockStands v (gapTimeout c s) := by
  unfold gapTimeout
  split
  · rename_i d _
    have hp := pass_lockStands 5 d h
    dsimp only
    split
    · exact hp.same (by simp)
    · exact hp
  · exact h

theorem idle_lockStands (h : LockStands v s) : LockStands v (idle s) := by
  unfold idle
  split
  · exact nextTick_lockStands h
  · exact h.same (locked_passWithin 4 1 s)

theorem expiryCommand_lockStands (h : LockStands v s) (t : Timer) : LockStands v (expiryCommand t s) := by
  unfold expiryCommand
  split
  · have ht : LockStands v ((tickMoment s).setTime { (tickMoment s).time with ticked := t :: (tickMoment s).time.ticked }) :=
      h.same (by simp)
    exact (expire_lockStands ht t).same (locked_settle _)
  · exact h

/-! ## Requests -/

/-- No configuration request passes its checks while FROZEN is set (R166). -/
theorem configure_frozen {α : Type} {c : Client} {fields : Option α} {rest : α → Answer} (hf : s.sup.frozen = true) :
    (configure c fields s rest).1 = s := by
  unfold configure withPrivilege unlessFrozen
  rw [if_pos hf]
  split <;> rfl

/-- While FROZEN is set, the configuration requests and FREEZE are refused, and the other rules leave the locked items or reset the hub. -/
theorem rule_lockStands {c : Client} {rule : Request → State → Answer} (hr : RuleOf c rule) (q : Request) (h : LockStands v s)
    (hf : s.sup.frozen = true) : LockStands v (rule q s).1 := by
  cases hr with
  | ready => exact withFields_keeps h fun _ _ => h.same (locked_declareReady s c)
  | ack => exact withFields_keeps h fun _ _ => whileAttached_keeps h (h.same (locked_ackNamed s c _ _))
  | exchange => exact withFields_keeps h fun _ _ => whileAttached_keeps h (h.same (locked_exchange s c _))
  | contextSet => exact withFields_keeps h fun _ _ => whileAttached_keeps h (h.same (locked_setFilter s c _ _ _))
  | timerSet => exact withFields_keeps h fun _ _ => whileAttached_keeps h (h.same (locked_setTimer s c _ _))
  | raise =>
    exact withPrivilege_keeps h (withFields_keeps h fun _ _ => whileAttached_keeps h (h.same (locked_raiseEvent s c _ _ _)))
  | post => exact withPrivilege_keeps h (withFields_keeps h fun _ _ => whileAttached_keeps h (h.same (locked_post s c _ _)))
  | withdraw =>
    exact withPrivilege_keeps h (withFields_keeps h fun _ _ => whileAttached_keeps h (h.same (locked_withdraw s c _)))
  | signal => exact withPrivilege_keeps h (withFields_keeps h fun _ _ => whileAttached_keeps h (h.same (locked_signal s _ _)))
  | heartbeat => exact withFields_keeps h fun _ _ => h.same (locked_heartbeat s c)
  | rejoin => exact withFields_keeps h fun _ _ => h.same (locked_rejoin s c)
  | query => exact withFields_keeps h fun _ _ => h
  | routeWrite => exact h.same (congrArg locked (configure_frozen hf))
  | bankSet => exact h.same (congrArg locked (configure_frozen hf))
  | lineSet => exact h.same (congrArg locked (configure_frozen hf))
  | profileSet => exact h.same (congrArg locked (configure_frozen hf))
  | clientSet => exact h.same (congrArg locked (configure_frozen hf))
  | freeze => exact h.same (congrArg locked (configure_frozen hf))
  | routeRead => exact withFields_keeps h fun _ _ => whileAttached_keeps h h
  | lineRead => exact withFields_keeps h fun _ _ => whileAttached_keeps h h
  | profileRead => exact withFields_keeps h fun _ _ => whileAttached_keeps h h
  | clientRead => exact withFields_keeps h fun _ _ => whileAttached_keeps h h
  | forceAttach =>
    exact withPrivilege_keeps h (withFields_keeps h fun _ _ => whileAttached_keeps h (h.same (locked_forceAttach s _)))
  | forceDetach =>
    exact withPrivilege_keeps h (withFields_keeps h fun _ _ => whileAttached_keeps h (h.same (locked_forceDetach s _)))
  | forceReset =>
    exact withPrivilege_keeps h (withFields_keeps h fun d _ => whileAttached_keeps h (clientReset_lockStands h d .forced))
  | sleep => exact withPrivilege_keeps h (withFields_keeps h fun _ _ => whileAttached_keeps h (h.same (locked_sleepRequest s)))
  | wake => exact withPrivilege_keeps h (withFields_keeps h fun _ _ => whileAttached_keeps h (h.same (locked_wakeRequest s)))
  | resetHub =>
    exact withPrivilege_keeps h (withFields_keeps h fun _ _ => whileAttached_keeps h (h.same (locked_setSup s _ rfl rfl)))
  | noteSet =>
    exact withPrivilege_keeps h (withFields_keeps h fun _ _ => whileAttached_keeps h (h.same (locked_setSup s _ rfl rfl)))
  | status => exact withFields_keeps h fun _ _ => whileAttached_keeps h h

/-- A request command, from its arrival to what every command ends with, while FROZEN is set. -/
theorem request_lockStands {c : Client} {rule : Request → State → Answer} (hr : RuleOf c rule) (k : RequestKind) (a : Arrival)
    (wanted : Request → Bool) (hf : s.sup.frozen = true) :
    LockStands (locked s) (settle (takeRequest c wanted rule (arrive c k a s))) := by
  have ha : locked (arrive c k a s) = locked s := locked_arrive s c k a
  have ht : LockStands (locked s) (takeRequest c wanted rule (arrive c k a s)) := by
    rcases takeRequest_cases c wanted rule (arrive c k a s) with e | ⟨q, rest, -, -, -, e⟩ <;> rw [e]
    · exact lockStands_of_eq ha
    · have hu : locked (withoutRequest c rest (arrive c k a s)) = locked s := ha
      have hr := rule_lockStands hr q (lockStands_of_eq hu) ((congrArg LockedItems.frozen hu).trans hf)
      exact hr.same (locked_setLink _ c _)
  exact ht.same (locked_settle _)

/-! ## Every step -/

theorem exec_lockStands (i : Instr) (hf : s.sup.frozen = true) : Answers (LockStands (locked s)) (exec i s) := by
  have hs : LockStands (locked s) s := lockStands_of_eq rfl
  have settled : ∀ {u}, LockStands (locked s) u → Answers (LockStands (locked s)) (.next (settle u)) := fun hu =>
    .next (hu.same (locked_settle _))
  cases i
  case powerOn pins raw => exact settled (lockStands_of_clear rfl)
  case resetInputAsserted pins => exact settled (assertResetInput_lockStands hs pins)
  case resetInputRelease => exact settled (hs.same (locked_setSup s _ rfl rfl))
  case millisecondTick => exact settled (nextTick_lockStands hs)
  case rawLevelChange l x => exact settled (hs.same (locked_changeRawLevel s l x))
  case routeTake => exact settled (hs.same (locked_takeHead s))
  case receivedByte c b => exact settled (hs.same (locked_receiveByte s c b))
  case gapTimeout c => exact settled (gapTimeout_lockStands hs c)
  case transmissionEnd c => exact settled (frameSent_lockStands hs c)
  case debounceExpiry l => exact settled (expiryCommand_lockStands hs _)
  case repeatTimerExpiry l => exact settled (expiryCommand_lockStands hs _)
  case contextTimerExpiry c k => exact settled (expiryCommand_lockStands hs _)
  case holdOffExpiry c => exact settled (expiryCommand_lockStands hs _)
  case deadlineExpiry c => refine settled ?_; split; exacts [expiryCommand_lockStands hs _, hs]
  case delayExpiry c => refine settled ?_; split; exacts [expiryCommand_lockStands hs _, hs]
  case clientResetPulseExpiry c => exact settled (expiryCommand_lockStands hs _)
  case boardResetPulseExpiry => exact settled (expiryCommand_lockStands hs _)
  case boardResetOutputExpiry => exact settled (expiryCommand_lockStands hs _)
  case spacingTimerExpiry c => exact settled (expiryCommand_lockStands hs _)
  case ready c a => exact .next (request_lockStands .ready .ready a _ hf)
  case ack c a => exact .next (request_lockStands .ack .ack a _ hf)
  case exchange c a => exact .next (request_lockStands .exchange .exchange a _ hf)
  case contextSet c a => exact .next (request_lockStands .contextSet .contextSet a _ hf)
  case timerSet c a => exact .next (request_lockStands .timerSet .timerSet a _ hf)
  case raise c a => exact .next (request_lockStands .raise .raise a _ hf)
  case post c a => exact .next (request_lockStands .post .post a _ hf)
  case withdraw c a => exact .next (request_lockStands .withdraw .withdraw a _ hf)
  case signal c a => exact .next (request_lockStands .signal .signal a _ hf)
  case heartbeat c a => exact .next (request_lockStands .heartbeat .heartbeat a _ hf)
  case rejoin c a => exact .next (request_lockStands .rejoin .rejoin a _ hf)
  case query c a => exact .next (request_lockStands .query .query a _ hf)
  case routeWrite c a => exact .next (request_lockStands .routeWrite .routeWrite a _ hf)
  case bankSet c a => exact .next (request_lockStands .bankSet .bankSet a _ hf)
  case lineSet c a => exact .next (request_lockStands .lineSet .lineSet a _ hf)
  case profileSet c a => exact .next (request_lockStands .profileSet .profileSet a _ hf)
  case clientSet c a => exact .next (request_lockStands .clientSet .clientSet a _ hf)
  case routeRead c a => exact .next (request_lockStands .routeRead .routeRead a _ hf)
  case lineRead c a => exact .next (request_lockStands .lineRead .lineRead a _ hf)
  case profileRead c a => exact .next (request_lockStands .profileRead .profileRead a _ hf)
  case clientRead c a => exact .next (request_lockStands .clientRead .clientRead a _ hf)
  case forceAttach c a => exact .next (request_lockStands .forceAttach .force a _ hf)
  case forceDetach c a => exact .next (request_lockStands .forceDetach .force a _ hf)
  case forceReset c a => exact .next (request_lockStands .forceReset .force a _ hf)
  case freeze c a => exact .next (request_lockStands .freeze .freeze a _ hf)
  case sleep c a => exact .next (request_lockStands .sleep .sleep a _ hf)
  case wake c a => exact .next (request_lockStands .wake .wake a _ hf)
  case resetHub c a => exact .next (request_lockStands .resetHub .resetHub a _ hf)
  case noteSet c a => exact .next (request_lockStands .noteSet .noteSet a _ hf)
  case status c a => exact .next (request_lockStands .status .status a _ hf)

theorem step_lockStands (hf : s.sup.frozen = true) : Answers (LockStands (locked s)) (step s) := by
  unfold step
  split
  · rename_i i rest _
    exact exec_lockStands (s := s.setPending rest) i hf
  · exact .next ((idle_lockStands (lockStands_of_eq rfl)).same (locked_settle _))

/-- Settles O53: a step that leaves FROZEN set leaves the locked items. -/
theorem frozenConfigurationStands : Obligations.FrozenConfigurationStands := fun _ t hs e ht =>
  sameConfiguration_of_locked (step_lockStands hs t e ht)

end Sys2Proof.Laws
end

section
/-! PROOF. The queue of waiting commands (log entry 35): a step takes the front command out and runs it. A command in which no time
passes writes at most its one item, which is not the queue; time, expiries and the resets of the hub hand the queue on as it stands. -/

namespace Sys2Proof.Safety

open Sys2Proof.Machine

theorem Untouched.pending {s t : State} (h : Untouched s t) : t.pending = s.pending := by
  obtain ⟨-, -, -, -, -, -, -, hp, -⟩ := h
  exact hp

end Sys2Proof.Safety

namespace Sys2Proof.Laws

open Sys2Proof.Machine Sys2Proof.Safety

variable {i : Instr} {s t : State}

/-! ## Commands in which no time passes -/

/-- No command's one item is the queue. -/
theorem ItemWrite.pending (h : ItemWrite i s t) : t.pending = s.pending := by cases h <;> rfl

theorem exec_pending_of_timeless (hi : timeless i = true) (e : exec i s = .next t) : t.pending = s.pending := by
  obtain ⟨u, hsu, x, hx, hxt⟩ := exec_framed hi s t e
  calc t.pending = x.pending := hxt.pending
    _ = u.pending := hx.pending
    _ = s.pending := hsu.pending

variable (s)

/-! ## Resets hand the queue on (R175; log entry 35) -/

@[simp] theorem powerOnReset_pending (pins : PinLevels) (raw : BitVec 24) : (powerOnReset pins raw s).pending = s.pending := rfl

@[simp] theorem boardReset_pending (k : CauseKind) (c : Option Client) : (boardReset k c s).pending = s.pending := rfl

@[simp] theorem assertResetInput_pending (pins : PinLevels) : (assertResetInput pins s).pending = s.pending := by
  unfold assertResetInput
  dsimp only
  split <;> rfl

@[simp] theorem clientReset_pending (c : Client) (cause : ResetCause) : (clientReset c cause s).pending = s.pending := by
  rw [clientReset_eq]
  split <;> simp

/-! ## Expiries and the end of a frame, with the resets that they take -/

@[simp] theorem takeAction_pending (c : Client) (i : RecIndex) (r : Record) (a : Action) :
    (takeAction c i r a s).pending = s.pending := by
  cases a <;> simp [takeAction]

@[simp] theorem deadlineExpires_pending (c : Client) (i : RecIndex) (r : Record) :
    (deadlineExpires c i r s).pending = s.pending := by
  have hc : (chargedDeadline c i r s).1.pending = s.pending := by simp [chargedDeadline]
  rw [deadlineExpires_eq]
  split
  · split <;> simp [hc]
  · simp [hc]

@[simp] theorem stageExpires_pending (c : Client) : (stageExpires c s).pending = s.pending := by
  unfold stageExpires
  split
  · split <;> simp [delayExpires]
  · rfl

@[simp] theorem expire_pending (k : Timer) : (expire k s).pending = s.pending := by cases k <;> simp [expire]

@[simp] theorem frameSent_pending (c : Client) : (frameSent c s).pending = s.pending := by
  unfold frameSent
  split
  · rfl
  · dsimp only
    split
    · split <;> simp
    all_goals simp

/-! ## The passing of time (R4) -/

@[simp] theorem lower_pending (k : Timer) : (lower k s).pending = s.pending := by cases k <;> simp [lower]

@[simp] theorem passWithin_pending (fuel n : Nat) : (passWithin fuel n s).pending = s.pending := by
  induction fuel generalizing n s with
  | zero => rfl
  | succ fuel ih =>
    unfold passWithin
    split
    · rw [ih]
      simp [advanceTime]
    · rfl

@[simp] theorem tickMoment_pending : (tickMoment s).pending = s.pending := by
  unfold tickMoment reachTick
  split <;> simp

@[simp] theorem takeTick_pending : (takeTick s).pending = s.pending := by
  have hlower : (lowerTimers s).pending = s.pending := foldl_keeps _ State.pending (fun u k => lower_pending u k) _ s
  have hexpire : ∀ u k, (expireNow u k).pending = u.pending := fun u k => by
    unfold expireNow
    split <;> simp
  exact (foldl_keeps _ State.pending hexpire (expiring s) _).trans hlower

@[simp] theorem nextTick_pending : (nextTick s).pending = s.pending := by simp [nextTick]

@[simp] theorem pass_pending (fuel n : Nat) : (Machine.pass fuel n s).pending = s.pending := by
  induction fuel generalizing n s with
  | zero => rfl
  | succ fuel ih =>
    unfold Machine.pass
    split
    · rfl
    · split
      · simp [ih]
      · split <;> simp [ih]

@[simp] theorem gapTimeout_pending (c : Client) : (gapTimeout c s).pending = s.pending := by
  unfold gapTimeout
  split
  · dsimp only
    split <;> simp
  · rfl

@[simp] theorem expiryCommand_pending (k : Timer) : (expiryCommand k s).pending = s.pending := by
  unfold expiryCommand
  split <;> simp

/-! ## Every command -/

variable {s}

/-- No command touches the queue of commands: one that takes no time by its frame, the others by what they are made of. -/
theorem exec_pending (i : Instr) (s : State) : Answers (fun t => t.pending = s.pending) (exec i s) := by
  by_cases hi : timeless i = true
  · exact fun _ e => exec_pending_of_timeless hi e
  have settled : ∀ {u}, u.pending = s.pending → Answers (fun t => t.pending = s.pending) (.next (settle u)) := fun hu =>
    .next (by simp [hu])
  cases i
  case powerOn pins raw => exact settled (powerOnReset_pending s pins raw)
  case resetInputAsserted pins => exact settled (assertResetInput_pending s pins)
  case resetInputRelease => exact settled rfl
  case millisecondTick => exact settled (nextTick_pending s)
  case gapTimeout c => exact settled (gapTimeout_pending s c)
  case transmissionEnd c => exact settled (frameSent_pending s c)
  case debounceExpiry l => exact settled (expiryCommand_pending s _)
  case repeatTimerExpiry l => exact settled (expiryCommand_pending s _)
  case contextTimerExpiry c k => exact settled (expiryCommand_pending s _)
  case holdOffExpiry c => exact settled (expiryCommand_pending s _)
  case deadlineExpiry c => refine settled ?_; split; exacts [expiryCommand_pending s _, rfl]
  case delayExpiry c => refine settled ?_; split; exacts [expiryCommand_pending s _, rfl]
  case clientResetPulseExpiry c => exact settled (expiryCommand_pending s _)
  case boardResetPulseExpiry => exact settled (expiryCommand_pending s _)
  case boardResetOutputExpiry => exact settled (expiryCommand_pending s _)
  case spacingTimerExpiry c => exact settled (expiryCommand_pending s _)
  all_goals exact absurd rfl hi

theorem step_of_command {rest : List Instr} (h : s.pending = i :: rest) : step s = exec i (s.setPending rest) := by
  unfold step
  rw [h]

/-- Settles O1: a step by the front of the queue, a command by its frame or by its parts. -/
theorem stepRunsTheFrontCommand : Obligations.StepRunsTheFrontCommand :=
  ⟨fun _ _ _ h => step_of_command h, fun i s => exec_pending i s⟩

end Sys2Proof.Laws
end
